-- ==== Sys2Proof/Word.lean ====
section
/-! DEFINITION. The byte, the unit of everything that crosses a port (12_wire_formats.md). -/

namespace Sys2Proof

/-- A byte on a link or in a segment place. -/
abbrev Byte := BitVec 8

end Sys2Proof
end

