-- ==== Sys2Proof/Config.lean ====
section
/-! DEFINITION. The constants the manual fixes, and the free values it leaves open. -/

namespace Sys2Proof.Config

/-- Booking slots, numbered 1–96 (R17). -/
def bookingSlots : Nat := 96
/-- Bells, numbered 0–63 (section 3.3 of 00_scope.md). -/
def bells : Nat := 64
/-- Melody slots, numbered 0–63 (R150). -/
def melodySlots : Nat := 64
/-- Segment positions of a melody slot (R150). -/
def segments : Nat := 16
/-- Places of the strike queue (R98). -/
def strikeQueueMax : Nat := 48
/-- Places of the stream queue (R139). -/
def streamQueueMax : Nat := 32
/-- Queue level at or below which a taking raises FEED (R142). -/
def feedLevel : Nat := 8
/-- Places of the preemption stack (R50). -/
def stackMax : Nat := 3
/-- Entries of the orphan outcome list (R32). -/
def orphanMax : Nat := 8
/-- Entries of the read queue (R170). -/
def readQueueMax : Nat := 8
/-- Errors kept in the pulse history (R5). -/
def historyMax : Nat := 16
/-- Start lead of a take-up, µs (R48). -/
def startLead : Nat := 500000
/-- Planning horizon, µs (R82). -/
def horizon : Nat := 400000
/-- Largest restrike shift, µs (R106). -/
def restrikeShift : Nat := 30000
/-- Lateness above which a strike counts late, µs (R107). -/
def lateLimit : Nat := 20000
/-- Lateness above which a strike is lost or dropped, µs (R107, R130). -/
def dropLimit : Nat := 250000
/-- Idle limit of a live context, µs (R145). -/
def idleLimit : Nat := 30000000
/-- Pulse timeout, µs after the last valid pulse (R10). -/
def pulseTimeout : Nat := 3000000
/-- Phase errors above this are stepped, not slewed, µs (R9). -/
def slewLimit : Nat := 20000
/-- Patience of a NOW or LIVE booking, s (R46). -/
def nowPatience : Nat := 600
/-- Days of 2000-01-01 … 2099-12-31 (R20). -/
def calendarDays : Nat := 36525
/-- Seconds of a day. -/
def daySeconds : Nat := 86400
/-- Calendar seconds of the whole range (R3). -/
def calendarSeconds : Nat := calendarDays * daySeconds
/-- Crystal period in 512ths of a µs: 1,000,000 / 32,768 = 15,625 / 512 (R1). -/
def periodTicks : Nat := 15625
/-- Largest body of a frame, bytes (R179). -/
def bodyMax : Nat := 1040
/-- Broadcast address of the main link (R181). -/
def broadcastAddress : Nat := 0
/-- Own address of the service port (R178). -/
def serviceAddress : Nat := 255

/-- How many events the `n`th part-written or unverified segment place reads as holding, before it is
brought to 0–256 (R152). The manual does not give it; no body, so nothing can be proved of it (log 11). -/
opaque freeEvents : Nat → Nat

/-- Byte `i` of what the `n`th part-written or unverified segment place reads as. The manual does not give
it (R157, R165, R174); no body, so nothing can be proved of it (log 11). -/
opaque freeByte : Nat → Nat → Byte

/-- The index byte of a MELODY INFO whose pending operation has no index. The manual gives it no encoding
(section 12.4); no body, so nothing can be proved of it (log 23). -/
opaque noIndex : Byte

/-- The base tempo byte of a MELODY INFO for a TOLL, which holds no base tempo. The manual gives it no
absent encoding (section 12.3); no body, so nothing can be proved of it (log 36). -/
opaque noTempo : Byte

/-- Which event, by number, four event bytes that the layout does not name stand for in a read that passed its
checks. The manual does not say (R87, R152); no body, so nothing can be proved of it (log 17). -/
opaque unknownEvent : List Byte → Nat

/-- Whether B is taken of two passing protection copies whose sequence numbers are neither equal nor one
step apart. The manual has no row for them (R163); no body, so nothing can be proved of it (log 28). -/
opaque unorderedTakesB : Nat → Nat → Bool

end Sys2Proof.Config
end

