-- ==== Sys2Proof/Syntax.lean ====
section
/-! DEFINITION. The commands of the TB64: one constructor per row of spec/opcode_table.json. -/

namespace Sys2Proof

/-- The two link interfaces (R178). -/
inductive Port where
  | main
  | service
deriving DecidableEq, Repr

/-- The strap pins as they stand when a reset reads them (R178). -/
structure Straps where
  /-- five address straps -/
  address : Fin 32
  /-- 115,200 baud when set, 38,400 otherwise -/
  fast : Bool
deriving DecidableEq, Repr

/-- The line levels as they stand when power is applied (section 1.1, R133, R164, R177). -/
structure Pins where
  hush : Bool
  driveReady : Bool
  key : Bool
  /-- bit i set: the hammer-return input of bell i is open -/
  sensors : BitVec 64
  /-- the measurement made as power-on takes effect (R133) -/
  measurement : Byte
deriving DecidableEq, Repr

/-- How a modifying store operation ended (R172). A program of the protection record can fail at
copy A or, with A written and verified, at copy B (R163); every other program fails at its one place. -/
inductive Completion where
  | verified
  | failed
  | failedAtCopyB
deriving DecidableEq, Repr

/-- The commands. A request row carries the port it arrived on and the body bytes of its frame
(12_wire_formats.md); the frame checks of R179–R181 have passed. -/
inductive Instr where
  /-- R1, R2, R16, R74, R116, R138, R165, R174, R187, R193 -/
  | powerOn (pins : Pins) (straps : Straps) (abortedAtCopyB : Bool)
  /-- R175 -/
  | towerReset (straps : Straps) (abortedAtCopyB : Bool)
  /-- R177 -/
  | loadComplete
  /-- R5 -/
  | referencePulse
  /-- R10 -/
  | pulseTimeout
  /-- R3 -/
  | normalAdvance
  /-- R11 -/
  | setTime (port : Port) (body : List Byte)
  /-- R13 -/
  | broadcastSetTime (body : List Byte)
  /-- R14 -/
  | readTime (port : Port) (body : List Byte)
  /-- R39 -/
  | book (port : Port) (body : List Byte)
  /-- R40 -/
  | amend (port : Port) (body : List Byte)
  /-- R42 -/
  | withdraw (port : Port) (body : List Byte)
  /-- R43 -/
  | lookUp (port : Port) (body : List Byte)
  /-- R44 -/
  | setCursor (port : Port) (body : List Byte)
  /-- R44 -/
  | browse (port : Port) (body : List Byte)
  /-- R45 -/
  | nextDue (port : Port) (body : List Byte)
  /-- R45 -/
  | readOutcomes (port : Port) (body : List Byte)
  /-- R72 -/
  | playNow (port : Port) (body : List Byte)
  /-- R64 -/
  | halt (port : Port) (body : List Byte)
  /-- R73 -/
  | performanceStatus (port : Port) (body : List Byte)
  /-- R140 -/
  | liveOpen (port : Port) (body : List Byte)
  /-- R141 -/
  | liveNotes (port : Port) (body : List Byte)
  /-- R143 -/
  | liveClose (port : Port) (body : List Byte)
  /-- R154 -/
  | defineMelody (port : Port) (body : List Byte)
  /-- R155 -/
  | storeSegment (port : Port) (body : List Byte)
  /-- R157 -/
  | readSegment (port : Port) (body : List Byte)
  /-- R156 -/
  | eraseMelody (port : Port) (body : List Byte)
  /-- R158 -/
  | melodyInfo (port : Port) (body : List Byte)
  /-- R118 -/
  | setBell (port : Port) (body : List Byte)
  /-- R121 -/
  | bellStatus (port : Port) (body : List Byte)
  /-- R120 -/
  | restoreBell (port : Port) (body : List Byte)
  /-- R137 -/
  | testStrike (port : Port) (body : List Byte)
  /-- R136 -/
  | setDrive (port : Port) (body : List Byte)
  /-- R161 -/
  | setProtection (port : Port) (body : List Byte)
  /-- R191 -/
  | readNotices (port : Port) (body : List Byte)
  /-- R190 -/
  | setNoticeMask (port : Port) (body : List Byte)
  /-- R186 -/
  | reset (port : Port) (body : List Byte)
  /-- R186 -/
  | resetTakesEffect (straps : Straps) (abortedAtCopyB : Bool)
  /-- R184 -/
  | unknownRequest (port : Port) (code : Byte) (body : List Byte)
  /-- R180 -/
  | frameDiscard (port : Port) (bytes : List Byte)
  /-- R180 -/
  | foreignFrame (port : Port) (bytes : List Byte)
  /-- R179 -/
  | frameGapTimeout (port : Port) (bytes : List Byte)
  /-- R183 -/
  | answerTransmitStart (port : Port)
  /-- R182 -/
  | answerSent (port : Port)
  /-- R164 -/
  | keyChange (on : Bool)
  /-- R68 -/
  | hushAssert
  /-- R69 -/
  | hushRelease
  /-- R70, R134 -/
  | driveReadyFall
  /-- R71, R134 -/
  | driveReadyRise
  /-- R132 -/
  | bankMeasurement (value : Byte)
  /-- R122 -/
  | sensorOpens (bell : Fin 64)
  /-- R124 -/
  | sensorCloses (bell : Fin 64)
  /-- R128 -/
  | fireTimeReached
  /-- R123 -/
  | pulseEnd (bell : Fin 64)
  /-- R124 -/
  | returnLimit (bell : Fin 64)
  /-- R125 -/
  | recoveryTime (bell : Fin 64)
  /-- R130 -/
  | entryDrop
  /-- R82 -/
  | planningHorizonReached
  /-- R144 -/
  | feedDeadline
  /-- R145 -/
  | idleLimit
  /-- R172 -/
  | storeCompletion (result : Completion)
  /-- R171 -/
  | suspendEnd
  /-- R87; `noise` is combined by exclusive-or into the bytes the place holds: empty for a clean
  read, otherwise what a weak location did to this one read (section 4.10, log 12) -/
  | segmentReadCompletion (noise : List Byte)
deriving DecidableEq, Repr

end Sys2Proof
end

