-- ==== Sys2Proof/Decode.lean ====
section
/-! DEFINITION. The decoder the host asks for. spec/opcode_table.json gives no row any bits: commands
are frames, line edges and timer events, not words, so no word spells a command. -/

namespace Sys2Proof

/-- The command a table word spells: none, because the table gives bits to no row. -/
def decodeTableWord (_nbits _w : Nat) : Option Instr := none

end Sys2Proof
end

