-- ==== Sys2Proof/Machine/State.lean ====
section
/-! DEFINITION. The state of the TB64, block by block (00_scope.md, section 1.2), the reasons a
command could stop, and the state right after power-on. Plain data throughout.

Times of the performance clock are µs counted from power-on (`Nat`); calendar seconds are seconds
counted from 2000-01-01 00:00:00 (`Nat`); dates are days counted from 2000-01-01 (`Nat`). -/

namespace Sys2Proof.Machine

/-! ## Tower Time Unit (01_tower_time.md) -/

/-- R4 -/
inductive TimeState where
  | unset
  | free
  | locked
  | holdover
deriving DecidableEq, Repr

/-- The Tower Time Unit's state, section 1.9. -/
structure TowerTime where
  /-- performance clock, µs (R1) -/
  clock : Nat
  /-- what the crystal periods have left over, in 512ths of a µs (R1) -/
  clockFrac : Nat
  /-- calendar second (R2) -/
  second : Nat
  /-- sub-second count, µs (R2) -/
  sub : Nat
  /-- fraction of the sub-second count, ten-millionths of a µs (R2) -/
  subFrac : Nat
  /-- pending slew, µs (R2, R9) -/
  slew : Int
  /-- µs of the corrected time counted toward the next µs of slew (R2, log 4) -/
  slewAcc : Nat
  state : TimeState
  /-- phase-locked flag (R8) -/
  locked : Bool
  /-- consecutive valid count, 0–3 (R5) -/
  count : Nat
  /-- pulse anchor (R5) -/
  anchor : Option Nat
  /-- pulse history, oldest first, at most 16 (R5) -/
  history : List Int
  /-- correction in 0.1 ppm (R6) -/
  correction : Int
  /-- clock time at which the pulse timeout expires, while it runs (R10) -/
  timeout : Option Nat
deriving DecidableEq, Repr

/-! ## Booking Book (02_the_booking_book.md) -/

/-- R17 -/
inductive BookingKind where
  | once
  | daily
  | weekly
  | hourly
  | now
  | live
deriving DecidableEq, Repr

/-- How a booking competes (R53). -/
inductive BookingClass where
  | interrupt
  | replace
  | wait
deriving DecidableEq, Repr

/-- R23 -/
inductive BookingState where
  | armed
  | dormant
  | due
  | sounding
  | suspended
  | spent
deriving DecidableEq, Repr

/-- R30 -/
inductive OutcomeKind where
  | played
  | cut
  | missed
  | halted
  | noScore
  | scoreDamaged
  | noDrive
  | driveLost
deriving DecidableEq, Repr

/-- R30 -/
inductive OutcomeCause where
  | patience
  | stillSounding
  | timeStep
  | replaced
  | displaced
  | withdrawn
  | idle
deriving DecidableEq, Repr

/-- Strikes fired, late, lost and substituted, each 0–65535 saturating (R48, R110). -/
structure StrikeCounts where
  fired : Nat
  late : Nat
  lost : Nat
  substituted : Nat
deriving DecidableEq, Repr

/-- R30 -/
structure OutcomeRecord where
  kind : OutcomeKind
  cause : Option OutcomeCause
  /-- absent for NOW and LIVE -/
  occurrence : Option Nat
  counts : StrikeCounts
deriving DecidableEq, Repr

/-- A booking's time of day; the hour of an HOURLY booking is absent (R18). -/
structure TimeOfDay where
  hour : Option Nat
  minute : Nat
  second : Nat
deriving DecidableEq, Repr

/-- The host-written fields (section 2.1). -/
structure BookingRecord where
  kind : BookingKind
  date : Option Nat
  time : Option TimeOfDay
  /-- bit 0 Monday … bit 6 Sunday; empty when absent -/
  weekdays : BitVec 7
  /-- first and last hour; absent means 0–23 -/
  window : Option (Nat × Nat)
  validFrom : Option Nat
  validUntil : Option Nat
  melody : Option Nat
  cls : BookingClass
  rank : Nat
  /-- seconds -/
  patience : Nat
  tempo : Option Nat
  transposition : Int
  volume : Nat
  repeats : Nat
  substitution : Bool
  /-- KEPT when set, TEMPORARY when clear (R41) -/
  kept : Bool
  enabled : Bool
deriving DecidableEq, Repr

/-- A booking: its host-written record and its device-owned fields (section 2.1, R19). -/
structure Booking where
  record : BookingRecord
  state : BookingState
  next : Option Nat
  current : Option Nat
  /-- NOW and LIVE only (R46) -/
  creation : Option Nat
  /-- seconds, while DUE (R28) -/
  waiting : Option Nat
  lastDisposed : Option Nat
  lastOutcome : Option OutcomeRecord
  unread : Bool
  missed : Nat
deriving DecidableEq, Repr

/-- R17 -/
inductive Slot where
  | free
  | reserved
  | occupied (b : Booking)
deriving DecidableEq, Repr

/-- An entry of the orphan outcome list (R32). -/
structure Orphan where
  number : Nat
  kind : BookingKind
  outcome : OutcomeRecord
deriving DecidableEq, Repr

/-- The Booking Book. `slots` holds slots 1–96 in order. -/
structure Book where
  slots : List Slot
  /-- oldest first, at most 8 (R32) -/
  orphans : List Orphan
deriving DecidableEq, Repr

/-! ## Precedence Engine (03_precedence_and_preemption.md) -/

/-- R150 -/
inductive MelodyKind where
  | score
  | toll
deriving DecidableEq, Repr

/-- R49 -/
inductive ContextMode where
  | playing
  | hushed
deriving DecidableEq, Repr

/-- A stored pending halt (R66, R67). -/
inductive PendingHalt where
  | atPhrase
  | atEnd
deriving DecidableEq, Repr

/-- The planning position (R75): for a SCORE the segment and event to be reached next and the score
tick its delta counts from; for a TOLL `number` is the toll to be reached next; for a LIVE context
`number` is the running event count and `tick` the tick of the last event taken. -/
structure PlanPos where
  segment : Nat
  event : Nat
  tick : Nat
  number : Nat
deriving DecidableEq, Repr

/-- The resume point (R57): a planning position, the score tick (or toll number) the time origin is
paired with when the context is taken up there, and the tempo in force there. -/
structure ResumePoint where
  pos : PlanPos
  tick : Nat
  tempo : Nat
deriving DecidableEq, Repr

/-- A performance context (R48). -/
structure Context where
  booking : Nat
  kind : BookingKind
  melody : Option Nat
  melodyKind : Option MelodyKind
  occurrence : Option Nat
  cls : BookingClass
  rank : Nat
  /-- the context's tempo, from which each repetition begins -/
  tempo : Nat
  transposition : Int
  volume : Nat
  substitution : Bool
  repeats : Nat
  repeatNo : Nat
  pos : PlanPos
  resume : ResumePoint
  /-- the time origin (M0, t0) -/
  originTime : Nat
  originTick : Nat
  /-- the tempo in force (R75) -/
  tempoNow : Nat
  counts : StrikeCounts
  pendingHalt : Option PendingHalt
  mode : ContextMode
  /-- LIVE only (R144) -/
  feedDeadline : Option Nat
  /-- TOLL only: tolls of one repetition (R95) -/
  tollCount : Nat
  /-- start tick of the current repetition (R81) -/
  repStart : Nat
  /-- the repetition whose end is the last to be played: the repeats, and from the moment AT_END is stored the
  repeat number of that moment (R90, R96); a TOLL reads it -/
  lastRepeat : Nat
  /-- a SCORE that was taken up at its resume point and has reached nothing since (R61, R69, R90) -/
  atResume : Bool
  /-- segments that failed twice while this context played them (R88) -/
  failed : List Nat
deriving DecidableEq, Repr

/-- The Precedence Engine. -/
structure Engine where
  active : Option Context
  /-- suspended contexts, top first, at most 3 (R50) -/
  stack : List Context
  /-- booking numbers in the order of R51 -/
  waiting : List Nat
deriving DecidableEq, Repr

/-! ## Score Player (04_score_playback.md) -/

/-- Score and live events (section 4.2, R152). A live stream holds no PHRASE (R139). -/
inductive Event where
  | note (pitch strength delta : Nat)
  | rest (delta : Nat)
  | tempo (value delta : Nat)
  | phrase (delta : Nat)
deriving DecidableEq, Repr

/-- A segment: its header fields (R152), then its events. -/
structure Segment where
  slot : Nat
  index : Nat
  lengthCode : Nat
  eventCount : Nat
  crc : Nat
  events : List Event
deriving DecidableEq, Repr

/-- A segment buffer (R85): a read is outstanding for a segment index, or one of it failed twice; a HELD one holds
the segment's header and events. -/
inductive Buffer where
  | free
  | reading (segment : Nat)
  | retrying (segment : Nat)
  | held (segment : Segment)
  | failed (segment : Nat)
deriving DecidableEq, Repr

/-- The score position a hand-over carries (R94). A TOLL or LIVE position is its number alone. -/
structure ScorePos where
  repeatNo : Nat
  segment : Nat
  event : Nat
  tick : Nat
  number : Nat
deriving DecidableEq, Repr

/-- By what planning became done (R89): its end or stop point, or a failed segment (R88). -/
inductive PlanningDone where
  | complete
  | damaged
deriving DecidableEq, Repr

/-- The Score Player's playback of the active context (R75). -/
structure Player where
  cur : Buffer
  next : Buffer
  /-- repeat number, segment and event of the stop point of an AT_PHRASE halt (R90) -/
  stopPoint : Option (Nat × Nat × Nat)
  done : Option PlanningDone
deriving DecidableEq, Repr

/-! ## Strike Planner (05_strike_planning.md) -/

/-- R99 -/
inductive Owner where
  | booking (number : Nat)
  | test
deriving DecidableEq, Repr

/-- A strike entry (R99). -/
structure StrikeEntry where
  bell : Nat
  owner : Owner
  pos : Option ScorePos
  due : Nat
  flight : Nat
  fireTime : Nat
  lateness : Nat
  late : Bool
  strength : Nat
  width : Nat
deriving DecidableEq, Repr

/-- The Strike Planner; `busyUntil` and `lastFire` hold one entry per bell (R98, R105). -/
structure Planner where
  queue : List StrikeEntry
  busyUntil : List (Option Nat)
  lastFire : List (Option Nat)
  /-- the instant at which a test hand-over filled the last place of the queue, until the Score Player next
  hands a note over (R100, stage 3; log 55) -/
  testFilled : Option Nat
deriving DecidableEq, Repr

/-! ## Drive Unit (06_bells_hammers_and_the_drive_supply.md) -/

/-- Host-written fields of a bell record (R117). -/
structure BellRecord where
  present : Bool
  pitch : Nat
  sensor : Bool
  emin : Nat
  flo : Nat
  fhi : Nat
  wmin : Nat
  wmax : Nat
  h : Nat
  r : Nat
deriving DecidableEq, Repr

/-- R117 -/
inductive BellState where
  | ready
  | driven
  | returning
  | recovering
  | faulted
  | off
deriving DecidableEq, Repr

/-- R117 -/
inductive FaultCause where
  | noLift
  | noReturn
deriving DecidableEq, Repr

/-- Cycle values captured at the fire (R117, R122), and the return limit while RETURNING (R124). -/
structure Cycle where
  a : Nat
  width : Nat
  h : Nat
  r : Nat
  sensor : Bool
  seenOpen : Bool
  returnLimit : Option Nat
deriving DecidableEq, Repr

/-- A bell: record, device-owned fields, and the level of its hammer-return input. -/
structure Bell where
  record : BellRecord
  state : BellState
  strikes : Nat
  lastFault : Option FaultCause
  cycle : Option Cycle
  sensorOpen : Bool
  /-- the model's own: the reading of the performance clock at which a fault or a bell record last took the bell out
  of use, and the pitch it carried until then (R100, stage 2; log 62) -/
  wentOut : Option (Nat × Nat)
deriving DecidableEq, Repr

/-- R132 -/
inductive BankLevel where
  | normal
  | low
  | critical
deriving DecidableEq, Repr

/-- Drive settings kept in the store (R136, R166). -/
structure DriveSettings where
  k : Nat
  low : Nat
  critical : Nat
deriving DecidableEq, Repr

/-- The Drive Unit. `bells` holds bells 0–63 in order. -/
structure Drive where
  bells : List Bell
  /-- K in force (R127) -/
  k : Nat
  /-- requested K (R131) -/
  requestedK : Option Nat
  energised : Nat
  measurement : Nat
  low : Nat
  critical : Nat
  level : BankLevel
  /-- DRIVE READY as last seen (R134) -/
  ready : Bool
  /-- HUSH as last seen (R135) -/
  hush : Bool
deriving DecidableEq, Repr

/-! ## Live Feed (07_live_play.md) -/

/-- R139 -/
inductive FeedMode where
  | opened
  | closing
  | stopped
deriving DecidableEq, Repr

/-- The idle time (R145): the value kept so far, and the clock time it runs on from while it runs. -/
structure IdleTime where
  kept : Nat
  since : Option Nat
deriving DecidableEq, Repr

/-- The feed of the one LIVE booking (R139). -/
structure LiveFeed where
  booking : Nat
  queue : List Event
  mode : FeedMode
  /-- an AT_END halt entered CLOSING, or found it entered by LIVE CLOSE: the outcome is HALTED (R67, R143, R147;
  log 22) -/
  endsHalted : Bool
  underruns : Nat
  idle : IdleTime
deriving DecidableEq, Repr

/-! ## Melody Library (08_the_melody_library_and_its_guard.md) -/

/-- R150 -/
inductive CountMode where
  | hour
  | quarter
  | fixed (n : Nat)
deriving DecidableEq, Repr

/-- The fields of a header that only its kind uses (R150). -/
inductive MelodyShape where
  | score (segmentCount : Nat)
  | toll (pitch strength interval : Nat) (mode : CountMode)
deriving DecidableEq, Repr

/-- A melody header (R150). -/
structure MelodyHeader where
  /-- character codes -/
  name : List Nat
  /-- not used by a TOLL, which holds none (R150, R154) -/
  baseTempo : Option Nat
  shape : MelodyShape
deriving DecidableEq, Repr

/-- R150 -/
inductive HeaderField where
  | absent
  | unreadable
  | known (h : MelodyHeader)
deriving DecidableEq, Repr

/-- R151 -/
inductive SlotState where
  | empty
  | defined
  | complete
deriving DecidableEq, Repr

/-- R150 -/
inductive SegmentPosition where
  | absent
  | present
  | spoiled
deriving DecidableEq, Repr

/-- R150 -/
inductive PendingOp where
  | none
  | define
  | segment (index : Nat)
  | erase
deriving DecidableEq, Repr

/-- A working-table entry (R150). -/
structure MelodySlot where
  state : SlotState
  header : HeaderField
  positions : List SegmentPosition
  damaged : Bool
  pending : PendingOp
deriving DecidableEq, Repr

/-- R159 -/
inductive GuardExtent where
  | none
  | eighth
  | quarter
  | half
  | all
deriving DecidableEq, Repr

/-- The guard settings (R159); `high` is side HIGH. -/
structure Guard where
  high : Bool
  extent : GuardExtent
  complement : Bool
deriving DecidableEq, Repr

/-- R160 -/
inductive ProtectionMode where
  | opened
  | keyed
  | permanent
deriving DecidableEq, Repr

/-- The protection record (R163). -/
structure ProtectionRecord where
  mode : ProtectionMode
  guard : Guard
  sequence : Nat
deriving DecidableEq, Repr

/-- The Melody Library. `slots` holds melody slots 0–63 in order. -/
structure Library where
  slots : List MelodySlot
  protection : ProtectionRecord
  lockFlag : Bool
  /-- KEY input (R164) -/
  key : Bool
deriving DecidableEq, Repr

/-! ## Nonvolatile Store (09_the_nonvolatile_store.md) -/

/-- What a place with its own check holds (R166): nothing, a whole record, or bytes that fail the check. -/
inductive Content (α : Type) where
  | empty
  | whole (v : α)
  | failing
deriving DecidableEq, Repr

/-- A place and its failed-program marker (R166). -/
structure Place (α : Type) where
  content : Content α
  failedProgram : Bool
deriving DecidableEq, Repr

/-- A segment place: blank, a programmed and verified segment, or one whose program was cut or failed
its verify, which fails its CRC whenever it is read (R165, R174) and reads as bytes the manual does not give. -/
inductive SegmentPlace where
  | blank
  | programmed (bytes : List Byte)
  | spoiled (bytes : List Byte)
deriving DecidableEq, Repr

/-- The places and markers of the store (R166). -/
structure Places where
  bookings : List (Place BookingRecord)
  bells : List (Place BellRecord)
  drive : Place DriveSettings
  copyA : Content ProtectionRecord
  copyB : Content ProtectionRecord
  headers : List (Place MelodyHeader)
  /-- 64 × 16 -/
  segments : List (List SegmentPlace)
  /-- program-begun markers, 64 × 16 -/
  programBegun : List (List Bool)
  /-- erase-begun markers, 64 -/
  eraseBegun : List Bool
deriving DecidableEq, Repr

/-- The request a modifying operation belongs to, with what it writes (R167, R172). -/
inductive StoreJob where
  | book (number : Nat) (record : BookingRecord)
  | amend (number : Nat) (record : BookingRecord)
  | withdraw (number : Nat)
  | setBell (bell : Nat) (record : BellRecord)
  | setDrive (settings : DriveSettings)
  | setProtection (record : ProtectionRecord)
  | define (slot : Nat) (header : MelodyHeader)
  | segment (slot index : Nat) (bytes : List Byte)
  | erase (slot : Nat)
deriving DecidableEq, Repr

/-- The modifying operation in hand (R167). -/
structure StoreOp where
  job : StoreJob
  port : Port
  /-- its work has begun (R169) -/
  begun : Bool
deriving DecidableEq, Repr

/-- R168 -/
inductive StoreState where
  | idle
  | programming
  | erasing
  | programSuspended
  | eraseSuspended
deriving DecidableEq, Repr

/-- Who asked for a segment read (R170). A read of the Score Player whose buffer has been released
stays in the queue as `released`. -/
inductive Requester where
  | buffer (released : Bool)
  | port (p : Port)
deriving DecidableEq, Repr

/-- An entry of the read queue (R170). -/
structure ReadRequest where
  slot : Nat
  segment : Nat
  requester : Requester
deriving DecidableEq, Repr

/-- The Store Controller. -/
structure Store where
  places : Places
  state : StoreState
  op : Option StoreOp
  /-- a suspend is under way (R171) -/
  suspending : Bool
  /-- oldest first, at most 8 (R170) -/
  reads : List ReadRequest
  /-- the start-up load is in progress (R175) -/
  loading : Bool
  /-- load discard count (R176) -/
  discards : Nat
deriving DecidableEq, Repr

/-! ## Command Links (10_command_links.md) -/

/-- Answer codes (section 10.5). -/
inductive AnswerCode where
  | done
  | portBusy
  | starting
  | storeBusy
  | storeFault
  | noSuch
  | tableFull
  | badField
  | privilege
  | guarded
  | isProtected
  | inUse
  | notEmpty
  | liveBusy
  | unknownRequest
deriving DecidableEq, Repr

/-- An answer: its code, the request code it echoes, and its body (R194). -/
structure Answer where
  code : AnswerCode
  request : Byte
  body : List Byte
deriving DecidableEq, Repr

/-- An answer being sent and the frame bytes it goes out as (section 12.2). -/
structure Transmission where
  answer : Answer
  frame : List Byte
deriving DecidableEq, Repr

/-- One port (section 10, R187). -/
structure PortState where
  /-- the receive buffer: the bytes of the frame in reception, at most 1,046; of a stray run or a frame out of range
  only those that open it, the rest being dropped; empty while hunting (R179) -/
  rx : List Byte
  /-- outstanding-request flag (R182) -/
  outstanding : Bool
  /-- the busy slot holds a PORT_BUSY answer not yet sent (R182) -/
  busySlot : Bool
  /-- answers ready to be sent, in the order they became ready (R183) -/
  ready : List Answer
  sending : Option Transmission
  /-- browse cursor, 1–97 (R44) -/
  cursor : Nat
  /-- frame error count, saturating at 65535 (R180) -/
  errors : Nat
deriving DecidableEq, Repr

/-- The Link Interface. -/
structure Links where
  main : PortState
  service : PortState
  /-- the main port's own address as read from the straps; 0 is none (R178) -/
  address : Nat
  /-- the main port runs at 115,200 baud (R178) -/
  fast : Bool
  /-- a RESET request is pending (R186) -/
  resetPending : Bool
deriving DecidableEq, Repr

/-! ## Notice Unit (11_notices_and_status.md) -/

/-- The seven notices, as flags or as enables (R188, R189). -/
structure NoticeBits where
  outcome : Bool
  feed : Bool
  bell : Bool
  time : Bool
  drive : Bool
  store : Bool
  link : Bool
deriving DecidableEq, Repr

/-- R192 -/
inductive ResetCause where
  | powerOn
  | towerReset
  | resetRequest
deriving DecidableEq, Repr

/-- The Notice Unit. -/
structure Notices where
  flags : NoticeBits
  enables : NoticeBits
  cause : ResetCause
deriving DecidableEq, Repr

/-! ## The whole part -/

/-- The state of the TB64, and the queue of commands that are waiting. -/
structure State where
  time : TowerTime
  book : Book
  engine : Engine
  player : Player
  planner : Planner
  drive : Drive
  live : Option LiveFeed
  library : Library
  store : Store
  links : Links
  notices : Notices
  /-- the model's own: how many free values have been drawn (log 11) -/
  freeCount : Nat
  /-- commands waiting, first in, first out -/
  pending : List Instr
deriving DecidableEq, Repr

/-- Reasons a command could stop the part: none. The manual describes no machine stop; hammer, store,
segment and link errors are state changes with notices. -/
inductive Fault where
deriving DecidableEq, Repr

/-- Reasons a command could be refused without a meaning. -/
inductive Refusal where
  /-- raised by a command that has no meaning in the model; safe; no arm of exec raises it -/
  | notModelled (mnemonic : String)
deriving DecidableEq, Repr

/-! ## Reset values -/

/-- Every count 0. -/
def StrikeCounts.zero : StrikeCounts := ⟨0, 0, 0, 0⟩

/-- Section 1.9, power-on column. -/
def TowerTime.powerOn : TowerTime where
  clock := 0
  clockFrac := 0
  second := 0
  sub := 0
  subFrac := 0
  slew := 0
  slewAcc := 0
  state := .unset
  locked := false
  count := 0
  anchor := none
  history := []
  correction := 0
  timeout := none

/-- R47: no records, no reservation, no orphan outcome. -/
def Book.initial : Book := ⟨List.replicate Config.bookingSlots .free, []⟩

/-- R74 -/
def Engine.initial : Engine := ⟨none, [], []⟩

/-- R75 -/
def Player.initial : Player := ⟨.free, .free, none, none⟩

/-- R116 -/
def Planner.initial : Planner :=
  ⟨[], List.replicate Config.bells none, List.replicate Config.bells none, none⟩

/-- The host-written values of a bell without a stored record (R117). -/
def BellRecord.default : BellRecord where
  present := false
  pitch := 0
  sensor := false
  emin := 1
  flo := 0
  fhi := 0
  wmin := 5
  wmax := 5
  h := 60
  r := 100

/-- A bell as it stands from a reset to the end of the load (R138, log 9), at its input level. -/
def Bell.initial (sensorOpen : Bool) : Bell where
  record := .default
  state := .off
  strikes := 0
  lastFault := none
  cycle := none
  sensorOpen := sensorOpen
  wentOut := none

/-- R136: the settings of a store that holds none. -/
def DriveSettings.default : DriveSettings := ⟨4, 160, 120⟩

/-- The Drive Unit as it stands from a reset to the end of the load (R138, log 9). -/
def Drive.initial (sensors : List Bool) (measurement : Nat) (ready hush : Bool) : Drive where
  bells := sensors.map Bell.initial
  k := DriveSettings.default.k
  requestedK := none
  energised := 0
  measurement := measurement
  low := DriveSettings.default.low
  critical := DriveSettings.default.critical
  level := .normal
  ready := ready
  hush := hush

/-- An EMPTY melody slot. -/
def MelodySlot.initial : MelodySlot where
  state := .empty
  header := .absent
  positions := List.replicate Config.segments .absent
  damaged := false
  pending := .none

/-- R163: the record in force when copy A fails or holds none and copy B holds none; its sequence
number is the model's choice (log 14). -/
def ProtectionRecord.default : ProtectionRecord := ⟨.opened, ⟨false, .none, false⟩, 0⟩

/-- R163: the record in force when no copy passes and copy B fails. -/
def ProtectionRecord.fallback : ProtectionRecord := ⟨.permanent, ⟨false, .all, false⟩, 0⟩

/-- The library as it stands from a reset to the end of the load (R165, log 9). -/
def Library.initial (lockFlag key : Bool) : Library where
  slots := List.replicate Config.melodySlots .initial
  protection := .default
  lockFlag := lockFlag
  key := key

/-- A place that was never programmed (R166). -/
def Place.blank {α : Type} : Place α := ⟨.empty, false⟩

/-- A store in which no place was ever programmed. -/
def Places.blank : Places where
  bookings := List.replicate Config.bookingSlots Place.blank
  bells := List.replicate Config.bells Place.blank
  drive := Place.blank
  copyA := .empty
  copyB := .empty
  headers := List.replicate Config.melodySlots Place.blank
  segments := List.replicate Config.melodySlots (List.replicate Config.segments .blank)
  programBegun := List.replicate Config.melodySlots (List.replicate Config.segments false)
  eraseBegun := List.replicate Config.melodySlots false

/-- The Store Controller with the start-up load just begun over these places (R168, R175), the load discard
count as it stood (R176). -/
def Store.loadingFrom (places : Places) (discards : Nat) : Store where
  places := places
  state := .idle
  op := none
  suspending := false
  reads := []
  loading := true
  discards := discards

/-- R187 -/
def PortState.initial : PortState where
  rx := []
  outstanding := false
  busySlot := false
  ready := []
  sending := none
  cursor := 1
  errors := 0

/-- R178, R187 -/
def Links.initial (straps : Straps) : Links where
  main := .initial
  service := .initial
  address := straps.address.val
  fast := straps.fast
  resetPending := false

/-- Every notice clear, or every enable off. -/
def NoticeBits.none : NoticeBits := ⟨false, false, false, false, false, false, false⟩

/-- R193 -/
def Notices.initial (cause : ResetCause) : Notices := ⟨.none, .none, cause⟩

/-- The part right after power-on, the start-up load just begun. The manual gives no line level, no
strap and no store content at power-on: here every line is released, low, off or closed, the straps
and the measurement are 0 and the store was never programmed (log 8). -/
def State.reset : State where
  time := .powerOn
  book := .initial
  engine := .initial
  player := .initial
  planner := .initial
  drive := .initial (List.replicate Config.bells false) 0 false false
  live := none
  library := .initial false false
  store := .loadingFrom .blank 0
  links := .initial ⟨0, false⟩
  notices := .initial .powerOn
  freeCount := 0
  pending := []

end Sys2Proof.Machine
end

