-- ==== Sys2Proof/Machine/Flags.lean ====
section
/-! DEFINITION. Notice flags, enables and the NOTICE line (11_notices_and_status.md). -/

namespace Sys2Proof.Machine

/-- The seven notices (R188). -/
inductive Notice where
  | outcome
  | feed
  | bell
  | time
  | drive
  | store
  | link
deriving DecidableEq, Repr

/-- Sets one bit. -/
def NoticeBits.set (b : NoticeBits) : Notice → NoticeBits
  | .outcome => { b with outcome := true }
  | .feed => { b with feed := true }
  | .bell => { b with bell := true }
  | .time => { b with time := true }
  | .drive => { b with drive := true }
  | .store => { b with store := true }
  | .link => { b with link := true }

/-- Reads one bit. -/
def NoticeBits.get (b : NoticeBits) : Notice → Bool
  | .outcome => b.outcome
  | .feed => b.feed
  | .bell => b.bell
  | .time => b.time
  | .drive => b.drive
  | .store => b.store
  | .link => b.link

/-- R188: a raise sets the flag; a flag already set stays set. -/
def State.raise (n : Notice) (s : State) : State :=
  { s with notices := { s.notices with flags := s.notices.flags.set n } }

/-- Raises a notice when a condition holds. -/
def State.raiseIf (c : Bool) (n : Notice) (s : State) : State := if c then s.raise n else s

/-- R189: the NOTICE line is asserted while a flag is set whose enable is on. -/
def Notices.line (n : Notices) : Bool :=
  (n.flags.outcome && n.enables.outcome) || (n.flags.feed && n.enables.feed)
    || (n.flags.bell && n.enables.bell) || (n.flags.time && n.enables.time)
    || (n.flags.drive && n.enables.drive) || (n.flags.store && n.enables.store)
    || (n.flags.link && n.enables.link)

end Sys2Proof.Machine
end

