-- ==== Sys2Proof/Machine/Calendar.lean ====
section
/-! DEFINITION. The civil calendar of 2000–2099 (R3) and the occurrence arithmetic of the Booking
Book (R20–R23). Dates count days from 2000-01-01, calendar seconds count from its midnight. -/

namespace Sys2Proof.Machine

/-! ## Civil dates (R3, R11) -/

/-- February has 29 days in every year of 2000–2099 divisible by 4 (R3). -/
def isLeap (year : Nat) : Bool := year % 4 == 0

/-- Days of the twelve months of a year. -/
def monthLengths (year : Nat) : List Nat :=
  [31, if isLeap year then 29 else 28, 31, 30, 31, 30, 31, 31, 30, 31, 30, 31]

/-- The day number of a real date of the civil calendar in 2000–2099, or none (R11, R18). -/
def dayOfDate (year month day : Nat) : Option Nat :=
  if 2000 ≤ year ∧ year ≤ 2099 ∧ 1 ≤ month ∧ month ≤ 12 ∧ 1 ≤ day
      ∧ day ≤ (monthLengths year).getD (month - 1) 0 then
    let y := year - 2000
    some (y * 365 + (y + 3) / 4 + ((monthLengths year).take (month - 1)).sum + (day - 1))
  else none

/-- Walks the month lengths: month and day (both from 1) of the `d`th day from the month's first. -/
def monthAndDay : List Nat → Nat → Nat → Nat × Nat
  | [], m, d => (m, d + 1)
  | len :: rest, m, d => if d < len then (m, d + 1) else monthAndDay rest (m + 1) (d - len)

/-- Year of a day number: each four years hold 1,461 days, the leap year first. -/
def yearOfDay (day : Nat) : Nat :=
  let q := day / 1461
  let r := day % 1461
  2000 + 4 * q + (if r < 366 then 0 else 1 + (r - 366) / 365)

/-- Days of the year before a day number. -/
def dayOfYear (day : Nat) : Nat :=
  let r := day % 1461
  if r < 366 then r else (r - 366) % 365

/-- Year, month and day of a day number. -/
def dateOfDay (day : Nat) : Nat × Nat × Nat :=
  let year := yearOfDay day
  let md := monthAndDay (monthLengths year) 1 (dayOfYear day)
  (year, md.1, md.2)

/-- Weekday of a day number, 0 Monday … 6 Sunday; 2000-01-01 is a Saturday (R20). -/
def weekday (day : Nat) : Nat := (day + 5) % 7

/-- The day a calendar second lies in. -/
def dayOfSecond (t : Nat) : Nat := t / Config.daySeconds

/-- Hour of a calendar second. -/
def hourOf (t : Nat) : Nat := t % Config.daySeconds / 3600

/-- Minute of a calendar second. -/
def minuteOf (t : Nat) : Nat := t % 3600 / 60

/-- Second of a calendar second. -/
def secondOf (t : Nat) : Nat := t % 60

/-- The calendar second of a day and a time of day. -/
def secondAt (day hour minute second : Nat) : Nat :=
  day * Config.daySeconds + hour * 3600 + minute * 60 + second

/-! ## Occurrences (R20, R21) -/

/-- Whether a date lies within a booking's validity dates (R21) and within the calendar (R20). -/
def BookingRecord.validOn (r : BookingRecord) (day : Nat) : Bool :=
  day < Config.calendarDays && (r.validFrom.getD 0 ≤ day)
    && (match r.validUntil with | none => true | some u => day ≤ u)

/-- Whether a booking's pattern falls on a date at all (R20). -/
def BookingRecord.patternOn (r : BookingRecord) (day : Nat) : Bool :=
  match r.kind with
  | .once => r.date == some day
  | .daily => true
  | .weekly => r.weekdays.getLsbD (weekday day)
  | .hourly => true
  | .now => false
  | .live => false

/-- The hours of a booking's pattern, in order (R20). -/
def BookingRecord.hours (r : BookingRecord) : List Nat :=
  match r.kind with
  | .once | .daily | .weekly =>
    match r.time with
    | some t => [t.hour.getD 0]
    | none => []
  | .hourly =>
    let w := r.window.getD (0, 23)
    (List.range (w.2 + 1 - w.1)).map (· + w.1)
  | .now | .live => []

/-- The occurrences of a booking on one date, in order (R20, R21). -/
def BookingRecord.occurrencesOn (r : BookingRecord) (day : Nat) : List Nat :=
  match r.time with
  | none => []
  | some t =>
    if r.validOn day && r.patternOn day then
      r.hours.map fun h => secondAt day h t.minute t.second
    else []

/-- Whether a calendar second is an occurrence of a booking (R21). -/
def BookingRecord.occursAt (r : BookingRecord) (t : Nat) : Bool :=
  (r.occurrencesOn (dayOfSecond t)).contains t

/-- The earliest occurrence at or after `lo` on the `n` dates from `day` on. -/
def BookingRecord.searchFrom (r : BookingRecord) (lo : Nat) : Nat → Nat → Option Nat
  | 0, _ => none
  | n + 1, day =>
    match (r.occurrencesOn day).find? (lo ≤ ·) with
    | some t => some t
    | none => r.searchFrom lo n (day + 1)

/-- The earliest occurrence at or after `lo`. A ONCE booking has one date to look at; every other
pattern falls within eight days of any valid date. -/
def BookingRecord.firstFrom (r : BookingRecord) (lo : Nat) : Option Nat :=
  match r.kind with
  | .once => (r.occurrencesOn (r.date.getD 0)).find? (lo ≤ ·)
  | .daily | .weekly | .hourly | .now | .live =>
    r.searchFrom lo 9 (max (dayOfSecond lo) (r.validFrom.getD 0))

/-- The occurrences in (lo, hi] on the `n` dates from `day` on, in order. -/
def BookingRecord.occurrencesFrom (r : BookingRecord) (lo hi : Nat) : Nat → Nat → List Nat
  | 0, _ => []
  | n + 1, day =>
    (r.occurrencesOn day).filter (fun t => lo < t && t ≤ hi) ++ r.occurrencesFrom lo hi n (day + 1)

/-- The occurrences later than `lo` and not later than `hi`, in order (R34, R35). -/
def BookingRecord.occurrencesIn (r : BookingRecord) (lo hi : Nat) : List Nat :=
  r.occurrencesFrom lo hi (dayOfSecond hi + 1 - dayOfSecond lo) (dayOfSecond lo)

/-! ## The next occurrence and the state (R22, R23) -/

/-- An optional bound as the first second later than it; 0 when absent. -/
def laterThan : Option Nat → Nat
  | none => 0
  | some t => t + 1

/-- R22 with a given lowest calendar second. -/
def Booking.nextAfter (b : Booking) (unset : Bool) (lo : Nat) : Option Nat :=
  if b.record.enabled && !unset then
    b.record.firstFrom (max lo (max (laterThan b.lastDisposed) (laterThan b.current)))
  else none

/-- R22: the next occurrence with the calendar second in force. -/
def Booking.nextOccurrence (b : Booking) (t : TowerTime) : Option Nat :=
  b.nextAfter (t.state == .unset) t.second

/-- R23's table, for a booking that is not DUE, SOUNDING or SUSPENDED. -/
def Booking.restState (b : Booking) (t : TowerTime) : BookingState :=
  if !b.record.enabled then .dormant
  else if t.state == .unset then .armed
  else if b.next.isSome then .armed
  else .spent

/-- Whether a booking is DUE, SOUNDING or SUSPENDED. -/
def Booking.busy (b : Booking) : Bool :=
  match b.state with
  | .due | .sounding | .suspended => true
  | .armed | .dormant | .spent => false

/-- R22 and R23: the next occurrence, then the state of a booking that is not busy. -/
def Booking.recompute (b : Booking) (t : TowerTime) : Booking :=
  let b := { b with next := b.nextOccurrence t }
  if b.busy then b else { b with state := b.restState t }

/-- R31, last row: the booking stops being busy, and R22 and R23 give the rest. -/
def Booking.goOn (b : Booking) (t : TowerTime) : Booking :=
  { b with state := .armed }.recompute t

end Sys2Proof.Machine
end

