-- ==== Sys2Proof/Machine/Wire.lean ====
section
/-! DEFINITION. What the part puts on the wire: byte order, CRC, encodings of values, records and
frames (12_wire_formats.md, R153, R194). -/

namespace Sys2Proof.Machine

/-! ## Bytes -/

/-- `n` bytes of a number, most significant first (chapter 12, opening). -/
def be : Nat → Nat → List Byte
  | 0, _ => []
  | n + 1, v => BitVec.ofNat 8 (v / 256 ^ n) :: be n v

/-- The number that bytes give, most significant first. -/
def fromBe (bs : List Byte) : Nat := bs.foldl (fun a b => a * 256 + b.toNat) 0

/-- `n` bytes of a signed number in two's complement. -/
def beInt (n : Nat) (v : Int) : List Byte := be n (v % (256 ^ n : Nat)).toNat

/-- The absent encoding of most items: all bytes FFh (section 12.1). -/
def absentBytes (n : Nat) : List Byte := List.replicate n 0xFF

/-- A number that may be absent. -/
def beOpt (n : Nat) : Option Nat → List Byte
  | some v => be n v
  | none => absentBytes n

/-- A yes/no item. -/
def yesNo (b : Bool) : List Byte := [if b then 1 else 0]

/-! ## CRC (R153) -/

/-- One shift of the remainder: combined with 4,129 when a one bit leaves the top. -/
def crcShift (r : BitVec 16) : BitVec 16 := if r.msb then (r <<< 1) ^^^ 4129 else r <<< 1

/-- One byte: into the upper eight bits, then eight shifts. -/
def crcByte (r : BitVec 16) (b : Byte) : BitVec 16 :=
  let r := r ^^^ (b.zeroExtend 16 <<< 8)
  crcShift (crcShift (crcShift (crcShift (crcShift (crcShift (crcShift (crcShift r)))))))

/-- R153 -/
def crc16 (bs : List Byte) : BitVec 16 := bs.foldl crcByte 0xFFFF

/-! ## Times -/

/-- A date (4 bytes), or its absent encoding. -/
def encDate : Option Nat → List Byte
  | none => absentBytes 4
  | some day =>
    let ymd := dateOfDay day
    be 2 ymd.1 ++ be 1 ymd.2.1 ++ be 1 ymd.2.2

/-- A time of day; an absent hour alone is FFh (HOURLY). -/
def encTime : Option TimeOfDay → List Byte
  | none => absentBytes 3
  | some t => beOpt 1 t.hour ++ be 1 t.minute ++ be 1 t.second

/-- A calendar second (7 bytes), or its absent encoding. -/
def encSecond : Option Nat → List Byte
  | none => absentBytes 7
  | some t =>
    encDate (some (dayOfSecond t)) ++ be 1 (hourOf t) ++ be 1 (minuteOf t) ++ be 1 (secondOf t)

/-! ## Enumerations (section 12.1) -/

def BookingKind.code : BookingKind → Nat
  | .once => 0
  | .daily => 1
  | .weekly => 2
  | .hourly => 3
  | .now => 4
  | .live => 5

def BookingClass.code : BookingClass → Nat
  | .interrupt => 0
  | .replace => 1
  | .wait => 2

def BookingState.code : BookingState → Nat
  | .armed => 0
  | .dormant => 1
  | .due => 2
  | .sounding => 3
  | .suspended => 4
  | .spent => 5

def OutcomeKind.code : OutcomeKind → Nat
  | .played => 0
  | .cut => 1
  | .missed => 2
  | .halted => 3
  | .noScore => 4
  | .scoreDamaged => 5
  | .noDrive => 6
  | .driveLost => 7

def OutcomeCause.code : OutcomeCause → Nat
  | .patience => 0
  | .stillSounding => 1
  | .timeStep => 2
  | .replaced => 3
  | .displaced => 4
  | .withdrawn => 5
  | .idle => 6

def BellState.code : BellState → Nat
  | .ready => 0
  | .driven => 1
  | .returning => 2
  | .recovering => 3
  | .faulted => 4
  | .off => 5

def FaultCause.code : FaultCause → Nat
  | .noLift => 0
  | .noReturn => 1

def TimeState.code : TimeState → Nat
  | .unset => 0
  | .free => 1
  | .locked => 2
  | .holdover => 3

def BankLevel.code : BankLevel → Nat
  | .normal => 0
  | .low => 1
  | .critical => 2

def haltCode : Option PendingHalt → Nat
  | none => 0
  | some .atPhrase => 2
  | some .atEnd => 3

def ContextMode.code : ContextMode → Nat
  | .playing => 0
  | .hushed => 1

def FeedMode.code : FeedMode → Nat
  | .opened => 0
  | .closing => 1
  | .stopped => 2

def SlotState.code : SlotState → Nat
  | .empty => 0
  | .defined => 1
  | .complete => 2

def SegmentPosition.code : SegmentPosition → Nat
  | .absent => 0
  | .present => 1
  | .spoiled => 2

def ProtectionMode.code : ProtectionMode → Nat
  | .opened => 0
  | .keyed => 1
  | .permanent => 2

def GuardExtent.code : GuardExtent → Nat
  | .none => 0
  | .eighth => 1
  | .quarter => 2
  | .half => 3
  | .all => 4

def ResetCause.code : ResetCause → Nat
  | .powerOn => 0
  | .towerReset => 1
  | .resetRequest => 2

/-- Section 12.2, answer codes. -/
def AnswerCode.code : AnswerCode → Nat
  | .done => 0
  | .portBusy => 1
  | .starting => 2
  | .storeBusy => 3
  | .storeFault => 4
  | .noSuch => 5
  | .tableFull => 6
  | .badField => 7
  | .privilege => 8
  | .guarded => 9
  | .isProtected => 10
  | .inUse => 11
  | .notEmpty => 12
  | .liveBusy => 13
  | .unknownRequest => 14

/-! ## Records (section 12.3) -/

/-- Four strike counts, 8 bytes. -/
def encCounts (c : StrikeCounts) : List Byte :=
  be 2 c.fired ++ be 2 c.late ++ be 2 c.lost ++ be 2 c.substituted

/-- An outcome record, 17 bytes. -/
def encOutcome : Option OutcomeRecord → List Byte
  | none => absentBytes 17
  | some o =>
    be 1 o.kind.code ++ beOpt 1 (o.cause.map OutcomeCause.code) ++ encSecond o.occurrence
      ++ encCounts o.counts

/-- The booking record, 40 bytes. -/
def encRecord (r : BookingRecord) : List Byte :=
  be 1 r.kind.code ++ encDate r.date ++ encTime r.time ++ be 1 r.weekdays.toNat
    ++ (match r.window with | none => absentBytes 2 | some w => be 1 w.1 ++ be 1 w.2)
    ++ encDate r.validFrom ++ encDate r.validUntil ++ beOpt 1 r.melody ++ be 1 r.cls.code
    ++ be 1 r.rank ++ be 2 r.patience ++ beOpt 1 r.tempo ++ beInt 1 r.transposition
    ++ be 1 r.volume ++ be 1 r.repeats ++ yesNo r.substitution ++ be 1 (if r.kept then 0 else 1)
    ++ yesNo r.enabled ++ List.replicate 9 0

/-- A booking as LOOK UP and BROWSE return it, 92 bytes. -/
def encBooking (number : Nat) (b : Booking) : List Byte :=
  be 1 number ++ encRecord b.record ++ be 1 b.state.code ++ encSecond b.next
    ++ encSecond b.current ++ encSecond b.creation ++ beOpt 2 b.waiting
    ++ encSecond b.lastDisposed ++ yesNo b.unread ++ be 2 b.missed ++ encOutcome b.lastOutcome

/-- The melody header, 25 bytes. No encoding is given for the base tempo a TOLL does not hold: a free value
(DESIGN CHOICE, log 36). -/
def encHeader (h : MelodyHeader) : List Byte :=
  be 1 (match h.shape with | .score _ => 0 | .toll .. => 1)
    ++ ((h.name.map fun c => BitVec.ofNat 8 c) ++ List.replicate (16 - h.name.length) 0)
    ++ (match h.baseTempo with | some v => be 1 v | none => [Config.noTempo])
    ++ (match h.shape with
        | .score n => be 1 n ++ absentBytes 6
        | .toll pitch strength interval mode =>
          absentBytes 1 ++ be 1 pitch ++ be 1 strength ++ be 2 interval
            ++ (match mode with
                | .hour => be 1 0 ++ absentBytes 1
                | .quarter => be 1 1 ++ absentBytes 1
                | .fixed n => be 1 2 ++ be 1 n))

/-- The header part of MELODY INFO: kind FFh when absent, FEh when unreadable. -/
def encHeaderField : HeaderField → List Byte
  | .absent => absentBytes 25
  | .unreadable => 0xFE :: absentBytes 24
  | .known h => encHeader h

/-- The bell record, 14 bytes. -/
def encBellRecord (r : BellRecord) : List Byte :=
  yesNo r.present ++ be 1 r.pitch ++ yesNo r.sensor ++ be 1 r.emin ++ be 2 r.flo ++ be 2 r.fhi
    ++ be 1 r.wmin ++ be 1 r.wmax ++ be 2 r.h ++ be 2 r.r

/-- The pending operation and its index (2 bytes). No index encoding is given for an operation
without one: a free value (DESIGN CHOICE, log 23). -/
def encPending : PendingOp → List Byte
  | .none => be 1 0 ++ [Config.noIndex]
  | .define => be 1 1 ++ [Config.noIndex]
  | .segment i => be 1 2 ++ be 1 i
  | .erase => be 1 3 ++ [Config.noIndex]

/-- Flags or enables as one byte: bit 0 OUTCOME … bit 6 LINK (section 12.4). Bit 7, to which the layout gives no
meaning, is sent 0 (DESIGN CHOICE, log 56). -/
def encNotices (n : NoticeBits) : List Byte :=
  let bit (b : Bool) (w : Nat) : Nat := if b then w else 0
  be 1 (bit n.outcome 1 + bit n.feed 2 + bit n.bell 4 + bit n.time 8 + bit n.drive 16
    + bit n.store 32 + bit n.link 64)

/-- The enables as SET NOTICE MASK carries and answers them: one byte each, in flag order. -/
def encEnables (n : NoticeBits) : List Byte :=
  yesNo n.outcome ++ yesNo n.feed ++ yesNo n.bell ++ yesNo n.time ++ yesNo n.drive
    ++ yesNo n.store ++ yesNo n.link

/-! ## Answer frames (section 12.2, R194) -/

/-- The body an answer frame carries: a DONE answer alone has one (R194). -/
def Answer.carried (a : Answer) : List Byte := if a.code = .done then a.body else []

/-- The bytes of an answer frame between the lead byte and the CRC. -/
def Answer.inner (a : Answer) (address : Nat) : List Byte :=
  be 1 address ++ be 2 (a.code.code * 2048 + a.carried.length) ++ [a.request] ++ a.carried

/-- The answer frame: lead 5Ah, address, length word with the answer code in bits 15–11, request
code, body, CRC high byte first. -/
def Answer.frame (a : Answer) (address : Nat) : List Byte :=
  0x5A :: (a.inner address ++ be 2 (crc16 (a.inner address)).toNat)

end Sys2Proof.Machine
end

