-- ==== Sys2Proof/Machine/Operands.lean ====
section
/-! DEFINITION. What the part reads from a request body: the layouts of 12_wire_formats.md and the
field checks of R18, R72, R118, R136, R137, R140, R141, R154, R155, R161, R190 and R195. Every parser
answers none exactly where the request is BAD_FIELD for what its body holds. -/

namespace Sys2Proof.Machine

/-! ## Fields -/

/-- The byte at an offset. -/
def byteAt (bs : List Byte) (i : Nat) : Nat := (bs.getD i 0).toNat

/-- `n` bytes from an offset. -/
def slice (bs : List Byte) (i n : Nat) : List Byte := (bs.drop i).take n

/-- A number that must lie in a range. -/
def inRange (lo hi v : Nat) : Option Nat := if lo ≤ v ∧ v ≤ hi then some v else none

/-- A one-byte field with a range. -/
def byteField (bs : List Byte) (i lo hi : Nat) : Option Nat := inRange lo hi (byteAt bs i)

/-- A two-byte field with a range. -/
def wordField (bs : List Byte) (i lo hi : Nat) : Option Nat := inRange lo hi (fromBe (slice bs i 2))

/-- A yes/no byte: 00h or 01h and no other (R195). -/
def boolField (bs : List Byte) (i : Nat) : Option Bool :=
  match byteAt bs i with
  | 0 => some false
  | 1 => some true
  | _ => none

/-- A one-byte field that may be absent (FFh). -/
def optByteField (bs : List Byte) (i lo hi : Nat) : Option (Option Nat) :=
  if byteAt bs i = 255 then some none else (byteField bs i lo hi).map some

/-- A transposition: −12 … +12 after sign extension (R195). -/
def transpositionField (bs : List Byte) (i : Nat) : Option Int :=
  let v := (bs.getD i 0).toInt
  if -12 ≤ v ∧ v ≤ 12 then some v else none

/-- A date that must be present and real (R18, R11). -/
def dateField (bs : List Byte) (i : Nat) : Option Nat :=
  dayOfDate (fromBe (slice bs i 2)) (byteAt bs (i + 2)) (byteAt bs (i + 3))

/-- A date that may be absent. -/
def optDateField (bs : List Byte) (i : Nat) : Option (Option Nat) :=
  if slice bs i 4 = absentBytes 4 then some none else (dateField bs i).map some

/-- A calendar second: a real date and h:m:s in range (R11). -/
def secondField (bs : List Byte) (i : Nat) : Option Nat := do
  let day ← dateField bs i
  let h ← byteField bs (i + 4) 0 23
  let m ← byteField bs (i + 5) 0 59
  let s ← byteField bs (i + 6) 0 59
  return secondAt day h m s

/-! ## Enumerations (section 12.1, R195) -/

/-- A BOOK or AMEND kind: NOW and LIVE are refused (R18). -/
def kindField (bs : List Byte) (i : Nat) : Option BookingKind :=
  match byteAt bs i with
  | 0 => some .once
  | 1 => some .daily
  | 2 => some .weekly
  | 3 => some .hourly
  | _ => none

def classField (bs : List Byte) (i : Nat) : Option BookingClass :=
  match byteAt bs i with
  | 0 => some .interrupt
  | 1 => some .replace
  | 2 => some .wait
  | _ => none

def extentField (bs : List Byte) (i : Nat) : Option GuardExtent :=
  match byteAt bs i with
  | 0 => some .none
  | 1 => some .eighth
  | 2 => some .quarter
  | 3 => some .half
  | 4 => some .all
  | _ => none

/-! ## The booking record (R18, section 12.3) -/

/-- The fields of a record that depend on its kind: date, time, weekdays and hour window. A field the
kind does not use is not read and is held absent (R18, R195). -/
structure PatternFields where
  date : Option Nat
  time : Option TimeOfDay
  weekdays : BitVec 7
  window : Option (Nat × Nat)
deriving DecidableEq, Repr

/-- h:m:s of a ONCE, DAILY or WEEKLY record. -/
def timeField (bs : List Byte) : Option TimeOfDay := do
  let h ← byteField bs 5 0 23
  let m ← byteField bs 6 0 59
  let s ← byteField bs 7 0 59
  return ⟨some h, m, s⟩

/-- Minute and second of an HOURLY record; its hour is not read. -/
def hourlyTimeField (bs : List Byte) : Option TimeOfDay := do
  let m ← byteField bs 6 0 59
  let s ← byteField bs 7 0 59
  return ⟨none, m, s⟩

/-- A non-empty weekday set with bit 7 zero. -/
def weekdaysField (bs : List Byte) : Option (BitVec 7) := do
  let w ← byteField bs 8 1 127
  return BitVec.ofNat 7 w

/-- The hour window: absent, or first ≤ last. -/
def windowField (bs : List Byte) : Option (Option (Nat × Nat)) :=
  if slice bs 9 2 = absentBytes 2 then some none
  else do
    let a ← byteField bs 9 0 23
    let b ← byteField bs 10 0 23
    if a ≤ b then return some (a, b) else none

/-- The pattern fields by kind (R18). -/
def patternFields (bs : List Byte) : BookingKind → Option PatternFields
  | .once => do
    let d ← dateField bs 1
    let t ← timeField bs
    return ⟨some d, some t, 0, none⟩
  | .daily => do
    let t ← timeField bs
    return ⟨none, some t, 0, none⟩
  | .weekly => do
    let t ← timeField bs
    let w ← weekdaysField bs
    return ⟨none, some t, w, none⟩
  | .hourly => do
    let t ← hourlyTimeField bs
    let w ← windowField bs
    return ⟨none, some t, 0, w⟩
  | .now => none
  | .live => none

/-- Valid until is not earlier than valid from when both are present (R18). -/
def validityInOrder (start stop : Option Nat) : Bool :=
  match start, stop with
  | some a, some b => a ≤ b
  | _, _ => true

/-- The booking record of a BOOK or AMEND, 40 bytes. -/
def parseRecord (bs : List Byte) : Option BookingRecord := do
  let kind ← kindField bs 0
  let p ← patternFields bs kind
  let validFrom ← optDateField bs 11
  let validUntil ← optDateField bs 15
  if !validityInOrder validFrom validUntil then none
  let melody ← byteField bs 19 0 63
  let cls ← classField bs 20
  let rank ← byteField bs 21 0 3
  let patience ← wordField bs 22 0 3600
  let tempo ← optByteField bs 24 20 240
  let transposition ← transpositionField bs 25
  let volume ← byteField bs 26 1 24
  let repeats ← byteField bs 27 1 9
  let substitution ← boolField bs 28
  let temporary ← boolField bs 29
  let enabled ← boolField bs 30
  if slice bs 31 9 ≠ List.replicate 9 0 then none
  return {
    kind := kind, date := p.date, time := p.time, weekdays := p.weekdays, window := p.window
    validFrom := validFrom, validUntil := validUntil, melody := some melody, cls := cls
    rank := rank, patience := patience, tempo := tempo, transposition := transposition
    volume := volume, repeats := repeats, substitution := substitution, kept := !temporary
    enabled := enabled }

/-! ## PLAY NOW, LIVE OPEN, HALT -/

/-- The record of a NOW or LIVE booking before its own fields are filled in (R46). -/
def immediateRecord (kind : BookingKind) (melody : Option Nat) (cls : BookingClass) (rank : Nat)
    (tempo : Option Nat) (transposition : Int) (volume repeats : Nat) (substitution : Bool) :
    BookingRecord where
  kind := kind
  date := none
  time := none
  weekdays := 0
  window := none
  validFrom := none
  validUntil := none
  melody := melody
  cls := cls
  rank := rank
  patience := Config.nowPatience
  tempo := tempo
  transposition := transposition
  volume := volume
  repeats := repeats
  substitution := substitution
  kept := false
  enabled := true

/-- PLAY NOW (R72, section 12.4). -/
def parsePlayNow (bs : List Byte) : Option BookingRecord := do
  let melody ← byteField bs 0 0 63
  let rank ← byteField bs 1 0 3
  let cls ← classField bs 2
  let tempo ← optByteField bs 3 20 240
  let transposition ← transpositionField bs 4
  let volume ← byteField bs 5 1 24
  let repeats ← byteField bs 6 1 9
  let substitution ← boolField bs 7
  return immediateRecord .now (some melody) cls rank tempo transposition volume repeats substitution

/-- LIVE OPEN: every field is required (R140). -/
def parseLiveOpen (bs : List Byte) : Option BookingRecord := do
  let rank ← byteField bs 0 0 3
  let cls ← classField bs 1
  let tempo ← byteField bs 2 20 240
  let volume ← byteField bs 3 1 24
  let transposition ← transpositionField bs 4
  let substitution ← boolField bs 5
  return immediateRecord .live none cls rank (some tempo) transposition volume 1 substitution

/-- Whom a HALT names (section 3.7). -/
inductive HaltTarget where
  | active
  | all
  | booking (number : Nat)
deriving DecidableEq, Repr

/-- When a HALT acts (section 3.7). -/
inductive HaltCondition where
  | now
  | atPhrase
  | atEnd
deriving DecidableEq, Repr

/-- The HALT target byte: 00h, FFh or 01h–60h (R195). -/
def haltTarget (bs : List Byte) : Option HaltTarget :=
  match byteAt bs 0 with
  | 0 => some .active
  | 255 => some .all
  | n => if n ≤ Config.bookingSlots then some (.booking n) else none

/-- The HALT condition byte: 01h–03h. -/
def haltCondition (bs : List Byte) : Option HaltCondition :=
  match byteAt bs 1 with
  | 1 => some .now
  | 2 => some .atPhrase
  | 3 => some .atEnd
  | _ => none

/-- HALT (R64). -/
def parseHalt (bs : List Byte) : Option (HaltTarget × HaltCondition) := do
  let t ← haltTarget bs
  let c ← haltCondition bs
  return (t, c)

/-! ## Events and segments (R139, R152, section 12.3) -/

/-- One event of four bytes. The second byte of a REST or PHRASE is 00h in the layout, and any other
value is refused: DEDUCED (log 16). -/
def parseEvent (bs : List Byte) : Option Event :=
  let w := fromBe (slice bs 2 2)
  match byteAt bs 0 with
  | 1 => if byteAt bs 1 < 128 ∧ w / 1024 % 2 = 0 then some (.note (byteAt bs 1) (w / 2048) (w % 1024)) else none
  | 2 => if byteAt bs 1 = 0 then some (.rest w) else none
  | 3 => if w < 1024 then some (.tempo (byteAt bs 1) w) else none
  | 4 => if byteAt bs 1 = 0 ∧ w < 1024 then some (.phrase w) else none
  | _ => none

/-- A run of `n` events, four bytes each. -/
def parseEvents : Nat → List Byte → Option (List Event)
  | 0, _ => some []
  | n + 1, bs => do
    let e ← parseEvent bs
    let rest ← parseEvents n (bs.drop 4)
    return e :: rest

/-- The event a number stands for; every event of the layout has numbers (log 17). -/
def Event.numbered (n : Nat) : Event :=
  let k := n / 4
  match n % 4 with
  | 0 => .note (k % 128) (k / 128 % 32) (k / 4096 % 1024)
  | 1 => .rest (k % 65536)
  | 2 => .tempo (k % 256) (k / 256 % 1024)
  | _ => .phrase (k % 1024)

/-- One event of a read that passed its checks (R87): four bytes the layout does not name are a free value
(DESIGN CHOICE, log 17). -/
def readEvent (bs : List Byte) : Event :=
  (parseEvent bs).getD (.numbered (Config.unknownEvent bs))

/-- The events a segment's bytes carry behind the header, four bytes each, whatever count the header gives (DESIGN
CHOICE, log 17). -/
def carriedEvents (bs : List Byte) : List Event :=
  (List.range ((bs.length - 7) / 4)).map fun k => readEvent (slice bs (7 + 4 * k) 4)

/-- A PHRASE event, which no live stream holds (R139). -/
def Event.isPhrase : Event → Bool
  | .phrase _ => true
  | .note .. | .rest _ | .tempo .. => false

/-- An event's delta in ticks (R77). -/
def Event.delta : Event → Nat
  | .note _ _ d => d
  | .rest d => d
  | .tempo _ d => d
  | .phrase d => d

/-- LIVE NOTES: the count, 1–32, agrees with the events carried, and none is a PHRASE (R141). -/
def parseLiveNotes (bs : List Byte) : Option (List Event) := do
  let n ← byteField bs 0 1 Config.streamQueueMax
  if bs.length ≠ 1 + 4 * n then none
  let es ← parseEvents n (bs.drop 1)
  if es.any Event.isPhrase then none else return es

/-- Capacity of a length code (R152). -/
def capacityOf (code : Nat) : Nat := 32 * 2 ^ code

/-- The bytes a segment's CRC runs over: offsets 0–4 of the header, then the events (section 12.3). -/
def crcBytes (bs : List Byte) : List Byte := bs.take 5 ++ bs.drop 7

/-- The CRC computed over a segment's bytes (R153). -/
def computedCrc (bs : List Byte) : BitVec 16 := crc16 (crcBytes bs)

/-- The CRC a segment's bytes carry. -/
def storedCrc (bs : List Byte) : Nat := fromBe (slice bs 5 2)

/-- The segment that bytes carry, nothing of it checked: the header fields at their offsets (section 12.3), and the
events behind them. -/
def carriedSegment (bs : List Byte) : Segment :=
  ⟨byteAt bs 0, byteAt bs 1, byteAt bs 2, fromBe (slice bs 3 2), storedCrc bs, carriedEvents bs⟩

/-- A segment: header of 7 bytes, exactly as many events as its event count says, and a CRC that
matches (R152, R155, R87). -/
def parseSegment (bs : List Byte) : Option Segment := do
  let slot ← byteField bs 0 0 63
  let index ← byteField bs 1 0 15
  let code ← byteField bs 2 0 3
  let count ← wordField bs 3 1 (capacityOf code)
  if bs.length ≠ 7 + 4 * count then none
  let events ← parseEvents count (bs.drop 7)
  if (computedCrc bs).toNat ≠ storedCrc bs then none
  return ⟨slot, index, code, count, storedCrc bs, events⟩

/-- STORE SEGMENT: the slot of the request, and a segment that names it (R155). -/
def parseStoreSegment (bs : List Byte) : Option Segment := do
  let slot ← byteField bs 0 0 63
  let seg ← parseSegment (bs.drop 1)
  if seg.slot = slot then return seg else none

/-! ## Melody header (R150, R154) -/

/-- The characters of a 16-byte name field: those before the first 00h. -/
def nameChars (bs : List Byte) : List Nat := ((slice bs 1 16).map BitVec.toNat).takeWhile (· ≠ 0)

/-- A name of 1–16 characters of codes 32–126, followed by 00h to the end of the field (R154, R195). -/
def nameField (bs : List Byte) : Option (List Nat) :=
  let name := nameChars bs
  if name ≠ [] ∧ name.all (fun c => 32 ≤ c && c ≤ 126)
      ∧ ((slice bs 1 16).drop name.length).all (· == 0) then some name
  else none

/-- The count mode: n for FIXED, and FFh in n's place otherwise (section 12.3). Another byte there under HOUR or
QUARTER, which no rule judges, is refused BAD_FIELD (R154, R195; DESIGN CHOICE, log 51). -/
def countModeField (bs : List Byte) : Option CountMode :=
  match byteAt bs 23 with
  | 0 => if byteAt bs 24 = 255 then some .hour else none
  | 1 => if byteAt bs 24 = 255 then some .quarter else none
  | 2 => (byteField bs 24 1 12).map .fixed
  | _ => none

/-- The fields that only the kind uses; the others are not read (R154). -/
def shapeField (bs : List Byte) : Option MelodyShape :=
  match byteAt bs 0 with
  | 0 => (byteField bs 18 1 16).map .score
  | 1 => do
    let pitch ← byteField bs 19 0 127
    let strength ← byteField bs 20 1 31
    let interval ← wordField bs 21 1000 9000
    let mode ← countModeField bs
    return .toll pitch strength interval mode
  | _ => none

/-- The base tempo of a SCORE; a TOLL does not use it, so it is not read and is held absent (R150, R154,
R195). -/
def tempoField (bs : List Byte) : MelodyShape → Option (Option Nat)
  | .score _ => (byteField bs 17 20 240).map some
  | .toll .. => some none

/-- A melody header, 25 bytes. -/
def parseHeader (bs : List Byte) : Option MelodyHeader := do
  let shape ← shapeField bs
  let name ← nameField bs
  let tempo ← tempoField bs shape
  return ⟨name, tempo, shape⟩

/-- DEFINE MELODY: slot and header. -/
def parseDefine (bs : List Byte) : Option (Nat × MelodyHeader) := do
  let slot ← byteField bs 0 0 63
  let h ← parseHeader (bs.drop 1)
  return (slot, h)

/-! ## Bells and drive -/

/-- SET BELL's relations between fields (R118). -/
def BellRecord.consistent (r : BellRecord) : Bool :=
  r.fhi ≤ r.flo && r.wmin ≤ r.wmax && (r.wmax + 9) / 10 + 20 ≤ r.h

/-- A bell record, 14 bytes; all fields are checked whether or not the bell is present (R118). -/
def parseBellRecord (bs : List Byte) : Option BellRecord := do
  let present ← boolField bs 0
  let pitch ← byteField bs 1 0 127
  let sensor ← boolField bs 2
  let emin ← byteField bs 3 1 31
  let flo ← wordField bs 4 0 2550
  let fhi ← wordField bs 6 0 2550
  let wmin ← byteField bs 8 5 200
  let wmax ← byteField bs 9 5 200
  let h ← wordField bs 10 60 2000
  let r ← wordField bs 12 100 2000
  let record : BellRecord := ⟨present, pitch, sensor, emin, flo, fhi, wmin, wmax, h, r⟩
  if record.consistent then return record else none

/-- SET BELL: bell and record. -/
def parseSetBell (bs : List Byte) : Option (Nat × BellRecord) := do
  let bell ← byteField bs 0 0 63
  let r ← parseBellRecord (bs.drop 1)
  return (bell, r)

/-- SET DRIVE (R136): K 1–8, C less than L, L at most 255. -/
def parseDrive (bs : List Byte) : Option DriveSettings := do
  let k ← byteField bs 0 1 8
  let low ← wordField bs 1 0 255
  let critical ← wordField bs 3 0 255
  if critical < low then return ⟨k, low, critical⟩ else none

/-- TEST STRIKE: bell 0–63 and strength 1–31 (R137). -/
def parseTestStrike (bs : List Byte) : Option (Nat × Nat) := do
  let bell ← byteField bs 0 0 63
  let strength ← byteField bs 1 1 31
  return (bell, strength)

/-! ## Protection and notices -/

/-- What a SET PROTECTION asks for. -/
inductive ProtectionRequest where
  | lock
  | program (mode : ProtectionMode) (guard : Guard)
deriving DecidableEq, Repr

/-- The guard settings (R159). -/
def guardFields (bs : List Byte) : Option Guard := do
  let high ← boolField bs 1
  let extent ← extentField bs 2
  let complement ← boolField bs 3
  return ⟨high, extent, complement⟩

/-- SET PROTECTION: with mode LOCKED the guard settings are not checked (R161). -/
def parseProtection (bs : List Byte) : Option ProtectionRequest :=
  match byteAt bs 0 with
  | 0 => (guardFields bs).map (.program .opened)
  | 1 => (guardFields bs).map (.program .keyed)
  | 2 => (guardFields bs).map (.program .permanent)
  | 3 => some .lock
  | _ => none

/-- SET NOTICE MASK: seven enables, each on or off (R190). -/
def parseMask (bs : List Byte) : Option NoticeBits := do
  let outcome ← boolField bs 0
  let feed ← boolField bs 1
  let bell ← boolField bs 2
  let time ← boolField bs 3
  let drive ← boolField bs 4
  let store ← boolField bs 5
  let link ← boolField bs 6
  return ⟨outcome, feed, bell, time, drive, store, link⟩

end Sys2Proof.Machine
end

