-- ==== Sys2Proof/Machine/Ops.lean ====
section
/-! DEFINITION. Named operations over the state that every family uses: reading and changing a slot,
a bell, a melody slot, a port; strike counts; handing an answer to a port. -/

namespace Sys2Proof.Machine

/-- The performance clock as every block reads it (R1). -/
def State.now (s : State) : Nat := s.time.clock

/-- A 16-bit saturating count increased by `n` (section 3.2 of 00_scope.md). -/
def sat16 (v n : Nat) : Nat := min 65535 (v + n)

/-! ## Booking slots (R17) -/

/-- The booking of an occupied slot; slots are numbered from 1. -/
def Book.booking? (b : Book) : Nat → Option Booking
  | 0 => none
  | n + 1 =>
    match b.slots[n]? with
    | some (.occupied bk) => some bk
    | _ => none

/-- The booking of an occupied slot. -/
def State.booking? (s : State) (n : Nat) : Option Booking := s.book.booking? n

/-- Puts a value into slot `n`. -/
def Book.setSlot (b : Book) (n : Nat) (v : Slot) : Book := { b with slots := b.slots.set (n - 1) v }

/-- Puts a value into slot `n`. -/
def State.setSlot (n : Nat) (v : Slot) (s : State) : State := { s with book := s.book.setSlot n v }

/-- Puts a booking into slot `n`. -/
def State.setBooking (n : Nat) (b : Booking) (s : State) : State := s.setSlot n (.occupied b)

/-- The lowest-numbered free slot, or none (R17). -/
def Book.lowestFree (b : Book) : Option Nat := (b.slots.findIdx? (· == .free)).map (· + 1)

/-- The numbers of all slots in order. -/
def slotNumbers : List Nat := (List.range Config.bookingSlots).map (· + 1)

/-- The occupied slots with their numbers, in number order. -/
def Book.bookings (b : Book) : List (Nat × Booking) :=
  slotNumbers.filterMap fun n => (b.booking? n).map fun bk => (n, bk)

/-! ## Bells -/

/-- Bell `b`. -/
def State.bell (s : State) (b : Nat) : Bell := s.drive.bells.getD b (.initial false)

/-- Changes bell `b`. -/
def State.modBell (b : Nat) (f : Bell → Bell) (s : State) : State :=
  { s with drive := { s.drive with bells := s.drive.bells.modify b f } }

/-- The restrike interval of bell `b` in µs, from the record in force. -/
def State.restrike (s : State) (b : Nat) : Nat := 1000 * (s.bell b).record.h

/-! ## Melody slots -/

/-- Melody slot `m`. -/
def State.melody (s : State) (m : Nat) : MelodySlot := s.library.slots.getD m .initial

/-- Changes melody slot `m`. -/
def State.modMelody (m : Nat) (f : MelodySlot → MelodySlot) (s : State) : State :=
  { s with library := { s.library with slots := s.library.slots.modify m f } }

/-- The readable header of a melody slot. -/
def MelodySlot.known? (m : MelodySlot) : Option MelodyHeader :=
  match m.header with
  | .known h => some h
  | .absent => none
  | .unreadable => none

/-- Segment count of a melody slot's SCORE header; 0 for anything else. -/
def MelodySlot.segmentCount (m : MelodySlot) : Nat :=
  match m.known? with
  | none => 0
  | some h =>
    match h.shape with
    | .score n => n
    | .toll .. => 0

/-! ## Contexts and strike counts (R110) -/

/-- Changes the active context, if there is one. -/
def State.modActive (f : Context → Context) (s : State) : State :=
  { s with engine := { s.engine with active := s.engine.active.map f } }

/-- The four charges of R110. -/
inductive Charge where
  | fired
  | late
  | lost
  | substituted
deriving DecidableEq, Repr

/-- One charge, saturating at 65535. -/
def StrikeCounts.add (c : StrikeCounts) : Charge → StrikeCounts
  | .fired => { c with fired := sat16 c.fired 1 }
  | .late => { c with late := sat16 c.late 1 }
  | .lost => { c with lost := sat16 c.lost 1 }
  | .substituted => { c with substituted := sat16 c.substituted 1 }

/-- Charges an owner. A charge finds its owner only as the active context, and TEST is never charged
(R110). -/
def State.charge (o : Owner) (k : Charge) (s : State) : State :=
  match o with
  | .test => s
  | .booking n =>
    s.modActive fun c => if c.booking = n then { c with counts := c.counts.add k } else c

/-- Whether an entry belongs to a context. -/
def StrikeEntry.ownedBy (e : StrikeEntry) (booking : Nat) : Bool := e.owner == .booking booking

/-! ## Ports -/

/-- One of the two ports. -/
def Links.port (l : Links) : Port → PortState
  | .main => l.main
  | .service => l.service

/-- Changes a port. -/
def Links.modPort (l : Links) (p : Port) (f : PortState → PortState) : Links :=
  match p with
  | .main => { l with main := f l.main }
  | .service => { l with service := f l.service }

/-- A port's state. -/
def State.port (s : State) (p : Port) : PortState := s.links.port p

/-- Changes a port. -/
def State.modPort (p : Port) (f : PortState → PortState) (s : State) : State :=
  { s with links := s.links.modPort p f }

/-- An answer becomes ready at a port (R183). While a RESET is pending, a main-port answer that becomes
ready is not sent (R186). -/
def State.respond (p : Port) (request : Byte) (code : AnswerCode) (body : List Byte) (s : State) :
    State :=
  if s.links.resetPending && p == .main then s
  else s.modPort p fun q => { q with ready := q.ready ++ [⟨code, request, body⟩] }

/-- R164: the highest rank a port may act on. -/
def State.privilege (s : State) : Port → Nat
  | .main => 2
  | .service => if s.library.key then 3 else 2

/-! ## Store places -/

/-- Sets one element of a list of lists. -/
def setAt2 {α : Type} (l : List (List α)) (i j : Nat) (v : α) : List (List α) :=
  l.modify i (·.set j v)

/-- Reads one element of a list of lists. -/
def getAt2 {α : Type} (l : List (List α)) (i j : Nat) (d : α) : α := (l.getD i []).getD j d

/-- A segment place of the store. -/
def State.segmentPlace (s : State) (slot index : Nat) : SegmentPlace :=
  getAt2 s.store.places.segments slot index .blank

end Sys2Proof.Machine
end

