-- ==== Sys2Proof/Machine/Planner.lean ====
section
/-! DEFINITION. The Strike Planner: the arithmetic of a strike, the strike queue, planned-busy-until
and removals (05_strike_planning.md). -/

namespace Sys2Proof.Machine

/-! ## Arithmetic (R101, R103) -/

/-- R101, step 1: volume. -/
def volumeStrength (s v : Nat) : Nat := max 1 (min 31 ((s * v + 8) / 16))

/-- R101, step 2: a LOW or CRITICAL bank derates to three quarters. -/
def deratedStrength (e1 : Nat) (level : BankLevel) : Nat :=
  match level with
  | .normal => e1
  | .low | .critical => max 1 (e1 * 3 / 4)

/-- R101: the effective strength. -/
def effectiveStrength (s v emin : Nat) (level : BankLevel) : Nat :=
  max emin (deratedStrength (volumeStrength s v) level)

/-- R103: the flight time in µs at effective strength `e`. -/
def flightTime (r : BellRecord) (e : Nat) : Nat :=
  100 * r.flo - 100 * (r.flo - r.fhi) * (e - 1) / 30

/-- R103: the pulse width in µs at effective strength `e`. -/
def pulseWidth (r : BellRecord) (e : Nat) : Nat :=
  100 * r.wmin + 100 * (r.wmax - r.wmin) * (e - 1) / 30

/-- The ideal fire time of an entry: its fire time minus its lateness (R99). -/
def StrikeEntry.ideal (e : StrikeEntry) : Nat := e.fireTime - e.lateness

/-- R106: fire time and lateness after the restrike check, or none when the note is lost. -/
def restrikeCheck (busy : Option Nat) (ideal : Nat) : Option (Nat × Nat) :=
  match busy with
  | none => some (ideal, 0)
  | some p =>
    if p ≤ ideal then some (ideal, 0)
    else if p - ideal ≤ Config.restrikeShift then some (p, p - ideal)
    else none

/-- R107: fire time and lateness after the lateness check, or none when the note is lost. -/
def latenessCheck (now fire late : Nat) : Option (Nat × Nat) :=
  let late' := late + (now - fire)
  if late' ≤ Config.dropLimit then some (max now fire, late') else none

/-- A note as it reaches the planner (R94, R109). -/
structure HandOver where
  owner : Owner
  /-- absent is the unmapped mark -/
  bell : Option Nat
  substituted : Bool
  due : Nat
  strength : Nat
  volume : Nat
  pos : Option ScorePos
deriving DecidableEq, Repr

/-- R104: the ideal fire time of a note due at `due` with flight time `f`. -/
def idealFire (due f : Nat) : Nat := due - f

/-- Stages 4 and 5 of R100 for a bell that can take the note: the entry, or none when it is lost. -/
def planEntry (record : BellRecord) (level : BankLevel) (busy : Option Nat) (now bell : Nat)
    (h : HandOver) : Option StrikeEntry :=
  let e := effectiveStrength h.strength h.volume record.emin level
  let f := flightTime record e
  match restrikeCheck busy (idealFire h.due f) with
  | none => none
  | some (fire, late) =>
    match latenessCheck now fire late with
    | none => none
    | some (fire, late) => some {
        bell := bell, owner := h.owner, pos := h.pos, due := h.due, flight := f, fireTime := fire
        lateness := late, late := Config.lateLimit < late, strength := e, width := pulseWidth record e }

/-! ## The queue (R98) -/

/-- R98: earlier fire time first, then lower bell number. -/
def StrikeEntry.before (a b : StrikeEntry) : Bool :=
  a.fireTime < b.fireTime || (a.fireTime == b.fireTime && a.bell < b.bell)

/-- Inserts an entry at the place R98 gives. -/
def insertEntry (e : StrikeEntry) : List StrikeEntry → List StrikeEntry
  | [] => [e]
  | x :: xs => if e.before x then e :: x :: xs else x :: insertEntry e xs

/-- Whether the strike queue is full (R98). -/
def State.queueFull (s : State) : Bool := Config.strikeQueueMax ≤ s.planner.queue.length

/-- Records the instant at which a test hand-over filled the last place, or forgets it (R100). -/
def State.setTestFilled (v : Option Nat) (s : State) : State :=
  { s with planner := { s.planner with testFilled := v } }

/-- R83: the Score Player stalls at a full strike queue, but for a note that meets it at the very instant a
test hand-over filled its last place (R100, stage 3). -/
def State.stalled (s : State) : Bool := s.queueFull && s.planner.testFilled != some s.now

/-- Whether any entry of a context is in the queue (R89). -/
def State.hasEntries (s : State) (booking : Nat) : Bool :=
  s.planner.queue.any (·.ownedBy booking)

/-! ## Planned-busy-until (R105, R115) -/

/-- Planned-busy-until of bell `b`. -/
def State.busyUntil (s : State) (b : Nat) : Option Nat := s.planner.busyUntil.getD b none

/-- Sets planned-busy-until of bell `b`. -/
def State.setBusy (b : Nat) (v : Option Nat) (s : State) : State :=
  { s with planner := { s.planner with busyUntil := s.planner.busyUntil.set b v } }

/-- Last fire time of bell `b`. -/
def State.lastFire (s : State) (b : Nat) : Option Nat := s.planner.lastFire.getD b none

/-- The later of two optional times. -/
def laterOf : Option Nat → Option Nat → Option Nat
  | none, y => y
  | x, none => x
  | some x, some y => some (max x y)

/-- R115: what remains of planned-busy-until when entries have left unfired. -/
def State.remainingBusy (s : State) (b : Nat) : Option Nat :=
  (s.planner.queue.filter (·.bell == b)).foldl
    (fun acc e => laterOf acc (some (e.fireTime + s.restrike b)))
    ((s.lastFire b).map (· + s.restrike b))

/-- R115 -/
def State.recomputeBusy (b : Nat) (s : State) : State := s.setBusy b (s.remainingBusy b)

/-! ## Taking a hand-over (R100, R108, R110) -/

/-- Whether a bell can take a note at receipt (R100, stage 2). -/
def Bell.usable (b : Bell) : Bool :=
  match b.state with
  | .off | .faulted => false
  | .ready | .driven | .returning | .recovering => true

/-- R100, stage 2: the mark of a bell that a fault or a bell record takes out of use now: the reading of the clock,
and the pitch it has carried until now. A bell out of use already keeps the mark it has. So does a bell that goes while
a full queue stalls the Score Player: a note held back then is reached after the fault or change, when an entry has
left (R83), and is mapped anew (R92; DESIGN CHOICE, log 62). -/
def State.outMark (s : State) (x : Bell) : Option (Nat × Nat) :=
  if x.usable && !s.stalled then some (s.now, x.record.pitch) else x.wentOut

/-- R108: the entry joins the queue, and planned-busy-until moves past it. -/
def State.insertStrike (e : StrikeEntry) (s : State) : State :=
  { s with planner := { s.planner with queue := insertEntry e s.planner.queue } }.setBusy e.bell
    (some (e.fireTime + s.restrike e.bell))

/-- R100: takes one hand-over whole; the entry planned, or none when the note is lost. -/
def State.handOver (h : HandOver) (s : State) : State × Option StrikeEntry :=
  let s := if h.substituted then s.charge h.owner .substituted else s
  match h.bell with
  | none => (s.charge h.owner .lost, none)
  | some b =>
    if !(s.bell b).usable || s.queueFull then (s.charge h.owner .lost, none)
    else
      match planEntry (s.bell b).record s.drive.level (s.busyUntil b) s.now b h with
      | none => (s.charge h.owner .lost, none)
      | some e => (s.insertStrike e, some e)

/-! ## Removals (R111–R115) -/

/-- Takes the entries the test picks out of the queue and recomputes planned-busy-until of their bells. -/
def State.removeStrikes (pick : StrikeEntry → Bool) (s : State) : State :=
  let gone := s.planner.queue.filter pick
  let s := { s with planner := { s.planner with queue := s.planner.queue.filter (fun e => !pick e) } }
  gone.foldl (fun s e => s.recomputeBusy e.bell) s

/-- R113: every unfired entry of a bell leaves, each charged lost to its owner. -/
def State.removeBell (b : Nat) (s : State) : State :=
  let gone := s.planner.queue.filter (·.bell == b)
  let s := gone.foldl (fun s e => s.charge e.owner .lost) s
  (s.removeStrikes (·.bell == b)).recomputeBusy b

/-- Order of score positions (R111): repeat number, segment, event index; then toll or live number. -/
def ScorePos.before (a b : ScorePos) : Bool :=
  a.repeatNo < b.repeatNo || (a.repeatNo == b.repeatNo &&
    (a.segment < b.segment || (a.segment == b.segment &&
      (a.event < b.event || (a.event == b.event && a.number < b.number)))))

/-- The earlier of two optional score positions. -/
def earlierPos : Option ScorePos → Option ScorePos → Option ScorePos
  | none, y => y
  | x, none => x
  | some x, some y => if y.before x then some y else some x

/-- R111: the earliest score position among a context's entries in the queue. -/
def State.earliestEntry (s : State) (booking : Nat) : Option ScorePos :=
  (s.planner.queue.filter (·.ownedBy booking)).foldl (fun acc e => earlierPos acc e.pos) none

/-- R111, R112: every entry of a context leaves uncounted. -/
def State.removeOwner (booking : Nat) (s : State) : State := s.removeStrikes (·.ownedBy booking)

/-- R111: the entries of a hushed LIVE context are charged lost, one each, as they leave. -/
def State.removeOwnerLost (booking : Nat) (s : State) : State :=
  let gone := s.planner.queue.filter (·.ownedBy booking)
  (gone.foldl (fun s e => s.charge e.owner .lost) s).removeOwner booking

/-- R112: drive loss empties the queue of every entry, none charged. -/
def State.removeAllStrikes (s : State) : State := s.removeStrikes (fun _ => true)

/-- R114: a fire reported to the planner charges the owner and moves the bell's times. -/
def State.reportFire (e : StrikeEntry) (a : Nat) (s : State) : State :=
  let s := s.charge e.owner .fired
  let s := if e.late then s.charge e.owner .late else s
  let busy := laterOf (s.busyUntil e.bell) (some (a + s.restrike e.bell))
  { s with planner := { s.planner with lastFire := s.planner.lastFire.set e.bell (some a) } }.setBusy
    e.bell busy

/-- R114, R130: a drop reported to the planner: the entry leaves and its owner is charged lost. -/
def State.dropEntry (e : StrikeEntry) (s : State) : State :=
  (s.charge e.owner .lost).removeStrikes (· == e)

end Sys2Proof.Machine
end

