-- ==== Sys2Proof/Machine/Drive.lean ====
section
/-! DEFINITION. The Drive Unit: the hammer cycle, hammer faults, the coil arbiter, K, the bank monitor
and the taking of a new bell record or drive settings (06_bells_hammers_and_the_drive_supply.md). -/

namespace Sys2Proof.Machine

/-! ## The arbiter (R127–R129) -/

/-- R127: free coil slots; none while a lower K waits (R131). -/
def Drive.freeSlots (d : Drive) : Nat := if d.requestedK.isSome then 0 else d.k - d.energised

/-- R128: whether the arbiter may fire at all. -/
def Drive.arbiterOpen (d : Drive) : Bool := !d.hush && d.ready && d.level != .critical

/-- R128: whether an entry is eligible. -/
def State.eligible (s : State) (e : StrikeEntry) : Bool :=
  e.fireTime ≤ s.now && (s.bell e.bell).state == .ready && s.drive.arbiterOpen

/-- R122: the cycle values captured at a fire at time `a`. -/
def Bell.fireCycle (b : Bell) (a width : Nat) : Cycle where
  a := a
  width := width
  h := b.record.h
  r := b.record.r
  sensor := b.record.sensor
  seenOpen := b.record.sensor && b.sensorOpen
  returnLimit := none

/-- R122: the bell is DRIVEN from `a` on. -/
def Bell.fire (b : Bell) (a width : Nat) : Bell :=
  { b with state := .driven, strikes := min 4294967295 (b.strikes + 1), cycle := some (b.fireCycle a width) }

/-- An entry as it stands at its fire: lateness and late flag set again (R114, R129). -/
def StrikeEntry.firedAt (e : StrikeEntry) (a : Nat) : StrikeEntry :=
  { e with lateness := a - e.ideal, late := Config.lateLimit < a - e.ideal }

/-- R129: fires an entry now. -/
def State.fire (e : StrikeEntry) (s : State) : State :=
  let a := s.now
  let s := s.modBell e.bell (·.fire a e.width)
  let s := { s with
    drive := { s.drive with energised := s.drive.energised + 1 }
    planner := { s.planner with queue := s.planner.queue.erase e } }
  s.reportFire (e.firedAt a) a

/-- R128: fires one entry of the walk if it is eligible and a slot is free. -/
def State.fireIfEligible (s : State) (e : StrikeEntry) : State :=
  if 0 < s.drive.freeSlots ∧ s.eligible e then s.fire e else s

/-- R128: the arbiter re-evaluates, walking the queue in its order. -/
def State.arbiter (s : State) : State := s.planner.queue.foldl State.fireIfEligible s

/-- R108, R128: a hand-over, and the arbiter considers at once an entry whose fire time is now. -/
def State.plan (h : HandOver) (s : State) : State × Option StrikeEntry :=
  let r := s.handOver h
  match r.2 with
  | none => r
  | some e => if e.fireTime ≤ s.now then (r.1.arbiter, some e) else r

/-! ## Coil release and K (R123, R127, R131) -/

/-- R131: a waiting lower K takes effect when the energised count has fallen to it. -/
def Drive.settleK (d : Drive) : Drive :=
  match d.requestedK with
  | some k => if d.energised ≤ k then { d with k := k, requestedK := none } else d
  | none => d

/-- A coil turns off: its slot is freed (R123, R134, R119). -/
def State.coilOff (s : State) : State :=
  { s with drive := { s.drive with energised := s.drive.energised - 1 }.settleK }

/-- R131: a new K reaches the arbiter. -/
def Drive.takeK (d : Drive) (k : Nat) : Drive :=
  if d.k ≤ k ∨ d.energised ≤ k then { d with k := k, requestedK := none }
  else { d with requestedK := some k }

/-! ## The hammer cycle (R122–R126) -/

/-- R125: a bell's recovery time. -/
def Cycle.recovery (c : Cycle) : Nat := c.a + 1000 * c.h

/-- The pulse end of a cycle (R122). -/
def Cycle.pulseEnd (c : Cycle) : Nat := c.a + c.width

/-- A bell becomes READY, its cycle values discarded (R125). -/
def Bell.toReady (b : Bell) : Bell := { b with state := .ready, cycle := none }

/-- R125: a bell enters RECOVERING, or READY at once when its recovery time has passed; a bell becoming
READY makes the arbiter re-evaluate. -/
def State.toRecovering (b : Nat) (c : Cycle) (s : State) : State :=
  if c.recovery ≤ s.now then (s.modBell b Bell.toReady).arbiter
  else s.modBell b fun x => { x with state := .recovering, cycle := some { c with returnLimit := none } }

/-- R124: a bell enters RETURNING with its return limit running from now. -/
def State.toReturning (b : Nat) (c : Cycle) (s : State) : State :=
  s.modBell b fun x =>
    { x with state := .returning, cycle := some { c with returnLimit := some (s.now + 1000 * c.r) } }

/-- R126: a bell enters FAULTED; a note of this very instant still names it (R100, stage 2). -/
def State.faultBell (b : Nat) (cause : FaultCause) (s : State) : State :=
  let s := s.modBell b fun x =>
    { x with state := .faulted, lastFault := some cause, cycle := none, wentOut := s.outMark x }
  (s.removeBell b).raise .bell

/-- R123: how a bell goes on at its pulse end. -/
def State.afterPulse (b : Nat) (c : Cycle) (s : State) : State :=
  if !c.sensor then s.toRecovering b c
  else if (s.bell b).sensorOpen then s.toReturning b c
  else if c.seenOpen then s.toRecovering b c
  else s.faultBell b .noLift

/-- R134: a coil released at a DRIVE READY fall; the bell goes on without the NO_LIFT test. -/
def State.releaseCoil (s : State) (b : Nat) : State :=
  match (s.bell b).cycle with
  | none => s
  | some c =>
    if (s.bell b).state = .driven then
      let s := s.coilOff
      if c.sensor && (s.bell b).sensorOpen then s.toReturning b c else s.toRecovering b c
    else s

/-- The bell numbers in order. -/
def bellNumbers : List Nat := List.range Config.bells

/-- R134: every coil energised is released. -/
def State.releaseAllCoils (s : State) : State := bellNumbers.foldl State.releaseCoil s

/-! ## A new bell record (R119) -/

/-- R119's table, for a bell that was not DRIVEN or stays present. -/
def Bell.newState (b : Bell) (present : Bool) : BellState :=
  if !present then .off
  else match b.state with
    | .off => .ready
    | .ready => .ready
    | .driven => .driven
    | .returning => .returning
    | .recovering => .recovering
    | .faulted => .faulted

/-- R119: a bell record takes effect; a bell it makes OFF is still named by a note of this very instant (R100,
stage 2). -/
def State.takeBellRecord (b : Nat) (record : BellRecord) (s : State) : State :=
  let old := s.bell b
  let mark := if record.present then old.wentOut else s.outMark old
  let s := (s.modBell b fun x => { x with record := record }).removeBell b
  let s := s.modBell b fun x => { x with
    state := old.newState record.present
    cycle := if record.present then x.cycle else none
    wentOut := mark }
  let s := if old.state = .driven ∧ !record.present then s.coilOff else s
  s.arbiter

/-! ## The bank monitor (R132, R133) -/

/-- R132's table. -/
def bankStep (level : BankLevel) (low critical m : Nat) : BankLevel :=
  match level with
  | .normal => if m < critical then .critical else if m < low then .low else .normal
  | .low => if m < critical then .critical else if low + 8 ≤ m then .normal else .low
  | .critical => if low + 8 ≤ m then .normal else if critical + 8 ≤ m then .low else .critical

/-- R133: the first level after a load, without the allowance of 8. -/
def firstLevel (low critical m : Nat) : BankLevel :=
  if m < critical then .critical else if m < low then .low else .normal

/-- R132, R133: the latest measurement is judged against the thresholds in force; a change of level
raises DRIVE. -/
def State.classify (s : State) : State :=
  let new := bankStep s.drive.level s.drive.low s.drive.critical s.drive.measurement
  { s with drive := { s.drive with level := new } }.raiseIf (s.drive.level != new) .drive

/-- R132: a rise out of CRITICAL makes the arbiter re-evaluate. -/
def State.reclassify (s : State) : State :=
  if s.drive.level == .critical && s.classify.drive.level != .critical then s.classify.arbiter
  else s.classify

/-- R136: drive settings take effect, K under R131 and the thresholds under R133, at one instant; then
the arbiter re-evaluates. -/
def State.takeDriveSettings (d : DriveSettings) (s : State) : State :=
  { s with drive := { s.drive with low := d.low, critical := d.critical }.takeK d.k }.classify.arbiter

end Sys2Proof.Machine
end

