-- ==== Sys2Proof/Machine/StoreOps.lean ====
section
/-! DEFINITION. The store protocol: one modifying operation, the read queue, suspension, verified and
failed completion, abort and the start-up load's judgement of places (09_the_nonvolatile_store.md). -/

namespace Sys2Proof.Machine

/-! ## States and requests (R168, R169) -/

/-- The store refuses a modifying request unless it is IDLE (R169). -/
def Store.isIdle (st : Store) : Bool := st.state == .idle

/-- Whether a modifying operation's work is under way and not paused. -/
def Store.working (st : Store) : Bool :=
  (st.state == .programming || st.state == .erasing)
    && (match st.op with | some op => op.begun | none => false)

/-- Whether the head of the read queue is the read in progress (R170). -/
def Store.serving (st : Store) : Bool := !st.reads.isEmpty && !st.working

/-- The state a job puts the store in (R168). -/
def StoreJob.busyState : StoreJob → StoreState
  | .erase _ => .erasing
  | .book .. | .amend .. | .withdraw _ | .setBell .. | .setDrive _ | .setProtection _ | .define ..
  | .segment .. => .programming

/-- Markers set when a job's work begins (R166). -/
def Places.beginWork (p : Places) : StoreJob → Places
  | .segment slot index _ => { p with programBegun := setAt2 p.programBegun slot index true }
  | .erase slot => { p with eraseBegun := p.eraseBegun.set slot true }
  | .book .. | .amend .. | .withdraw _ | .setBell .. | .setDrive _ | .setProtection _
  | .define .. => p

/-- The work of the operation in hand begins (R169). -/
def Store.beginWork (st : Store) : Store :=
  match st.op with
  | none => st
  | some op =>
    if op.begun then st
    else { st with op := some { op with begun := true }, places := st.places.beginWork op.job }

/-- A modifying request is accepted: the state changes at once, and the work begins at once if no read
waits (R169). -/
def Store.accept (st : Store) (job : StoreJob) (p : Port) : Store :=
  let st := { st with state := job.busyState, op := some ⟨job, p, false⟩, suspending := false }
  if st.reads.isEmpty then st.beginWork else st

/-- A modifying request is accepted. -/
def State.acceptJob (job : StoreJob) (p : Port) (s : State) : State :=
  { s with store := s.store.accept job p }

/-! ## Reads (R170, R171) -/

/-- Whether a read belongs to a released buffer. -/
def ReadRequest.isReleased (r : ReadRequest) : Bool := r.requester == .buffer true

/-- R170: a full queue loses its oldest entry that has not begun and whose buffer was released. -/
def Store.makeRoom (st : Store) : Store :=
  if st.reads.length < Config.readQueueMax then st
  else if st.serving then
    match st.reads with
    | [] => st
    | h :: t => { st with reads := h :: t.eraseP ReadRequest.isReleased }
  else { st with reads := st.reads.eraseP ReadRequest.isReleased }

/-- The read queue with one read more at its tail; it holds no more than 8 (R170). -/
def joinReads (reads : List ReadRequest) (r : ReadRequest) : List ReadRequest :=
  if reads.length < Config.readQueueMax then reads ++ [r] else reads

/-- A read joins the queue at the tail; an operation at work starts a suspend (R170, R171). -/
def Store.requestRead (st : Store) (r : ReadRequest) : Store :=
  let st := st.makeRoom
  { st with reads := joinReads st.reads r, suspending := st.suspending || st.working }

/-- The Score Player requests a segment into a buffer (R85). -/
def State.requestSegment (slot index : Nat) (s : State) : State :=
  { s with store := s.store.requestRead ⟨slot, index, .buffer false⟩ }

/-- Marks the Score Player's reads of segments the test picks as released (R87, R170). -/
def Store.releaseReads (st : Store) (pick : Nat → Bool) : Store :=
  { st with reads := st.reads.map fun r =>
      if r.requester == .buffer false && pick r.segment then { r with requester := .buffer true } else r }

/-- The state to which a paused operation returns (R171). -/
def StoreState.resumed : StoreState → StoreState
  | .programSuspended => .programming
  | .eraseSuspended => .erasing
  | .idle => .idle
  | .programming => .programming
  | .erasing => .erasing

/-- The state a working operation pauses in (R171). -/
def StoreState.suspended : StoreState → StoreState
  | .programming => .programSuspended
  | .erasing => .eraseSuspended
  | .idle => .idle
  | .programSuspended => .programSuspended
  | .eraseSuspended => .eraseSuspended

/-- When the read queue empties, a paused operation resumes, and one whose work waited begins (R169,
R171). -/
def Store.afterReads (st : Store) : Store :=
  if st.reads.isEmpty then { st with state := st.state.resumed }.beginWork else st

/-! ## What a completion writes (R166, R167, R172) -/

/-- A place after a verified program. -/
def Place.verified {α : Type} (c : Content α) : Place α := ⟨c, false⟩

/-- A place after a program that failed its verify: the marker makes it fail at the load (R176). -/
def Place.unverified {α : Type} : Place α := ⟨.failing, true⟩

/-- A place whose program was cut by a reset: it fails its check; its marker stays (R174). -/
def Place.cut {α : Type} (p : Place α) : Place α := { p with content := .failing }

/-- What an AMEND writes: a KEPT record, or "no record" when it turns TEMPORARY (R167). -/
def keptContent (r : BookingRecord) : Content BookingRecord := if r.kept then .whole r else .empty

/-- A header place blanked by a SLOT ERASE: the failed-program marker stays, which a verified program alone
clears (R166, R172). -/
def Place.erased {α : Type} (p : Place α) : Place α := { p with content := .empty }

/-- The places after a verified completion. A verified erase clears the program-begun markers of its slot
(R166). -/
def Places.verified (p : Places) : StoreJob → Places
  | .book n r => { p with bookings := p.bookings.set (n - 1) (.verified (keptContent r)) }
  | .amend n r => { p with bookings := p.bookings.set (n - 1) (.verified (keptContent r)) }
  | .withdraw n => { p with bookings := p.bookings.set (n - 1) (.verified .empty) }
  | .setBell b r => { p with bells := p.bells.set b (.verified (.whole r)) }
  | .setDrive d => { p with drive := .verified (.whole d) }
  | .setProtection r => { p with copyA := .whole r, copyB := .whole r }
  | .define m h => { p with headers := p.headers.set m (.verified (.whole h)) }
  | .segment m i bytes => { p with segments := setAt2 p.segments m i (.programmed bytes) }
  | .erase m =>
    { p with
      headers := p.headers.modify m Place.erased
      segments := p.segments.set m (List.replicate Config.segments .blank)
      programBegun := p.programBegun.set m (List.replicate Config.segments false)
      eraseBegun := p.eraseBegun.set m false }

/-- The places after a verify failure; `garbage` is what an unverified segment reads as. An erase that
failed keeps its erase-begun marker (R166) and its slot's program-begun markers (DESIGN CHOICE, log 53). -/
def Places.failed (p : Places) (atB : Bool) (garbage : List Byte) : StoreJob → Places
  | .book n _ => { p with bookings := p.bookings.set (n - 1) .unverified }
  | .amend n _ => { p with bookings := p.bookings.set (n - 1) .unverified }
  | .withdraw n => { p with bookings := p.bookings.set (n - 1) .unverified }
  | .setBell b _ => { p with bells := p.bells.set b .unverified }
  | .setDrive _ => { p with drive := .unverified }
  | .setProtection r =>
    if atB then { p with copyA := .whole r, copyB := .failing } else { p with copyA := .failing }
  | .define m _ => { p with headers := p.headers.set m .unverified }
  | .segment m i _ => { p with segments := setAt2 p.segments m i (.spoiled garbage) }
  | .erase _ => p

/-- The places after an operation whose work had begun was cut by a reset (R174). The places of a slot whose
erase was cut keep what they held beside the erase-begun marker, which no reader looks past (DESIGN CHOICE,
log 46), and their program-begun markers (DESIGN CHOICE, log 53). -/
def Places.aborted (p : Places) (atB : Bool) (garbage : List Byte) : StoreJob → Places
  | .book n _ => { p with bookings := p.bookings.modify (n - 1) Place.cut }
  | .amend n _ => { p with bookings := p.bookings.modify (n - 1) Place.cut }
  | .withdraw n => { p with bookings := p.bookings.modify (n - 1) Place.cut }
  | .setBell b _ => { p with bells := p.bells.modify b Place.cut }
  | .setDrive _ => { p with drive := p.drive.cut }
  | .setProtection r =>
    if atB then { p with copyA := .whole r, copyB := .failing } else { p with copyA := .failing }
  | .define m _ => { p with headers := p.headers.modify m Place.cut }
  | .segment m i _ => { p with segments := setAt2 p.segments m i (.spoiled garbage) }
  | .erase _ => p

/-- Draws the next free value: the bytes of a part-written or unverified segment place, a header of seven
bytes and at most 256 events of four (R152; log 11). -/
def State.garbage (s : State) : List Byte :=
  (List.range (7 + 4 * (Config.freeEvents s.freeCount % 257))).map (Config.freeByte s.freeCount)

/-- The places a reset finds: an operation whose work had begun leaves its places part-written, one
whose work had not begun has written nothing (R174; DEDUCED, log 13). -/
def State.placesAfterCut (s : State) (atB : Bool) : Places :=
  match s.store.op with
  | some op => if op.begun then s.store.places.aborted atB s.garbage op.job else s.store.places
  | none => s.store.places

/-! ## The start-up load (R176, R163, R165) -/

/-- A place with a record fails at the load when its check fails or its marker is set; one that holds no
record is not a failure, whatever its marker (R176; DEDUCED, log 49). -/
def Place.fails {α : Type} (p : Place α) : Bool :=
  match p.content with
  | .empty => false
  | .failing => true
  | .whole _ => p.failedProgram

/-- The record a place gives the load. -/
def Place.loaded {α : Type} (p : Place α) : Option α :=
  if p.failedProgram then none
  else match p.content with
    | .whole v => some v
    | .empty | .failing => none

/-- R163: of two passing copies, the one whose number is one above the other's is in force, 255 to 0
counting as one step, and A when the numbers are equal. Numbers further apart have no row: a free choice
(DESIGN CHOICE, log 28). -/
def newerCopy (a b : ProtectionRecord) : ProtectionRecord :=
  if b.sequence = (a.sequence + 1) % 256 then b
  else if a.sequence = b.sequence ∨ a.sequence = (b.sequence + 1) % 256 then a
  else if Config.unorderedTakesB a.sequence b.sequence then b
  else a

/-- R163: the record in force, and whether it is the PERMANENT fallback. -/
def chooseProtection (a b : Content ProtectionRecord) : ProtectionRecord × Bool :=
  match a, b with
  | .whole x, .whole y => (newerCopy x y, false)
  | .whole x, .empty => (x, false)
  | .whole x, .failing => (x, false)
  | .empty, .whole y => (y, false)
  | .failing, .whole y => (y, false)
  | .empty, .empty => (.default, false)
  | .failing, .empty => (.default, false)
  | .empty, .failing => (.fallback, true)
  | .failing, .failing => (.fallback, true)

/-- R176: how many places the load discards. -/
def Places.discards (p : Places) : Nat :=
  (p.bookings.countP Place.fails) + (p.bells.countP Place.fails)
    + (if p.drive.fails then 1 else 0)
    + (if (chooseProtection p.copyA p.copyB).2 then 1 else 0)

/-- R165, R176: the first `count` segment positions from the program-begun markers, the rest ABSENT. -/
def loadedPositions (begun : List Bool) (count : Nat) : List SegmentPosition :=
  (List.range Config.segments).map fun i =>
    if i < count && begun.getD i false then .present else .absent

/-- R151: a slot whose header cannot be read, with its segment positions. -/
def MelodySlot.unreadable (positions : List SegmentPosition) : MelodySlot :=
  { MelodySlot.initial with
    state := .complete, header := .unreadable, damaged := true, positions := positions }

/-- Whether every position below the segment count is PRESENT. -/
def allPresent (positions : List SegmentPosition) (count : Nat) : Bool :=
  (positions.take count).all (· == .present)

/-- R165, R176: a melody slot as the load rebuilds it; the positions of a SCORE below its segment count, and all
sixteen of a slot it cannot read, are PRESENT where the program-begun marker is set. -/
def Places.loadedSlot (p : Places) (m : Nat) : MelodySlot :=
  let place := p.headers.getD m Place.blank
  let begun := p.programBegun.getD m []
  if p.eraseBegun.getD m false || place.fails then .unreadable (loadedPositions begun Config.segments)
  else match place.loaded with
    | none => .initial
    | some h =>
      match h.shape with
      | .toll .. => { MelodySlot.initial with state := .complete, header := .known h }
      | .score count =>
        let positions := loadedPositions begun count
        { MelodySlot.initial with
          state := if allPresent positions count then .complete else .defined
          header := .known h
          positions := positions }

end Sys2Proof.Machine
end

