-- ==== Sys2Proof/Machine/Player.lean ====
section
/-! DEFINITION. The Score Player and the taking of live events: due times, the pitch map, segment
buffers, reaching, repetitions, tolls, halts, resume points (04_score_playback.md, R142, R144). -/

namespace Sys2Proof.Machine

/-! ## Tempo and due time (R79, R80) -/

/-- R79: the tick length at a tempo, µs. -/
def tickLength (tempo : Nat) : Nat := 1250000 / tempo

/-- R80: a TEMPO value clamped into 20–240. -/
def clampTempo (v : Nat) : Nat := max 20 (min 240 v)

/-- R79: the due time of score tick `t`. -/
def Context.dueAt (c : Context) (t : Nat) : Nat :=
  c.originTime + (t - c.originTick) * tickLength c.tempoNow

/-- R80, R81: the origin is rebased at tick `t` and the tempo in force becomes `tempo`. -/
def Context.rebase (c : Context) (t tempo : Nat) : Context :=
  { c with originTime := c.dueAt t, originTick := t, tempoNow := tempo }

/-- R82: within the planning horizon. -/
def State.inHorizon (s : State) (due : Nat) : Bool := due ≤ s.now + Config.horizon

/-! ## The pitch map (R91, R92) -/

/-- R91: a bell is usable for a pitch when present, of that pitch and not FAULTED. -/
def Bell.usableFor (b : Bell) (p : Int) : Bool :=
  b.record.present && (b.record.pitch : Int) == p && b.state != .faulted

/-- R100, stage 2: a bell that a fault or a SET BELL taken at this very reading of the clock has put out of use
while it carried a pitch. -/
def Bell.goneNow (b : Bell) (now : Nat) (p : Int) : Bool :=
  !b.usable && (match b.wentOut with | none => false | some m => m.1 == now && (m.2 : Int) == p)

/-- A bell that a note of a pitch names: one usable for it (R91), and one that was so until a fault or a change that
falls together with the note's reaching and was taken first (R100, stage 2; log 62). -/
def Bell.named (b : Bell) (now : Nat) (p : Int) : Bool := b.usableFor p || b.goneNow now p

/-- R91: the lowest-numbered bell a note of a pitch names; none outside 0–127. -/
def State.bellFor (s : State) (p : Int) : Option Nat :=
  if 0 ≤ p ∧ p ≤ 127 then s.drive.bells.findIdx? (·.named s.now p) else none

/-- R92: the bell of a pitch, and whether it is a substitute an octave above or below. -/
def State.mapPitch (s : State) (p : Int) (substitution : Bool) : Option Nat × Bool :=
  match s.bellFor p with
  | some b => (some b, false)
  | none =>
    if substitution then
      match s.bellFor (p + 12) with
      | some b => (some b, true)
      | none =>
        match s.bellFor (p - 12) with
        | some b => (some b, true)
        | none => (none, false)
    else (none, false)

/-- R92, R94: the hand-over of a note of a context. A note reached at the very instant of a fault or a SET BELL that
was taken first names the bell it would have had, and is lost on it (R100, stage 2); one reached after that instant is
substituted or left unmapped (R92, R113; log 62). -/
def State.noteOf (s : State) (c : Context) (pitch strength due : Nat) (pos : ScorePos) : HandOver :=
  let m := s.mapPitch ((pitch : Int) + c.transposition) c.substitution
  { owner := .booking c.booking, bell := m.1, substituted := m.2, due := due, strength := strength
    volume := c.volume, pos := some pos }

/-! ## The score as the store holds it -/

/-- The events of a stored segment; a place that is not whole gives none. -/
def State.scoreEvents (s : State) (slot segment : Nat) : List Event :=
  match s.segmentPlace slot segment with
  | .programmed bytes => ((parseSegment bytes).map Segment.events).getD []
  | .blank => []
  | .spoiled _ => []

/-- The whole score in score order: segment, event index, event (R77). -/
def State.score (s : State) (slot : Nat) : List (Nat × Nat × Event) :=
  (List.range (s.melody slot).segmentCount).flatMap fun seg =>
    (s.scoreEvents slot seg).zipIdx.map fun p => (seg, p.2, p.1)

/-- Whether position (segment, event) `a` stands at or before `b` in one repetition. -/
def atOrBefore (a b : Nat × Nat) : Bool := a.1 < b.1 || (a.1 == b.1 && a.2 ≤ b.2)

/-! ## Resume point (R57) -/

/-- The scan for a resume point: the tick and tempo reached, and the latest PHRASE so far. -/
structure PhraseScan where
  tick : Nat
  tempo : Nat
  found : Option ResumePoint
deriving DecidableEq, Repr

/-- One event of the scan; PHRASE events later than `limit` do not count. -/
def PhraseScan.step (limit : Nat × Nat) (p : PhraseScan) (x : Nat × Nat × Event) : PhraseScan :=
  let tick := p.tick + x.2.2.delta
  match x.2.2 with
  | .phrase _ =>
    if atOrBefore (x.1, x.2.1) limit then
      { p with tick := tick, found := some ⟨⟨x.1, x.2.1, p.tick, 0⟩, tick, p.tempo⟩ }
    else { p with tick := tick }
  | .tempo v _ => { p with tick := tick, tempo := clampTempo v }
  | .note .. | .rest _ => { p with tick := tick }

/-- The start of a context's current repetition as a resume point (R57). -/
def Context.repetitionStart (c : Context) : ResumePoint := ⟨⟨0, 0, c.repStart, 0⟩, c.repStart, c.tempo⟩

/-- R57 for a SCORE: the latest PHRASE of the current repetition at or before the earliest unfired
event, else the start of that repetition. Entries of an earlier repetition stand before all of it:
DEDUCED (log 18). -/
def State.scoreResume (s : State) (c : Context) (slot : Nat) (removed : Option ScorePos) : ResumePoint :=
  let limit : Option (Nat × Nat) :=
    match removed with
    | none => some (c.pos.segment, c.pos.event)
    | some r =>
      if r.repeatNo < c.repeatNo then none
      else if atOrBefore (r.segment, r.event) (c.pos.segment, c.pos.event) then some (r.segment, r.event)
      else some (c.pos.segment, c.pos.event)
  match limit with
  | none => c.repetitionStart
  | some l =>
    (((s.score slot).foldl (PhraseScan.step l) ⟨c.repStart, c.tempo, none⟩).found).getD c.repetitionStart

/-- R57 for a TOLL: the earliest of the tolls removed and the toll at the planning position. -/
def Context.tollResume (c : Context) (removed : Option ScorePos) : ResumePoint :=
  let k := match removed with | none => c.pos.number | some r => min r.number c.pos.number
  ⟨{ c.pos with number := k }, k, c.tempo⟩

/-- R57; a SCORE taken up at its resume point that has reached nothing since keeps that point (R61, R69); a LIVE
context takes up from its stream queue and keeps its position (R69, R146). -/
def State.resumePoint (s : State) (c : Context) (removed : Option ScorePos) : ResumePoint :=
  match c.melodyKind, c.melody with
  | some .score, some slot => if c.atResume then c.resume else s.scoreResume c slot removed
  | some .toll, _ => c.tollResume removed
  | _, _ => ⟨c.pos, c.pos.tick, c.tempoNow⟩

/-! ## Stop point (R90) -/

/-- The first PHRASE of the score that the test accepts. -/
def State.firstPhrase (s : State) (slot : Nat) (ok : Nat × Nat → Bool) : Option (Nat × Nat) :=
  ((s.score slot).find? fun x => x.2.2.isPhrase && ok (x.1, x.2.1)).map fun x => (x.1, x.2.1)

/-- The stop point when no PHRASE is left in the repetition: the start of the next one, if any (R90). Under an
AT_PHRASE that replaced AT_END the repeats that AT_END had cancelled count again, so planning goes on to that start,
where the repeat number is one more (DESIGN CHOICE, log 58). -/
def Context.nextRepetitionMark (c : Context) : Option (Nat × Nat × Nat) :=
  if c.repeatNo < c.repeats then some (c.repeatNo + 1, 0, 0) else none

/-- R84, R90: whether a SCORE stands where it was taken up: at its resume point, or, reaching its first event
yet, at the start of the score, which is the resume point of a start (R48; DEDUCED, log 20). -/
def Context.atTakeUp (c : Context) : Bool :=
  c.atResume || (c.repeatNo == 1 && c.pos.segment == 0 && c.pos.event == 0)

/-- Whether the place of the planning position counts as a place the position will reach: it does, but for a
context that was taken up there (R90; log 20). -/
def Context.reaches (c : Context) (x : Nat × Nat) : Bool :=
  atOrBefore (c.pos.segment, c.pos.event) x && !(c.atTakeUp && x == (c.pos.segment, c.pos.event))

/-- R90: the stop point, the first phrase mark that the planning position will reach, counted from its place when
a halt is stored and from the resume point at a take-up. -/
def State.stopFromHere (s : State) (c : Context) (slot : Nat) : Option (Nat × Nat × Nat) :=
  if 1 < c.repeatNo ∧ c.pos.segment = 0 ∧ c.pos.event = 0 ∧ c.atTakeUp = false then some (c.repeatNo, 0, 0)
  else
    match s.firstPhrase slot c.reaches with
    | some x => some (c.repeatNo, x.1, x.2)
    | none => c.nextRepetitionMark

/-! ## Segment buffers (R85, R86) -/

/-- Both buffers are released and their outstanding reads left to complete (R84). -/
def State.releaseBuffers (s : State) : State :=
  { s with
    player := { s.player with cur := .free, next := .free }
    store := s.store.releaseReads (fun _ => true) }

/-- The Score Player lets go of a context: buffers, stop point and planning done are discarded (R75, R84). -/
def State.letGo (s : State) : State :=
  { s.releaseBuffers with player := .initial }

/-- Planning becomes done (R89). -/
def State.planningDone (d : PlanningDone) (s : State) : State :=
  { s with player := { s.player with done := some d } }

/-- R86: the segment that follows a segment in playback order; under an AT_PHRASE that replaced AT_END the repeats
count again (log 58). -/
def State.following (s : State) (c : Context) (slot segment : Nat) : Option Nat :=
  if segment + 1 < (s.melody slot).segmentCount then some (segment + 1)
  else if c.repeatNo < c.repeats ∧ c.pendingHalt ≠ some .atEnd then some 0
  else none

/-- R85, R86: the read of the following segment into the next buffer, unless the current buffer already
holds that segment. One that failed for this context is not read again: its buffer is FAILED (R88; DEDUCED,
log 44). -/
def State.prefetch (c : Context) (slot segment : Nat) (s : State) : State :=
  match s.following c slot segment with
  | none => s
  | some f =>
    if f = segment then s
    else if f ∈ c.failed then { s with player := { s.player with next := .failed f } }
    else { s with player := { s.player with next := .reading f } }.requestSegment slot f

/-- R85: the reads of a take-up. One that begins with a segment that failed for this context reads nothing:
planning is done at once (R88; DEDUCED, log 44). -/
def State.startReads (c : Context) (slot : Nat) (s : State) : State :=
  if c.pos.segment ∈ c.failed then
    { s with player := { s.player with cur := .failed c.pos.segment } }.planningDone .damaged
  else ({ s with player := { s.player with cur := .reading c.pos.segment } }.requestSegment slot
    c.pos.segment).prefetch c slot c.pos.segment

/-- R86: planning enters `segment`. The buffers change roles and the freed one takes the segment after;
at a segment that failed twice planning is done instead, a stop point that stands there and not before it changing
nothing (R88), and the current buffer stays HELD (section 4.10; log 61). Where the stop point is the first event of
`segment`, planning ends there before the buffers change roles, and the read of the segment after is not asked for:
the manual gives no order between R86 and R90 (DESIGN CHOICE, log 57). -/
def State.enterSegment (c : Context) (slot segment : Nat) (s : State) : State :=
  match s.player.next with
  | .failed _ => s.planningDone .damaged
  | .free | .reading _ | .retrying _ | .held _ =>
    if s.player.stopPoint = some (c.repeatNo, segment, 0) then s
    else { s with player := { s.player with cur := s.player.next, next := .free } }.prefetch c slot segment

/-! ## Reaching score events (R78, R81, R82, R89) -/

/-- R94, R100: the Score Player hands a note over. It is one note that a test hand-over of the same instant
can forestall: once it is handed over, a queue still full stalls the rest (DESIGN CHOICE, log 55). -/
def State.planNote (h : HandOver) (s : State) : State := ((s.setTestFilled none).plan h).1

/-- R81: a new repetition begins at the tick of the end of the score just passed. -/
def Context.newRepetition (c : Context) (tick : Nat) : Context :=
  let c := c.rebase tick c.tempo
  { c with repeatNo := c.repeatNo + 1, repStart := tick, pos := ⟨0, 0, tick, 0⟩, atResume := false }

/-- R78: the planning position moves off the event it stood at. -/
def Context.moveTo (pos : PlanPos) (c : Context) : Context := { c with pos := pos, atResume := false }

/-- R78: after an event at `tick`, the planning position moves to the next event in score order, through
the end of a segment, the end of the score, and into the next repetition, one that AT_END had cancelled too when
AT_PHRASE has replaced it (log 58). Past the last event of all no buffer changes its role, and the current buffer
stays HELD until the context is let go: R85 frees a buffer whose segment was passed by planning, and does not say
whether the end of the score is such a passing (DESIGN CHOICE, log 61). -/
def State.advance (slot tick eventCount : Nat) (s : State) : State :=
  match s.engine.active with
  | none => s
  | some c =>
    let onward := c.moveTo { c.pos with event := c.pos.event + 1, tick := tick }
    if c.pos.event + 1 < eventCount then s.modActive fun _ => onward
    else if c.pos.segment + 1 < (s.melody slot).segmentCount then
      let c' := c.moveTo ⟨c.pos.segment + 1, 0, tick, 0⟩
      (s.modActive fun _ => c').enterSegment c' slot (c.pos.segment + 1)
    else if c.repeatNo < c.repeats ∧ c.pendingHalt ≠ some .atEnd then
      let c' := c.newRepetition tick
      let s := s.modActive fun _ => c'
      if (s.melody slot).segmentCount = 1 then s else s.enterSegment c' slot 0
    else (s.modActive fun _ => onward).planningDone .complete

/-- R78: what an event does when it is reached at score tick `tick`, due at `due`. -/
def State.actEvent (c : Context) (e : Event) (tick due : Nat) (pos : ScorePos) (s : State) : State :=
  match e with
  | .note pitch strength _ =>
    if strength = 0 then s else s.planNote (s.noteOf c pitch strength due pos)
  | .rest _ => s
  | .tempo v _ => s.modActive (·.rebase tick (clampTempo v))
  | .phrase _ => s

/-- The score position of the event at the planning position (R94). -/
def Context.scorePos (c : Context) (tick : Nat) : ScorePos := ⟨c.repeatNo, c.pos.segment, c.pos.event, tick, 0⟩

/-- R89, R90: planning is done where the planning position stands at the stop point. -/
def State.stopHere (s : State) (c : Context) : Option State :=
  if s.player.stopPoint = some (c.repeatNo, c.pos.segment, c.pos.event) then
    some (s.releaseBuffers.planningDone .complete)
  else none

/-- R82, R83, R88, R90: the Score Player looks at the event at a SCORE context's planning position: none
when nothing is to be done there now. -/
def State.reachScore (s : State) (c : Context) : Option State :=
  match c.melody with
  | none => none
  | some slot =>
    match s.player.cur with
    | .failed _ => some (s.planningDone .damaged)
    | .free | .reading _ | .retrying _ => s.stopHere c
    | .held segment =>
      match s.stopHere c with
      | some s' => some s'
      | none =>
        match segment.events[c.pos.event]? with
        | none => none
        | some e =>
          let tick := c.pos.tick + e.delta
          let due := c.dueAt tick
          if s.stalled || !s.inHorizon due then none
          else some ((s.actEvent c e tick due (c.scorePos tick)).advance slot tick segment.events.length)

/-! ## Tolls (R95, R96) -/

/-- The toll pitch, strength and interval (ms) of a context's melody. -/
def State.tollOf (s : State) (c : Context) : Option (Nat × Nat × Nat) :=
  match c.melody with
  | none => none
  | some slot =>
    match (s.melody slot).known? with
    | none => none
    | some h =>
      match h.shape with
      | .toll pitch strength interval _ => some (pitch, strength, interval)
      | .score _ => none

/-- R96: the due time of toll `k`. -/
def Context.tollDue (c : Context) (interval k : Nat) : Nat :=
  c.originTime + (k - c.originTick) * (interval * 1000)

/-- R95: the repetition of toll `k`. -/
def Context.tollRepetition (c : Context) (k : Nat) : Nat := (k - 1) / c.tollCount + 1

/-- R96: the last toll to be planned. -/
def Context.lastToll (c : Context) : Nat := c.tollCount * c.lastRepeat

/-- R95, R96: after a toll, the position moves to the next, whose repetition is the repeat number, or planning is
done. -/
def State.advanceToll (s : State) : State :=
  match s.engine.active with
  | none => s
  | some c =>
    let k := c.pos.number + 1
    if c.lastToll < k then
      (s.modActive fun c => { c with pos := { c.pos with number := k } }).planningDone .complete
    else
      s.modActive fun c => { c with pos := { c.pos with number := k }, repeatNo := c.tollRepetition k }

/-- R96: the Score Player looks at the toll at the planning position. -/
def State.reachToll (s : State) (c : Context) : Option State :=
  match s.tollOf c with
  | none => none
  | some (pitch, strength, interval) =>
    let k := c.pos.number
    let due := c.tollDue interval k
    if s.stalled || !s.inHorizon due then none
    else some (s.planNote (s.noteOf c pitch strength due ⟨0, 0, 0, 0, k⟩)).advanceToll

/-! ## Live events (R97, R142, R144, R145) -/

/-- R145: the idle time starts from 0. -/
def IdleTime.startAt (now : Nat) : IdleTime := ⟨0, some now⟩

/-- R145: the idle time stopped and cleared. -/
def IdleTime.cleared : IdleTime := ⟨0, none⟩

/-- R142, R145: the head event has left the stream queue; emptying it in OPEN starts the idle time. -/
def LiveFeed.take (l : LiveFeed) (rest : List Event) (now : Nat) : LiveFeed :=
  { l with queue := rest, idle := if rest.isEmpty && l.mode == .opened then .startAt now else l.idle }

/-- R142: the head event leaves the stream queue; at level 8 or less FEED is raised. -/
def State.takeHead (rest : List Event) (s : State) : State :=
  { s with live := s.live.map fun l : LiveFeed => l.take rest s.now }.raiseIf (rest.length ≤ Config.feedLevel) .feed

/-- R142, R144: the active live context has taken an event at `tick`, due at `due`: its counts move and
its feed deadline is set 48 ticks after the event, at the tick length then in force. -/
def State.afterTaking (tick due : Nat) (s : State) : State :=
  s.modActive fun c => { c with
    pos := { c.pos with tick := tick, number := c.pos.number + 1 }
    feedDeadline := some (due + 48 * tickLength c.tempoNow) }

/-- R142: the Score Player looks at the head of the stream queue. -/
def State.reachLive (s : State) (c : Context) : Option State :=
  match s.live with
  | none => none
  | some l =>
    match l.queue with
    | [] => none
    | e :: rest =>
      let tick := c.pos.tick + e.delta
      let due := c.dueAt tick
      if l.mode == .stopped || s.stalled || !s.inHorizon due then none
      else some (((s.takeHead rest).actEvent c e tick due ⟨0, 0, 0, 0, c.pos.number + 1⟩).afterTaking tick due)

/-! ## The reach loop (R82, R83) -/

/-- One look at the planning position of the active context: none when nothing is to be done now. -/
def State.reachOne (s : State) : Option State :=
  match s.engine.active with
  | none => none
  | some c =>
    if c.mode == .hushed || s.player.done.isSome then none
    else
      match c.melodyKind with
      | some .score => s.reachScore c
      | some .toll => s.reachToll c
      | none => s.reachLive c

/-- Reaches what may be reached, one event at a time, at most `n` looks. -/
def reachLoop : Nat → State → State
  | 0, s => s
  | n + 1, s =>
    match s.reachOne with
    | none => s
    | some s' => reachLoop n s'

/-- No performance has more looks left than this: nine repetitions of sixteen segments of 256 events,
108 tolls, or 32 live events, with the looks that end planning (log 29). -/
def reachFuel : Nat := 9 * 16 * 256 + 16

/-- The Score Player reaches every event it may reach now. -/
def State.reachAll (s : State) : State := reachLoop reachFuel s

end Sys2Proof.Machine
end

