-- ==== Sys2Proof/Machine/Book.lean ====
section
/-! DEFINITION. What the Booking Book does to one booking: disposals and outcomes, the orphan list,
falling due, missed occurrences and the order of the waiting list (02_the_booking_book.md, R51). -/

namespace Sys2Proof.Machine

/-! ## Disposals (R30) -/

/-- R30: writes an outcome record into a booking and does the disposal's bookkeeping. -/
def Booking.write (o : OutcomeRecord) (b : Booking) : Booking :=
  let ofCurrent := o.occurrence.isSome && b.current == o.occurrence
  { b with
    lastOutcome := some o
    unread := true
    missed := if o.kind = .missed then sat16 b.missed 1 else b.missed
    lastDisposed := laterOf b.lastDisposed o.occurrence
    current := if ofCurrent then none else b.current
    waiting := if ofCurrent then none else b.waiting }

/-- R30: a silent disposal of an occurrence. -/
def Booking.disposeSilently (b : Booking) (occurrence : Nat) : Booking :=
  { b with missed := sat16 b.missed 1, lastDisposed := laterOf b.lastDisposed (some occurrence) }

/-- The outcome record of an occurrence missed, with its four zero counts. -/
def missedRecord (cause : OutcomeCause) (occurrence : Option Nat) : OutcomeRecord :=
  ⟨.missed, some cause, occurrence, .zero⟩

/-- R27, R35: an occurrence reached while the booking sounds or is suspended. -/
def Booking.missSounding (b : Booking) (occurrence : Nat) : Booking :=
  b.write (missedRecord .stillSounding (some occurrence))

/-- R22 alone: the next occurrence is recomputed, the state is kept. -/
def Booking.renext (t : TowerTime) (b : Booking) : Booking := { b with next := b.nextOccurrence t }

/-- R25: a booking falls due at its next occurrence. -/
def Booking.fallDue (t : TowerTime) (b : Booking) : Booking :=
  { b with current := b.next, waiting := some 0, state := .due }.renext t

/-- R29, steps 2 and 3: the waiting occurrence is missed and the next one becomes current. -/
def Booking.takeNewOccurrence (t : TowerTime) (b : Booking) : Booking :=
  { b.write (missedRecord .patience b.current) with current := b.next, waiting := some 0 }.renext t

/-- NOW and LIVE bookings (R46). -/
def BookingKind.immediate : BookingKind → Bool
  | .now | .live => true
  | .once | .daily | .weekly | .hourly => false

/-! ## Removal and orphan outcomes (R31, R32) -/

/-- R32: an outcome joins the orphan list; the oldest of 8 leaves first. -/
def Book.orphan (b : Book) (o : Orphan) : Book :=
  { b with orphans := b.orphans.drop (b.orphans.length + 1 - Config.orphanMax) ++ [o] }

/-- The record of slot `n` is removed; with a LIVE booking its stream queue, feed mode and underrun
count go (R139, R148). -/
def State.removeBooking (n : Nat) (s : State) : State :=
  { s.setSlot n .free with
    live := if s.live.any (fun l => l.booking == n) then none else s.live }

/-- R30, R31: the occurrence a booking is due for or sounding is disposed. A NOW or LIVE booking, and one
whose withdrawal takes effect, leaves its outcome in the orphan list and goes. -/
def State.dispose (n : Nat) (kind : OutcomeKind) (cause : Option OutcomeCause) (counts : StrikeCounts)
    (withdrawn : Bool) (s : State) : State :=
  match s.booking? n with
  | none => s
  | some b =>
    let o : OutcomeRecord := ⟨kind, cause, b.current, counts⟩
    let s := s.raise .outcome
    if b.record.kind.immediate || withdrawn then
      let s := { s with book := s.book.orphan ⟨n, b.record.kind, o⟩ }
      s.removeBooking n
    else s.setBooking n ((b.write o).goOn s.time)

/-- A waiting booking is disposed MISSED (R28, R35, R37). -/
def State.disposeWaiting (n : Nat) (cause : OutcomeCause) (s : State) : State :=
  s.dispose n .missed (some cause) .zero false

/-! ## The waiting list (R51) -/

/-- What a booking is ordered by among equals of rank: its current occurrence, or its creation second. -/
def Booking.orderSecond (b : Booking) : Nat :=
  match b.current with
  | some t => t
  | none => b.creation.getD 0

/-- R51: whether booking `a` stands at or before booking `b` in the waiting list. -/
def State.waitsBefore (s : State) (a b : Nat) : Bool :=
  match s.booking? a, s.booking? b with
  | some x, some y =>
    y.record.rank < x.record.rank || (x.record.rank == y.record.rank &&
      (x.orderSecond < y.orderSecond || (x.orderSecond == y.orderSecond && a ≤ b)))
  | _, _ => a ≤ b

/-- Inserts a booking number at its place. -/
def State.insertWaiting (s : State) (n : Nat) : List Nat → List Nat
  | [] => [n]
  | x :: xs => if s.waitsBefore n x then n :: x :: xs else x :: s.insertWaiting n xs

/-- R51: the list is sorted by the records in force. -/
def State.sortWaiting (s : State) : State :=
  { s with engine := { s.engine with waiting := s.engine.waiting.foldr s.insertWaiting [] } }

/-- Bookings join the waiting list at their places, each once (R51). -/
def State.joinWaiting (ns : List Nat) (s : State) : State :=
  { s with engine := { s.engine with
      waiting := s.engine.waiting ++ ns.filter (!s.engine.waiting.contains ·) } }.sortWaiting

/-- A booking leaves the waiting list. -/
def State.leaveWaiting (n : Nat) (s : State) : State :=
  { s with engine := { s.engine with waiting := s.engine.waiting.filter (· != n) } }

/-! ## An occurrence at the calendar second in force (R23) -/

/-- R23: a booking whose recomputed next occurrence is the calendar second in force. The second component
says that it fell due and is to be handed over. -/
def State.dueNow (n : Nat) (s : State) : State × Bool :=
  match s.booking? n with
  | none => (s, false)
  | some b =>
    if b.next = some s.time.second then
      match b.state with
      | .armed => (s.setBooking n (b.fallDue s.time), true)
      | .due => ((s.setBooking n (b.takeNewOccurrence s.time)).raise .outcome, false)
      | .sounding | .suspended =>
        ((s.setBooking n ((b.missSounding s.time.second).renext s.time)).raise .outcome, false)
      | .dormant | .spent => (s, false)
    else (s, false)

end Sys2Proof.Machine
end

