-- ==== Sys2Proof/Machine/Engine.lean ====
section
/-! DEFINITION. The Precedence Engine: contexts, start checks and decisions, suspension, displacement,
replacement, ends, the resume choice and reconsiderations (03_precedence_and_preemption.md). -/

namespace Sys2Proof.Machine

/-! ## Contexts (R48, R95) -/

/-- R95: the tolls of one repetition, from the count mode and a calendar second. -/
def CountMode.count (m : CountMode) (t : Nat) : Nat :=
  match m with
  | .hour => if hourOf t % 12 = 0 then 12 else hourOf t % 12
  | .quarter => if minuteOf t / 15 = 0 then 4 else minuteOf t / 15
  | .fixed n => n

/-- The readable header of the melody a record names. -/
def State.headerOf (s : State) (r : BookingRecord) : Option MelodyHeader :=
  match r.melody with
  | none => none
  | some m => (s.melody m).known?

/-- The melody kind of a header. -/
def MelodyHeader.kind (h : MelodyHeader) : MelodyKind :=
  match h.shape with
  | .score _ => .score
  | .toll .. => .toll

/-- R95: the toll count fixed at the start; 0 for anything but a TOLL. -/
def MelodyHeader.tollCount (h : MelodyHeader) (t : Nat) : Nat :=
  match h.shape with
  | .score _ => 0
  | .toll _ _ _ mode => mode.count t

/-- R48: the context of a booking that starts now. A TOLL without a tempo of its own has none, and none is
read: held as 0 (DESIGN CHOICE, log 36). -/
def State.newContext (s : State) (n : Nat) (b : Booking) : Context :=
  let header := s.headerOf b.record
  let tempo := b.record.tempo.getD ((header.bind MelodyHeader.baseTempo).getD 0)
  let first := if header.map MelodyHeader.kind = some .toll then 1 else 0
  let pos : PlanPos := ⟨0, 0, 0, first⟩
  { booking := n, kind := b.record.kind, melody := b.record.melody
    melodyKind := header.map MelodyHeader.kind, occurrence := b.current
    cls := b.record.cls, rank := b.record.rank, tempo := tempo
    transposition := b.record.transposition, volume := b.record.volume
    substitution := b.record.substitution, repeats := b.record.repeats, repeatNo := 1
    pos := pos, resume := ⟨pos, first, tempo⟩
    originTime := s.now + Config.startLead, originTick := first, tempoNow := tempo
    counts := .zero, pendingHalt := none, mode := .playing, feedDeadline := none
    tollCount := (header.map (·.tollCount (b.current.getD s.time.second))).getD 0
    repStart := 0, lastRepeat := b.record.repeats, atResume := false, failed := [] }

/-- Changes the state of booking `n`. -/
def State.setBookingState (n : Nat) (v : BookingState) (s : State) : State :=
  match s.booking? n with
  | none => s
  | some b => s.setBooking n { b with state := v }

/-! ## Taking up (R84, R146) -/

/-- R146: the idle time at a live take-up. -/
def LiveFeed.idleAtTakeUp (l : LiveFeed) (now : Nat) : IdleTime :=
  if l.queue.isEmpty && l.mode == .opened then ⟨l.idle.kept, some now⟩ else .cleared

/-- R146: the feed deadline of a take-up, 48 ticks after the origin. -/
def Context.takeUpDeadline (c : Context) : Nat := c.originTime + 48 * tickLength c.tempoNow

/-- R146: the Live Feed takes up the active context. -/
def State.takeUpLive (s : State) : State :=
  { s.modActive fun c => { c with feedDeadline := some c.takeUpDeadline } with
    live := s.live.map fun l => { l with idle := l.idleAtTakeUp s.now } }

/-- R84: the Score Player, or the Live Feed, takes up the active context. -/
def State.takeUp (s : State) : State :=
  match s.engine.active with
  | none => s
  | some c =>
    let s := { s with player := .initial }
    match c.melodyKind, c.melody with
    | some .score, some slot =>
      let stop := if c.pendingHalt = some .atPhrase then s.stopFromHere c slot else none
      { s with player := { s.player with stopPoint := stop } }.startReads c slot
    | some .toll, _ => if c.pendingHalt = some .atPhrase then s.planningDone .complete else s
    | _, _ => s.takeUpLive

/-- R62, R69: planning goes back to the resume point, with a new time origin. The repeat number is kept, a TOLL's
too until its next toll (R62 beside R95; DEDUCED, log 38). -/
def Context.fromResume (c : Context) (now : Nat) : Context :=
  { c with
    mode := .playing, pos := c.resume.pos, tempoNow := c.resume.tempo
    originTime := now + Config.startLead, originTick := c.resume.tick, atResume := true }

/-! ## Start checks (R54) -/

/-- R54, the score check: the slot is COMPLETE and not DAMAGED; a LIVE booking names none. -/
def State.scoreReady (s : State) (r : BookingRecord) : Bool :=
  match r.melody with
  | none => true
  | some m => (s.melody m).state == .complete && !(s.melody m).damaged

/-- R54: the outcome a start is refused with, if it is refused. -/
def State.startRefusal (s : State) (b : Booking) : Option OutcomeKind :=
  if !s.drive.ready then some .noDrive
  else if !s.scoreReady b.record then some .noScore
  else none

/-- R54: a booking the checks refuse is disposed and leaves the list. -/
def State.refuse (n : Nat) (kind : OutcomeKind) (s : State) : State :=
  (s.leaveWaiting n).dispose n kind none .zero false

/-! ## Starts, suspensions and ends (R55–R60, R62) -/

/-- R55: a booking that passed the checks starts in the empty active place. -/
def State.start (n : Nat) (s : State) : State :=
  match s.booking? n with
  | none => s.leaveWaiting n
  | some b =>
    let s := s.leaveWaiting n
    let s := { s with engine := { s.engine with active := some (s.newContext n b) } }
    (s.setBooking n { b with state := .sounding, waiting := none }).takeUp

/-- R56: the active context is suspended on top of the stack. -/
def State.suspendActive (s : State) : State :=
  match s.engine.active with
  | none => s
  | some c =>
    let removed := s.earliestEntry c.booking
    let s := (s.removeOwner c.booking).letGo
    let c := { c with resume := s.resumePoint c removed }
    { s with engine := { s.engine with active := none, stack := c :: s.engine.stack } }.setBookingState
      c.booking .suspended

/-- R60: the active context ends. -/
def State.endActive (kind : OutcomeKind) (cause : Option OutcomeCause) (withdrawn : Bool) (s : State) :
    State :=
  match s.engine.active with
  | none => s
  | some c =>
    let s := (s.removeOwner c.booking).letGo
    { s with engine := { s.engine with active := none } }.dispose c.booking kind cause c.counts withdrawn

/-- R60: a stacked context ends; it has no entry in the strike queue. -/
def State.endStacked (c : Context) (kind : OutcomeKind) (cause : Option OutcomeCause) (withdrawn : Bool)
    (s : State) : State :=
  { s with engine := { s.engine with stack := s.engine.stack.filter (·.booking != c.booking) } }.dispose
    c.booking kind cause c.counts withdrawn

/-- R58: a full stack loses its bottom context before a suspension. -/
def State.displace (s : State) : State :=
  if s.engine.stack.length < Config.stackMax then s
  else match s.engine.stack.getLast? with
    | none => s
    | some c => s.endStacked c .cut (some .displaced) false

/-- R62: the stack top becomes active again. -/
def State.resumeTop (s : State) : State :=
  match s.engine.stack with
  | [] => s
  | c :: rest =>
    ({ s with engine := { s.engine with active := some (c.fromResume s.now), stack := rest } }.setBookingState
      c.booking .sounding).takeUp

/-! ## Whether the active context has come to its end (R89, R96, R143, R147) -/

/-- R67, R143, R147: the outcome with which a live feed with no entry left ends: HALTED under a halt, PLAYED where
LIVE CLOSE alone closed it. -/
def LiveFeed.ending (l : LiveFeed) : Option OutcomeKind :=
  match l.mode with
  | .opened => none
  | .stopped => some .halted
  | .closing =>
    if l.queue.isEmpty then some (if l.endsHalted then .halted else .played) else none

/-- R89: the outcome with which planning done ends a SCORE or TOLL. -/
def PlanningDone.ending (d : PlanningDone) (halt : Option PendingHalt) : OutcomeKind :=
  match d with
  | .damaged => .scoreDamaged
  | .complete => if halt.isSome then .halted else .played

/-- The outcome with which the active context ends now, if it does. -/
def State.endDue (s : State) : Option OutcomeKind :=
  match s.engine.active with
  | none => none
  | some c =>
    if c.mode == .hushed || s.hasEntries c.booking then none
    else match c.melodyKind with
      | none => s.live.bind LiveFeed.ending
      | some _ => s.player.done.map (·.ending c.pendingHalt)

/-! ## The start decision (R53) and the resume choice (R61) -/

/-- What R53 gives for a newcomer against an active context. -/
inductive Decision where
  | waits
  | suspends
  | replaces
deriving DecidableEq, Repr

/-- R53's table, its rows with an active context. -/
def Context.judge (c : Context) (r : BookingRecord) : Decision :=
  if r.rank ≤ c.rank then .waits
  else match r.cls with
    | .wait => .waits
    | .replace => .replaces
    | .interrupt => if c.melodyKind.isNone then .replaces else .suspends

/-- The active place is cleared for a newcomer: displacement and suspension, or replacement (R56, R58,
R59). -/
def State.clearFor (d : Decision) (s : State) : State :=
  match d with
  | .waits => s
  | .suspends => s.displace.suspendActive
  | .replaces => s.endActive .cut (some .replaced) false

/-- R61: whether the head of the waiting list is taken to start before the stack top. -/
def State.headFirst (s : State) (r : BookingRecord) : Bool :=
  match s.engine.stack with
  | [] => true
  | top :: _ => r.cls != .wait && top.rank < r.rank

/-- What the engine does next: the resume choice, or to judge the booking at an index of the waiting
list. -/
inductive Agenda where
  | choose
  | judge (k : Nat)
deriving DecidableEq, Repr

/-- After a start or a resumption: a context that has already come to its end ends, and the resume choice
follows; otherwise the engine goes on. -/
def State.settleStart (s : State) (next : Agenda) : State × Option Agenda :=
  match s.endDue with
  | some kind => (s.endActive kind none false, some .choose)
  | none => (s, some next)

/-- R61: one pass of the resume choice. -/
def State.choose (s : State) : State × Option Agenda :=
  match s.engine.waiting with
  | [] => if s.engine.stack.isEmpty then (s, none) else s.resumeTop.settleStart (.judge 0)
  | n :: _ =>
    match s.booking? n with
    | none => (s.leaveWaiting n, some .choose)
    | some b =>
      if s.headFirst b.record then
        match s.startRefusal b with
        | some kind => (s.refuse n kind, some .choose)
        | none => (s.start n).settleStart (.judge 0)
      else s.resumeTop.settleStart (.judge 0)

/-- R52, R53: judges the booking at index `k` of the waiting list. -/
def State.judgeAt (s : State) (k : Nat) : State × Option Agenda :=
  match s.engine.waiting[k]? with
  | none => (s, none)
  | some n =>
    match s.booking? n with
    | none => (s.leaveWaiting n, some (.judge k))
    | some b =>
      match s.engine.active with
      | none =>
        if s.engine.stack.isEmpty then
          match s.startRefusal b with
          | some kind => (s.refuse n kind, some (.judge k))
          | none => (s.start n).settleStart (.judge k)
        else (s, some .choose)
      | some c =>
        match c.judge b.record with
        | .waits => (s, some (.judge (k + 1)))
        | d =>
          match s.startRefusal b with
          | some kind => (s.refuse n kind, some (.judge k))
          | none => ((s.clearFor d).start n).settleStart (.judge k)

/-- One item of the agenda. -/
def State.agendaStep (s : State) : Agenda → State × Option Agenda
  | .choose => if s.engine.active.isSome then (s, some (.judge 0)) else s.choose
  | .judge k => s.judgeAt k

/-- Works the agenda off, at most `n` items. -/
def engineLoop : Nat → Agenda → State → State
  | 0, _, s => s
  | n + 1, a, s =>
    match s.agendaStep a with
    | (s, none) => s
    | (s, some a) => engineLoop n a s

/-- No agenda is longer: each of at most 96 waiting bookings and 99 contexts is started, resumed or
refused a bounded number of times, with one look through the list after each (log 29). -/
def engineFuel : Nat := 20000

/-- R61, then R52: the resume choice; while HUSH is asserted it waits for the release. -/
def State.resumeChoice (s : State) : State :=
  if s.drive.hush then s else engineLoop engineFuel .choose s

/-- R52: a reconsideration; none is made while HUSH is asserted or the load runs (R74). -/
def State.reconsider (s : State) : State :=
  if s.drive.hush || s.store.loading then s else engineLoop engineFuel (.judge 0) s

/-- A group of due bookings reaches the engine (R52). -/
def State.handGroup (ns : List Nat) (s : State) : State :=
  if ns.isEmpty then s else (s.joinWaiting ns).reconsider

/-- After an event that may let the Score Player go on: it reaches what it may, and a context that has
come to its end ends (R83, R89, R143). -/
def State.settle (s : State) : State :=
  let s := s.reachAll
  match s.endDue with
  | none => s
  | some kind => (s.endActive kind none false).resumeChoice

/-! ## Withdrawals (R42, R63) -/

/-- R42: a withdrawal takes effect. -/
def State.withdrawNow (n : Nat) (s : State) : State :=
  match s.booking? n with
  | none => s
  | some b =>
    match b.state with
    | .armed | .dormant | .spent => s.removeBooking n
    | .due => (s.leaveWaiting n).removeBooking n
    | .sounding => (s.endActive .cut (some .withdrawn) true).resumeChoice
    | .suspended =>
      match s.engine.stack.find? (·.booking == n) with
      | none => s
      | some c => s.endStacked c .cut (some .withdrawn) true

/-! ## HALT (R64–R67, R90, R96, R147) -/

/-- R67: the condition a context holds after a new one: the one that acts sooner. -/
def soonerHalt (old : Option PendingHalt) (new : PendingHalt) : PendingHalt :=
  match old with
  | some .atPhrase => .atPhrase
  | some .atEnd => new
  | none => new

/-- R67: a context with a halt stored. R90, R96: AT_END makes the repetition of that moment the last. -/
def Context.storeHalt (h : PendingHalt) (c : Context) : Context :=
  { c with
    pendingHalt := some (soonerHalt c.pendingHalt h)
    lastRepeat := if c.pendingHalt.isNone && h == .atEnd then c.repeatNo else c.lastRepeat }

/-- R90: AT_PHRASE reaches the Score Player while it plans. -/
def State.stopAtPhrase (c : Context) (s : State) : State :=
  if s.player.done.isSome then s
  else match c.melodyKind, c.melody with
    | some .score, some slot => { s with player := { s.player with stopPoint := s.stopFromHere c slot } }
    | some .toll, _ => s.planningDone .complete
    | _, _ => s

/-- Whether a read into a buffer is outstanding for a segment (R85). -/
def Buffer.awaits (b : Buffer) (segment : Nat) : Bool := b == .reading segment || b == .retrying segment

/-- R86, R90, R96: AT_END reaches the Score Player. For a SCORE an outstanding read of segment 0 for a further
repetition is abandoned: it completes and its data is discarded. The next buffer, READING or RETRYING it, is FREE at
once: R85 has a buffer leave those states by a completion alone, and R86 and R90 give the state of this one neither
while the read goes on nor after it (DESIGN CHOICE, log 63). A buffer that is HELD or FAILED stays so until it is let
go (R85). A TOLL whose planning position is already past its last toll is done at once. -/
def State.cancelRepeats (c : Context) (s : State) : State :=
  match c.melodyKind, c.melody with
  | some .score, some slot =>
    if c.pos.segment + 1 < (s.melody slot).segmentCount || (s.melody slot).segmentCount ≤ 1 then s
    else if s.player.next.awaits 0 then
      { s with
        player := { s.player with next := .free }
        store := s.store.releaseReads (· == 0) }
    else s
  | some .toll, _ =>
    if s.player.done.isNone && decide (c.lastToll < c.pos.number) then s.planningDone .complete else s
  | _, _ => s

/-- R67, R147: a stored halt reaches the Live Feed. AT_END has the outcome HALTED whether it enters CLOSING or finds
it entered by LIVE CLOSE, where R143 alone would give PLAYED (DEDUCED, log 22). -/
def LiveFeed.halt (l : LiveFeed) (h : PendingHalt) : LiveFeed :=
  match h with
  | .atPhrase => { l with mode := .stopped, queue := [], idle := .cleared }
  | .atEnd =>
    match l.mode with
    | .opened => { l with mode := .closing, endsHalted := true, idle := .cleared }
    | .closing => { l with endsHalted := true }
    | .stopped => l

/-- A stored halt reaches the block that plans the active context. -/
def State.applyHalt (c : Context) (h : PendingHalt) (s : State) : State :=
  match c.melodyKind with
  | none => { s with live := s.live.map (·.halt h) }
  | some _ =>
    if c.mode == .hushed then s
    else match h with
      | .atPhrase => s.stopAtPhrase c
      | .atEnd => s.cancelRepeats c

/-- R66, R67: a halt is stored with the active context and, when it is the new one, acted on. -/
def State.haltActiveLater (h : PendingHalt) (s : State) : State :=
  match s.engine.active with
  | none => s
  | some c =>
    if c.pendingHalt = some (soonerHalt c.pendingHalt h) then s
    else (s.modActive fun _ => c.storeHalt h).applyHalt (c.storeHalt h) (soonerHalt c.pendingHalt h)

/-- R66, R67: a halt is stored with the stacked contexts the test picks. -/
def State.haltStackedLater (named : Context → Bool) (h : PendingHalt) (s : State) : State :=
  let stack := s.engine.stack.map fun c => if named c then c.storeHalt h else c
  { s with engine := { s.engine with stack := stack } }

/-- R65: the stacked contexts the test picks end, from top to bottom. -/
def State.haltStackedNow (named : Context → Bool) (s : State) : State :=
  (s.engine.stack.filter named).foldl (fun s c => s.endStacked c .halted none false) s

/-- Whether a HALT target names a context; `isActive` says that it is the active one (section 3.7). -/
def HaltTarget.names (t : HaltTarget) (isActive : Bool) (c : Context) : Bool :=
  match t with
  | .active => isActive
  | .all => true
  | .booking n => c.booking == n

/-- The contexts a HALT targets, the active one first. -/
def State.haltTargets (s : State) (t : HaltTarget) : List Context :=
  s.engine.active.toList.filter (t.names true) ++ s.engine.stack.filter (t.names false)

/-- R65: HALT NOW. -/
def State.haltNow (t : HaltTarget) (s : State) : State :=
  if s.engine.active.any (t.names true) then
    (((s.endActive .halted none false)).haltStackedNow (t.names false)).resumeChoice
  else s.haltStackedNow (t.names false)

/-- R66, R67: a HALT that acts later. -/
def State.haltLater (t : HaltTarget) (h : PendingHalt) (s : State) : State :=
  let s := s.haltStackedLater (t.names false) h
  if s.engine.active.any (t.names true) then (s.haltActiveLater h).settle else s

/-! ## HUSH (R68, R69) -/

/-- R145: the idle time stops and its value is kept. -/
def IdleTime.hold (i : IdleTime) (now : Nat) : IdleTime :=
  match i.since with
  | none => i
  | some t => ⟨i.kept + (now - t), none⟩

/-- R68: the active context falls silent. -/
def State.hushActive (s : State) : State :=
  match s.engine.active with
  | none => s
  | some c =>
    if c.mode == .hushed then s
    else
      let removed := s.earliestEntry c.booking
      let s := if c.melodyKind.isNone then s.removeOwnerLost c.booking else s.removeOwner c.booking
      let s := s.letGo
      let point := s.resumePoint c removed
      { s.modActive fun c => { c with mode := .hushed, resume := point, feedDeadline := none } with
        live := s.live.map fun l =>
          if l.booking == c.booking then { l with idle := l.idle.hold s.now } else l }

/-- R69, R146: the score tick a restarted live context's origin is paired with. -/
def State.liveRestartTick (s : State) (c : Context) : Nat :=
  match s.live with
  | none => c.pos.tick
  | some l =>
    match l.queue with
    | [] => c.pos.tick
    | e :: _ => c.pos.tick + e.delta

/-- R69: a hushed context as it restarts. A TOLL's repeat number is that of the toll it goes back to (R95). -/
def State.restarted (s : State) (c : Context) : Context :=
  let c := c.fromResume s.now
  match c.melodyKind with
  | some .score => c
  | some .toll => { c with repeatNo := c.tollRepetition c.pos.number }
  | none => { c with originTick := s.liveRestartTick c }

/-- R69: the hushed active context restarts. -/
def State.restartActive (s : State) : State :=
  match s.engine.active with
  | none => s
  | some c => (s.modActive fun _ => s.restarted c).takeUp

/-- R69: the engine at the release of HUSH. -/
def State.releaseEngine (s : State) : State :=
  match s.engine.active with
  | none => s.resumeChoice
  | some c =>
    let s := if c.mode == .hushed then s.restartActive else s
    match s.endDue with
    | some kind => (s.endActive kind none false).resumeChoice
    | none => s.reconsider

/-! ## Drive loss (R70) -/

/-- R70: every context ends DRIVE_LOST, the active one first, and the strike queue is emptied. -/
def State.loseDrive (s : State) : State :=
  if s.engine.active.isNone && s.engine.stack.isEmpty then s
  else
    let s := s.endActive .driveLost none false
    (s.engine.stack.foldl (fun s c => s.endStacked c .driveLost none false) s).removeAllStrikes

end Sys2Proof.Machine
end

