-- ==== Sys2Proof/Machine/Reports.lean ====
section
/-! DEFINITION. The calendar reports at the Booking Book: second boundaries, set reports, forward and
backward steps, unset reports, and immediate due (R23–R29, R33–R37). Inside one report the bookings are
dealt with in number order: DESIGN CHOICE (log 27). -/

namespace Sys2Proof.Machine

/-- A pass over the bookings: the state so far and the numbers that fell due. -/
abbrev Pass := State × List Nat

/-- Deals with booking `n` by `f`, which says whether it fell due. -/
def Pass.one (f : Nat → Booking → State → State × Bool) (p : Pass) (n : Nat) : Pass :=
  match p.1.booking? n with
  | none => p
  | some b =>
    match f n b p.1 with
    | (s, true) => (s, p.2 ++ [n])
    | (s, false) => (s, p.2)

/-- Deals with every booking in number order. -/
def State.pass (f : Nat → Booking → State → State × Bool) (s : State) : Pass :=
  slotNumbers.foldl (Pass.one f) (s, [])

/-- The bookings that fell due reach the engine as one group; the list is re-placed by the occurrences as
they now stand (R25, R29). -/
def State.report (f : Nat → Booking → State → State × Bool) (s : State) : State :=
  if s.store.loading then s
  else
    let p := s.pass f
    p.1.sortWaiting.handGroup p.2

/-! ## The second boundary (R25, R27, R28, R29) -/

/-- R25: an ARMED booking at its next occurrence falls due. -/
def State.fallDueAt (n : Nat) (b : Booking) (s : State) : State × Bool :=
  if b.next = some s.time.second then (s.setBooking n (b.fallDue s.time), true) else (s, false)

/-- R29, step 1: a booking disposed by patience is dealt with as an ARMED one. -/
def State.fallDueIfArmed (n : Nat) (s : State) : State × Bool :=
  match s.booking? n with
  | none => (s, false)
  | some b => if b.state = .armed then s.fallDueAt n b else (s, false)

/-- One booking at a second boundary. -/
def State.boundaryOne (n : Nat) (b : Booking) (s : State) : State × Bool :=
  match b.state with
  | .armed => s.fallDueAt n b
  | .due =>
    let waited := b.waiting.getD 0 + 1
    if b.record.patience < waited then
      ((s.leaveWaiting n).disposeWaiting n .patience).fallDueIfArmed n
    else if b.next = some s.time.second then
      ((s.setBooking n (b.takeNewOccurrence s.time)).raise .outcome, false)
    else (s.setBooking n { b with waiting := some waited }, false)
  | .sounding | .suspended =>
    if b.next = some s.time.second then
      ((s.setBooking n ((b.missSounding s.time.second).renext s.time)).raise .outcome, false)
    else (s, false)
  | .dormant | .spent => (s, false)

/-- The Booking Book takes a second boundary; during the load it takes none (R47). -/
def State.secondBoundary (s : State) : State := s.report State.boundaryOne

/-! ## The set report (R33) -/

/-- One booking at a set report: every dated booking that is not DORMANT is recomputed. -/
def State.setReportOne (n : Nat) (b : Booking) (s : State) : State × Bool :=
  if b.record.kind.immediate || b.state == .dormant then (s, false)
  else (s.setBooking n (b.recompute s.time)).dueNow n

/-- R33 -/
def State.calendarSet (s : State) : State := s.report State.setReportOne

/-! ## Forward and backward steps (R34–R36) -/

/-- The occurrences of a step a booking is concerned with: those later than its current and its last
disposed occurrence, and none when it is not enabled (R24, R35; log 26). -/
def Booking.steppedOver (b : Booking) (t0 t1 : Nat) : List Nat :=
  if b.record.enabled then
    b.record.occurrencesIn (max t0 (max (b.current.getD 0) (b.lastDisposed.getD 0))) t1
  else []

/-- R34: every occurrence but the latest is disposed silently; the latest by its patience. -/
def State.stepArmed (n : Nat) (occurrences : List Nat) (b : Booking) (s : State) : State × Bool :=
  match occurrences.getLast? with
  | none => (s.setBooking n (b.recompute s.time), false)
  | some l =>
    let b := occurrences.dropLast.foldl Booking.disposeSilently b
    let late := s.time.second - l
    if late ≤ b.record.patience then
      (s.setBooking n ({ b with current := some l, waiting := some late, state := .due }.renext s.time), true)
    else
      ((s.setBooking n ((b.write (missedRecord .timeStep (some l))).goOn s.time)).raise .outcome, false)

/-- R35: a booking that waits. -/
def State.stepWaiting (n : Nat) (t0 : Nat) (b : Booking) (s : State) : State × Bool :=
  let occurrences := b.steppedOver t0 s.time.second
  let waited := b.waiting.getD 0 + (s.time.second - t0)
  if b.record.patience < waited ∨ occurrences ≠ [] then
    let s := (s.leaveWaiting n).disposeWaiting n .timeStep
    match s.booking? n with
    | none => (s, false)
    | some b => s.stepArmed n occurrences b
  else (s.setBooking n ({ b with waiting := some waited }.renext s.time), false)

/-- R35: a booking that sounds or is suspended. -/
def State.stepSounding (n : Nat) (t0 : Nat) (b : Booking) (s : State) : State × Bool :=
  let occurrences := b.steppedOver t0 s.time.second
  match occurrences.getLast? with
  | none => (s.setBooking n (b.renext s.time), false)
  | some l =>
    let b := occurrences.dropLast.foldl Booking.disposeSilently b
    ((s.setBooking n ((b.missSounding l).renext s.time)).raise .outcome, false)

/-- One booking at a forward step from `t0` to the calendar second in force. -/
def State.forwardOne (t0 n : Nat) (b : Booking) (s : State) : State × Bool :=
  match b.state with
  | .armed => s.stepArmed n (b.steppedOver t0 s.time.second) b
  | .due => s.stepWaiting n t0 b
  | .sounding | .suspended => s.stepSounding n t0 b
  | .dormant | .spent => (s, false)

/-- One booking at a backward step (R36). -/
def State.backwardOne (n : Nat) (b : Booking) (s : State) : State × Bool :=
  match b.state with
  | .armed | .due | .sounding | .suspended => (s.setBooking n (b.recompute s.time)).dueNow n
  | .dormant | .spent => (s, false)

/-- R34–R36: a step report from `t0` to the calendar second in force. -/
def State.stepReport (t0 : Nat) (s : State) : State :=
  s.report (if t0 < s.time.second then State.forwardOne t0 else State.backwardOne)

/-! ## The unset report (R37) -/

/-- One booking at an unset report. -/
def State.unsetOne (n : Nat) (b : Booking) (s : State) : State × Bool :=
  match b.state with
  | .due => ((s.leaveWaiting n).disposeWaiting n .timeStep, false)
  | .armed | .dormant | .sounding | .suspended | .spent => (s.setBooking n { b with next := none }, false)

/-- R37 -/
def State.unsetReport (s : State) : State := s.report State.unsetOne

/-! ## Requests that change the table (R23, R39, R40) -/

/-- R19, R39: a booking created by BOOK. -/
def Booking.fresh (r : BookingRecord) (t : TowerTime) : Booking :=
  { record := r, state := .armed, next := none, current := none, creation := none, waiting := none
    lastDisposed := none, lastOutcome := none, unread := false, missed := 0 : Booking }.recompute t

/-- R19, R46: a NOW or LIVE booking. -/
def Booking.freshImmediate (r : BookingRecord) (t : TowerTime) : Booking where
  record := r
  state := .due
  next := none
  current := none
  creation := some t.second
  waiting := some 0
  lastDisposed := none
  lastOutcome := none
  unread := false
  missed := 0

/-- Whether booking `n` is DUE. -/
def State.isDue (s : State) (n : Nat) : Bool := (s.booking? n).any (·.state == .due)

/-- R23: booking `n` after a recomputation; one that falls due is a group of one, and one that waits is
re-placed in the waiting list (R51). -/
def State.dueAtOnce (n : Nat) (s : State) : State :=
  match s.dueNow n with
  | (s, true) => s.handGroup [n]
  | (s, false) => if s.isDue n then s.sortWaiting else s

/-- R39: a BOOK takes effect. -/
def State.createBooking (n : Nat) (r : BookingRecord) (s : State) : State :=
  (s.setBooking n (.fresh r s.time)).dueAtOnce n

/-- R40: an AMEND takes effect; a waiting booking is re-placed and reconsidered. -/
def State.amendBooking (n : Nat) (r : BookingRecord) (s : State) : State :=
  match s.booking? n with
  | none => s
  | some b =>
    let s := (s.setBooking n ({ b with record := r }.recompute s.time)).dueAtOnce n
    if b.state = .due then s.reconsider else s

/-- R46: a NOW or LIVE booking is created and handed over as a group of one. -/
def State.createImmediate (n : Nat) (r : BookingRecord) (s : State) : State :=
  (s.setBooking n (.freshImmediate r s.time)).handGroup [n]

end Sys2Proof.Machine
end

