-- ==== Sys2Proof/Machine/Time.lean ====
section
/-! DEFINITION. The Tower Time Unit: the running of the two clocks, the normal advance, the reference
pulse, lock and holdover, and setting the time (01_tower_time.md). -/

namespace Sys2Proof.Machine

/-! ## Running (R1, R2) -/

/-- R2: 2,000 µs of slew per second of local time is one in 500 of local time, and local time contains the
slew (section 1.2): 499 µs of the time as the correction gives it when the slew adds one, 501 when it takes
one away. Whole µs of slew are applied (DESIGN CHOICE, log 4). -/
def slewPeriod (slew : Int) : Nat := if 0 ≤ slew then 499 else 501

/-- R2: the slew applied while `acc` µs are counted. -/
def slewStep (slew : Int) (acc : Nat) : Int :=
  let n : Int := (acc / slewPeriod slew : Nat)
  if 0 ≤ slew then min slew n else max slew (-n)

/-- R2: `raw` µs of raw time pass for the calendar. -/
def TowerTime.runCalendar (t : TowerTime) (raw : Nat) : TowerTime :=
  let fine : Nat := t.subFrac + raw * (10000000 + t.correction).toNat
  let whole := fine / 10000000
  let acc := if t.slew = 0 then 0 else t.slewAcc + whole
  let applied := slewStep t.slew acc
  { t with
    sub := ((t.sub + whole : Nat) + applied).toNat
    subFrac := fine % 10000000
    slew := t.slew - applied
    slewAcc := acc % slewPeriod t.slew }

/-- R1, R2: one period of the crystal passes. -/
def TowerTime.period (t : TowerTime) : TowerTime :=
  let ticks := t.clockFrac + Config.periodTicks
  { t.runCalendar (ticks / 512) with clock := t.clock + ticks / 512, clockFrac := ticks % 512 }

/-! ## The normal advance (R3) -/

/-- Sets the time state; a change raises TIME (R4). -/
def State.setTimeState (v : TimeState) (s : State) : State :=
  { s with time := { s.time with state := v } }.raiseIf (s.time.state != v) .time

/-- R3: the calendar second moves on by one, or wraps past 2099 to UNSET, and the Booking Book is told. -/
def State.advanceSecond (s : State) : State :=
  if s.time.second + 1 < Config.calendarSeconds then
    let s := { s with time := { s.time with second := s.time.second + 1 } }
    if s.time.state = .unset then s else s.secondBoundary
  else
    let told := s.time.state != .unset
    let s := { s with time := { s.time with second := 0, slew := 0, slewAcc := 0 } }.setTimeState .unset
    if told then s.unsetReport else s

/-- R3: the normal advance, when the sub-second count has reached 1,000,000. -/
def State.normalAdvance (s : State) : State :=
  if 1000000 ≤ s.time.sub then
    { s with time := { s.time with sub := s.time.sub - 1000000 } }.advanceSecond
  else s

/-! ## The reference pulse (R5–R10) -/

/-- R5: raw interval adjusted by a correction. -/
def localInterval (raw : Nat) (c : Int) : Int := raw + Int.tdiv (raw * c) 10000000

/-- R6: the correction a pulse history gives. -/
def correctionOf (history : List Int) : Int :=
  max (-2000) (min 2000 (Int.tdiv (10 * history.sum) history.length))

/-- R5: whether a pulse at `now` is valid. -/
def TowerTime.pulseValid (t : TowerTime) : Bool :=
  match t.anchor with
  | none => false
  | some a =>
    let i := localInterval (t.clock - a) t.correction
    998000 ≤ i && i ≤ 1002000

/-- R5: the pulse history with one error more, at most 16. -/
def pushHistory (h : List Int) (e : Int) : List Int :=
  (h ++ [e]).drop (h.length + 1 - Config.historyMax)

/-- R5, R6: what a valid pulse measures. -/
def TowerTime.measure (t : TowerTime) : TowerTime :=
  let h := pushHistory t.history (1000000 - (t.clock - t.anchor.getD 0 : Nat))
  { t with history := h, correction := correctionOf h, count := min 3 (t.count + 1), anchor := some t.clock }

/-- R7: a phase step at a pulse. A count that stands past 1,000,000 (log 42) starts the next second from 0,
as one of 500,000 or more does. -/
def State.phaseStep (s : State) : State :=
  let behind := 500000 ≤ s.time.sub
  let s := { s with time := { s.time with sub := 0, subFrac := 0 } }
  if behind then s.advanceSecond else s

/-- R7: the size of a phase error, and the slew that takes it up. A pulse taken before a normal advance of
the same instant can find the count up to 31 µs past 1,000,000: its error is then 0 (DESIGN CHOICE, log
42). -/
def phaseError (sub : Nat) : Nat × Int :=
  if sub < 500000 then (sub, -(sub : Int)) else (1000000 - sub, ((1000000 - sub : Nat) : Int))

/-- R9: the phase error is slewed or stepped. -/
def State.dealPhase (s : State) : State :=
  let e := phaseError s.time.sub
  if e.1 ≤ Config.slewLimit then { s with time := { s.time with slew := e.2, slewAcc := 0 } }
  else
    let s := s.phaseStep
    { s with time := { s.time with slew := 0, slewAcc := 0 } }

/-- R8, R9: the phase at a valid pulse of a phase-locked unit. -/
def State.phaseAtPulse (s : State) : State :=
  match s.time.state with
  | .unset => s.phaseStep
  | .locked => s.dealPhase
  | .free | .holdover => s

/-- R8: the time state after a valid pulse that finds the count at 3. -/
def State.lockState (s : State) : State :=
  match s.time.state with
  | .free | .holdover => if s.time.count = 3 then s.setTimeState .locked else s
  | .unset | .locked => s

/-- R5–R9: a reference pulse. -/
def State.pulse (s : State) : State :=
  if s.time.pulseValid then
    let t := s.time.measure
    if t.locked || t.count = 3 then
      ({ s with time := { t with locked := true, timeout := some (t.clock + Config.pulseTimeout) } }.lockState).phaseAtPulse
    else { s with time := t }
  else { s with time := { s.time with count := 0, anchor := some s.time.clock } }

/-- R10: the pulse timeout expires. -/
def State.expirePulse (s : State) : State :=
  let s := { s with time := { s.time with
    locked := false, count := 0, slew := 0, slewAcc := 0, timeout := none } }
  if s.time.state = .locked then s.setTimeState .holdover else s

/-! ## Setting the time (R11–R13) -/

/-- R11: the calendar takes the second `t1`. -/
def State.setCalendar (t1 : Nat) (s : State) : State :=
  let t0 := s.time.second
  let from' := s.time.state
  let s := { s with time := { s.time with second := t1 } }
  let s := if s.time.locked then s.setTimeState .locked
    else { s with time := { s.time with sub := 0, subFrac := 0 } }.setTimeState .free
  if from' = .unset then s.calendarSet
  else if t0 = t1 then s
  else s.stepReport t0

end Sys2Proof.Machine
end

