-- ==== Sys2Proof/WellFormed.lean ====
section
/-! DEFINITION. Which commands are well formed: what a frame that passed the link's framing can carry. -/

namespace Sys2Proof

/-- A body that fits a frame (R179: a longer length is out of range and never collected). -/
def bodyFits (body : List Byte) : Bool := body.length ≤ Config.bodyMax

/-- The request catalogue's codes are 01h–1Eh (section 12.2). -/
def knownCode (code : Byte) : Bool := 1 ≤ code.toNat && code.toNat ≤ 30

/-- The body a request row carries, if the command is one. -/
def Instr.body? : Instr → Option (List Byte)
  | .setTime _ b | .readTime _ b | .book _ b | .amend _ b | .withdraw _ b | .lookUp _ b
  | .setCursor _ b | .browse _ b | .nextDue _ b | .readOutcomes _ b | .playNow _ b | .halt _ b
  | .performanceStatus _ b | .liveOpen _ b | .liveNotes _ b | .liveClose _ b | .defineMelody _ b
  | .storeSegment _ b | .readSegment _ b | .eraseMelody _ b | .melodyInfo _ b | .setBell _ b
  | .bellStatus _ b | .restoreBell _ b | .testStrike _ b | .setDrive _ b | .setProtection _ b
  | .readNotices _ b | .setNoticeMask _ b | .reset _ b | .broadcastSetTime b
  | .unknownRequest _ _ b => some b
  | .powerOn .. | .towerReset .. | .loadComplete | .referencePulse | .pulseTimeout | .normalAdvance
  | .resetTakesEffect .. | .frameDiscard .. | .foreignFrame .. | .frameGapTimeout ..
  | .answerTransmitStart _ | .answerSent _ | .keyChange _ | .hushAssert | .hushRelease
  | .driveReadyFall | .driveReadyRise | .bankMeasurement _ | .sensorOpens _ | .sensorCloses _
  | .fireTimeReached | .pulseEnd _ | .returnLimit _ | .recoveryTime _ | .entryDrop
  | .planningHorizonReached | .feedDeadline | .idleLimit | .storeCompletion _ | .suspendEnd
  | .segmentReadCompletion _ => none

/-- The body of a request fits a frame, and a request of unknown code has a code outside the
catalogue (R179, R184). -/
def Instr.wellFormed (i : Instr) : Bool :=
  (match i.body? with
   | some b => bodyFits b
   | none => true) &&
  (match i with
   | .unknownRequest _ code _ => !knownCode code
   | _ => true)

end Sys2Proof
end

