-- ==== Sys2Proof/Machine/Links.lean ====
section
/-! DEFINITION. The Link Interface: taking a request, the checks that come before its owner, sending
answers, and the framing of bytes (10_command_links.md, section 12.4). -/

namespace Sys2Proof.Machine

/-! ## Body lengths (section 12.4) and the checks of R184 -/

/-- Section 12.4: whether a request's layout allows a body length. -/
def lengthAllowed (code len : Nat) : Bool :=
  match code with
  | 1 => len == 40
  | 2 => len == 41
  | 3 => len == 1
  | 4 => len == 1
  | 5 => len == 1
  | 6 => len == 0
  | 7 => len == 0
  | 8 => len == 0
  | 9 => len == 8
  | 10 => len == 2
  | 11 => len == 0
  | 12 => len == 6
  | 13 => 1 ≤ len && len ≤ 1037 && (len - 1) % 4 == 0
  | 14 => len == 0
  | 15 => len == 26
  | 16 => 12 ≤ len && len ≤ 1032 && (len - 8) % 4 == 0
  | 17 => len == 2
  | 18 => len == 1
  | 19 => len == 1
  | 20 => len == 15
  | 21 => len == 1
  | 22 => len == 1
  | 23 => len == 2
  | 24 => len == 5
  | 25 => len == 4
  | 26 => len == 7
  | 27 => len == 0
  | 28 => len == 0
  | 29 => len == 7
  | 30 => len == 0
  | _ => false

/-- SET PROTECTION and RESET, which the main port is refused (R184). -/
def serviceOnly (code : Nat) : Bool := code == 25 || code == 30

/-- R184: the Link Interface's own checks, in order; none when the request goes to its owner. -/
def State.gate (s : State) (p : Port) (code : Byte) (len : Nat) : Option AnswerCode :=
  if s.store.loading then some .starting
  else if !knownCode code then some .unknownRequest
  else if !lengthAllowed code.toNat len then some .badField
  else if serviceOnly code.toNat && p == .main then some .privilege
  else none

/-! ## Taking a request (R178, R180, R182, R186) -/

/-- R180: a counted discard or stray run. -/
def State.countError (p : Port) (s : State) : State :=
  (s.modPort p fun q => { q with errors := sat16 q.errors 1 }).raise .link

/-- Whether a request to a port does not reach it at all: the main port is driving the pair and receives nothing,
or it has no address of its own (R178). -/
def State.unreached (s : State) (p : Port) : Bool :=
  match p with
  | .main => s.links.main.sending.isSome || s.links.address == 0
  | .service => false

/-- Whether a request that ends now on a port is not taken: it does not reach the port, or a RESET is pending
(R186). -/
def State.deaf (s : State) (p : Port) : Bool := s.links.resetPending || s.unreached p

/-- Keeps bytes in the receive buffer. -/
def State.keepBytes (p : Port) (bs : List Byte) (s : State) : State :=
  s.modPort p fun q => { q with rx := bs }

/-- R179, R180: a gap of more than 3 character times: an open frame, a stray run or an out-of-range frame
ends and is counted; one out of range is counted here and not as its length arrives (DESIGN CHOICE, log
47). An answer frame cut short is an open frame too: DEDUCED (log 41). While a RESET is pending nothing is
counted: no frame (R186), and no stray run either (DESIGN CHOICE, log 54). -/
def State.gap (p : Port) (s : State) : State :=
  if (s.port p).rx.isEmpty then s
  else if s.links.resetPending then s.keepBytes p []
  else (s.keepBytes p []).countError p

/-- R182: a request that finds the flag set is answered PORT_BUSY from the busy slot. -/
def State.answerBusy (p : Port) (code : Byte) (s : State) : State :=
  (s.modPort p fun q => { q with busySlot := true }).respond p code .portBusy []

/-- R180, R182, R184: a valid addressed request ends on port `p`. `serve` is its owner's part. Bytes of a
frame or run still open when the request's own frame began were ended by a gap (R179; DEDUCED, log 50).
While a RESET is pending it is dropped uncounted (R186). While the busy slot is occupied it is discarded and
counted, whether the flag is set or not. -/
def State.takeRequest (p : Port) (code : Byte) (body : List Byte) (serve : State → State) (s : State) : State :=
  if s.unreached p then s
  else
    let s := s.gap p
    if s.links.resetPending then s
    else if (s.port p).busySlot then s.countError p
    else if (s.port p).outstanding then s.answerBusy p code
    else
      let s := s.modPort p fun q => { q with outstanding := true }
      match s.gate p code body.length with
      | some a => s.respond p code a []
      | none => serve s

/-! ## Sending answers (R182, R183) -/

/-- The address an answer of a port carries (R178). -/
def Links.answerAddress (l : Links) : Port → Nat
  | .main => l.address
  | .service => Config.serviceAddress

/-- R183: whether a ready answer may start: the transmitter is free and, on the main port, no frame is
in reception. -/
def State.mayTransmit (s : State) (p : Port) : Bool :=
  (s.port p).sending.isNone && (p == .service || (s.port p).rx.isEmpty)

/-- R183: the oldest ready answer starts to be sent. -/
def State.startAnswer (p : Port) (s : State) : State :=
  if s.mayTransmit p then
    match (s.port p).ready with
    | [] => s
    | a :: rest =>
      s.modPort p fun q => { q with ready := rest, sending := some ⟨a, a.frame (s.links.answerAddress p)⟩ }
  else s

/-- R182: the last byte of the answer in transmission leaves. -/
def State.finishAnswer (p : Port) (s : State) : State :=
  match (s.port p).sending with
  | none => s
  | some t =>
    s.modPort p fun q =>
      if t.answer.code = .portBusy then { q with sending := none, busySlot := false }
      else { q with sending := none, outstanding := false }

/-! ## Framing (R179, R180) -/

/-- What the bytes received since the port last hunted amount to. -/
inductive Scan where
  /-- nothing received -/
  | hunting
  /-- a run that began with a byte that is no lead byte -/
  | stray
  /-- a frame whose length is above 1040 -/
  | outOfRange
  /-- a frame not yet complete -/
  | incomplete
  /-- a complete request frame of this many bytes -/
  | request (total : Nat)
  /-- a complete answer frame of this many bytes -/
  | passing (total : Nat)
deriving DecidableEq, Repr

/-- R179: a request frame in reception, by its length word. -/
def scanRequest (bs : List Byte) : Scan :=
  if bs.length < 4 then .incomplete
  else
    let len := fromBe (slice bs 2 2)
    if Config.bodyMax < len then .outOfRange
    else if bs.length < len + 7 then .incomplete
    else .request (len + 7)

/-- R179, R194: an answer frame in reception; its body length stands in bits 10–0. -/
def scanAnswer (bs : List Byte) : Scan :=
  if bs.length < 4 then .incomplete
  else
    let len := fromBe (slice bs 2 2) % 2048
    if Config.bodyMax < len then .outOfRange
    else if bs.length < len + 7 then .incomplete
    else .passing (len + 7)

/-- R179: what the bytes received amount to. -/
def scan (bs : List Byte) : Scan :=
  match bs with
  | [] => .hunting
  | lead :: _ =>
    if lead = 0xA5 then scanRequest bs
    else if lead = 0x5A then scanAnswer bs
    else .stray

/-- R179: what stays of the bytes received: those of an open frame; of a stray run its first byte and of a frame
out of range its four up to the length, which say that one is there. The bytes after these are dropped. -/
def kept (bs : List Byte) : List Byte :=
  match scan bs with
  | .hunting => []
  | .stray => bs.take 1
  | .outOfRange => bs.take 4
  | .incomplete | .request _ | .passing _ => bs

/-- The parts of a complete request frame. -/
structure RequestFrame where
  address : Nat
  code : Byte
  body : List Byte
  /-- its CRC matches -/
  sound : Bool
deriving DecidableEq, Repr

/-- Reads a complete request frame (section 12.2). -/
def readFrame (bs : List Byte) : RequestFrame where
  address := byteAt bs 1
  code := bs.getD 4 0
  body := slice bs 5 (bs.length - 7)
  sound := (crc16 (slice bs 1 (bs.length - 3))).toNat = fromBe (bs.drop (bs.length - 2))

/-- The bytes of a request frame (section 12.2). -/
def requestFrame (address : Nat) (code : Byte) (body : List Byte) : List Byte :=
  let inner := be 1 address ++ be 2 body.length ++ [code] ++ body
  0xA5 :: (inner ++ be 2 (crc16 inner).toNat)

/-- What becomes of a complete request frame (R180, R181). -/
inductive Verdict where
  | discard
  | foreign
  | broadcast
  | addressed
deriving DecidableEq, Repr

/-- The code of SET TIME (section 12.2). -/
def setTimeCode : Byte := 0x1A

/-- R180, R181: the judgement of a complete request frame. -/
def State.verdict (s : State) (p : Port) (f : RequestFrame) : Verdict :=
  if !f.sound then .discard
  else match p with
    | .service => if f.address = Config.serviceAddress then .addressed else .discard
    | .main =>
      if f.address = Config.broadcastAddress then
        (if f.code = setTimeCode then .broadcast else .discard)
      else if f.address = s.links.address then .addressed
      else .foreign

/-! ## Broadcast SET TIME (R13) -/

/-- R13: a broadcast SET TIME. One refused for its body or the load has no effect and is not counted; bytes
still open before it were ended by a gap (log 50). While a RESET is pending it is dropped (R186). -/
def State.broadcast (body : List Byte) (s : State) : State :=
  if s.links.main.sending.isSome then s
  else
    let s := s.gap .main
    if s.links.resetPending then s
    else if !s.store.loading && body.length == 7 then
      match secondField body 0 with
      | none => s
      | some t => s.setCalendar t
    else s

end Sys2Proof.Machine
end

