-- ==== Sys2Proof/Machine/BookCommands.lean ====
section
/-! DEFINITION. The requests on the booking table: BOOK, AMEND, WITHDRAW, LOOK_UP, SET_CURSOR, BROWSE,
NEXT_DUE, READ_OUTCOMES (R38–R45). -/

namespace Sys2Proof.Machine

/-! ## Checks (R38, R41) -/

/-- The booking number of a request; a number outside 1–96 names no slot and is out of range (log 15). -/
def numberField (body : List Byte) : Option Nat := byteField body 0 1 Config.bookingSlots

/-- R41: whether a slot has a store operation pending. -/
def Store.pendingAt (st : Store) (n : Nat) : Bool :=
  match st.op with
  | none => false
  | some op =>
    match op.job with
    | .book m _ => m == n
    | .amend m _ => m == n
    | .withdraw m => m == n
    | .setBell .. | .setDrive _ | .setProtection _ | .define .. | .segment .. | .erase _ => false

/-! ## BOOK (R39) -/

/-- R39: BOOK at its owner. -/
def State.serveBook (p : Port) (body : List Byte) (s : State) : State :=
  match parseRecord body with
  | none => s.respond p 0x01 .badField []
  | some r =>
    if s.privilege p < r.rank then s.respond p 0x01 .privilege []
    else match s.book.lowestFree with
      | none => s.respond p 0x01 .tableFull []
      | some n =>
        if r.kept then
          if s.store.isIdle then (s.setSlot n .reserved).acceptJob (.book n r) p
          else s.respond p 0x01 .storeBusy []
        else (s.createBooking n r).respond p 0x01 .done (be 1 n)

/-- BOOK (R39) -/
def execBook (p : Port) (body : List Byte) (s : State) : Host.Outcome State Fault Refusal :=
  .next (s.takeRequest p 0x01 body (·.serveBook p body))

/-! ## AMEND (R40) -/

/-- R40, R41: AMEND with its record read and its ranks allowed. -/
def State.amendChecked (p : Port) (n : Nat) (b : Booking) (r : BookingRecord) (s : State) : State :=
  let storing := b.record.kept || r.kept
  if s.store.pendingAt n || (storing && !s.store.isIdle) then s.respond p 0x02 .storeBusy []
  else if storing then s.acceptJob (.amend n r) p
  else (s.amendBooking n r).respond p 0x02 .done []

/-- R38, R40: AMEND at its owner. -/
def State.serveAmend (p : Port) (body : List Byte) (s : State) : State :=
  match numberField body with
  | none => s.respond p 0x02 .badField []
  | some n =>
    match s.booking? n with
    | none => s.respond p 0x02 .noSuch []
    | some b =>
      match parseRecord (body.drop 1) with
      | none => s.respond p 0x02 .badField []
      | some r =>
        if b.record.kind.immediate then s.respond p 0x02 .badField []
        else if s.privilege p < max b.record.rank r.rank then s.respond p 0x02 .privilege []
        else s.amendChecked p n b r

/-- AMEND (R40) -/
def execAmend (p : Port) (body : List Byte) (s : State) : Host.Outcome State Fault Refusal :=
  .next (s.takeRequest p 0x02 body (·.serveAmend p body))

/-! ## WITHDRAW (R42) -/

/-- R42: WITHDRAW at its owner. -/
def State.serveWithdraw (p : Port) (body : List Byte) (s : State) : State :=
  match numberField body with
  | none => s.respond p 0x03 .badField []
  | some n =>
    match s.booking? n with
    | none => s.respond p 0x03 .noSuch []
    | some b =>
      if s.privilege p < b.record.rank then s.respond p 0x03 .privilege []
      else if s.store.pendingAt n || (b.record.kept && !s.store.isIdle) then s.respond p 0x03 .storeBusy []
      else if b.record.kept then s.acceptJob (.withdraw n) p
      else (s.withdrawNow n).respond p 0x03 .done []

/-- WITHDRAW (R42) -/
def execWithdraw (p : Port) (body : List Byte) (s : State) : Host.Outcome State Fault Refusal :=
  .next (s.takeRequest p 0x03 body (·.serveWithdraw p body))

/-! ## LOOK UP, SET CURSOR, BROWSE (R43, R44) -/

/-- R43: LOOK UP at its owner. It names a slot, so one with a store operation pending is STORE_BUSY (R38,
row 5; R41; DEDUCED, log 43). -/
def State.serveLookUp (p : Port) (body : List Byte) (s : State) : State :=
  match numberField body with
  | none => s.respond p 0x04 .badField []
  | some n =>
    match s.booking? n with
    | none => s.respond p 0x04 .noSuch []
    | some b =>
      if s.store.pendingAt n then s.respond p 0x04 .storeBusy []
      else s.respond p 0x04 .done (encBooking n b)

/-- LOOK_UP (R43) -/
def execLookUp (p : Port) (body : List Byte) (s : State) : Host.Outcome State Fault Refusal :=
  .next (s.takeRequest p 0x04 body (·.serveLookUp p body))

/-- Sets a port's browse cursor. -/
def State.setCursor (p : Port) (n : Nat) (s : State) : State :=
  s.modPort p fun q => { q with cursor := n }

/-- R44: SET CURSOR. -/
def State.serveSetCursor (p : Port) (body : List Byte) (s : State) : State :=
  match byteField body 0 1 97 with
  | none => s.respond p 0x05 .badField []
  | some n => (s.setCursor p n).respond p 0x05 .done []

/-- SET_CURSOR (R44) -/
def execSetCursor (p : Port) (body : List Byte) (s : State) : Host.Outcome State Fault Refusal :=
  .next (s.takeRequest p 0x05 body (·.serveSetCursor p body))

/-- R44: the lowest-numbered occupied slot at or after a cursor. -/
def Book.firstFrom (b : Book) (cursor : Nat) : Option (Nat × Booking) :=
  b.bookings.find? fun e => cursor ≤ e.1

/-- R44: BROWSE. -/
def State.serveBrowse (p : Port) (s : State) : State :=
  match s.book.firstFrom (s.port p).cursor with
  | none => (s.setCursor p 97).respond p 0x06 .noSuch []
  | some e => (s.setCursor p (e.1 + 1)).respond p 0x06 .done (encBooking e.1 e.2)

/-- BROWSE (R44) -/
def execBrowse (p : Port) (body : List Byte) (s : State) : Host.Outcome State Fault Refusal :=
  .next (s.takeRequest p 0x06 body (·.serveBrowse p))

/-! ## NEXT DUE and READ OUTCOMES (R45) -/

/-- An entry of the NEXT DUE list. -/
structure DueEntry where
  number : Nat
  next : Nat
  rank : Nat
  state : BookingState
deriving DecidableEq, Repr

/-- R45: earliest next occurrence first, then highest rank, then lowest number. -/
def DueEntry.before (a b : DueEntry) : Bool :=
  a.next < b.next || (a.next == b.next &&
    (b.rank < a.rank || (a.rank == b.rank && a.number ≤ b.number)))

/-- Inserts an entry at its place. -/
def insertDue (e : DueEntry) : List DueEntry → List DueEntry
  | [] => [e]
  | x :: xs => if e.before x then e :: x :: xs else x :: insertDue e xs

/-- R45: every booking with a next occurrence, in the order of the list. -/
def Book.dueEntries (b : Book) : List DueEntry :=
  (b.bookings.filterMap fun e => e.2.next.map fun t => ⟨e.1, t, e.2.record.rank, e.2.state⟩).foldr insertDue []

/-- An entry on the wire. -/
def DueEntry.encode (e : DueEntry) : List Byte :=
  be 1 e.number ++ encSecond (some e.next) ++ be 1 e.rank ++ be 1 e.state.code

/-- R45: the body of a NEXT DUE answer. -/
def Book.encodeDue (b : Book) : List Byte :=
  let es := b.dueEntries.take 8
  be 1 es.length ++ es.flatMap DueEntry.encode

/-- NEXT_DUE (R45) -/
def execNextDue (p : Port) (body : List Byte) (s : State) : Host.Outcome State Fault Refusal :=
  .next (s.takeRequest p 0x07 body fun s => s.respond p 0x07 .done s.book.encodeDue)

/-- R45: the first 16 bookings whose outcome is unread. -/
def Book.unread (b : Book) : List (Nat × Booking) := (b.bookings.filter fun e => e.2.unread).take 16

/-- An orphan outcome on the wire. -/
def Orphan.encode (o : Orphan) : List Byte :=
  be 1 o.number ++ be 1 o.kind.code ++ encOutcome (some o.outcome)

/-- R45: the body of a READ OUTCOMES answer. -/
def Book.encodeOutcomes (b : Book) : List Byte :=
  be 1 b.unread.length ++ b.unread.flatMap (fun e => be 1 e.1 ++ encOutcome e.2.lastOutcome)
    ++ be 1 b.orphans.length ++ b.orphans.flatMap Orphan.encode

/-- R45: the outcomes returned are read and the orphan list is emptied. -/
def Book.markRead (b : Book) : Book :=
  { b.unread.foldl (fun b e => b.setSlot e.1 (.occupied { e.2 with unread := false })) b with orphans := [] }

/-- R45: READ OUTCOMES at its owner. -/
def State.serveReadOutcomes (p : Port) (s : State) : State :=
  ({ s with book := s.book.markRead }).respond p 0x08 .done s.book.encodeOutcomes

/-- READ_OUTCOMES (R45) -/
def execReadOutcomes (p : Port) (body : List Byte) (s : State) : Host.Outcome State Fault Refusal :=
  .next (s.takeRequest p 0x08 body (·.serveReadOutcomes p))

end Sys2Proof.Machine
end

