-- ==== Sys2Proof/Machine/DriveCommands.lean ====
section
/-! DEFINITION. The commands of the Drive Unit and the strikes: SET_BELL, BELL_STATUS, RESTORE_BELL,
TEST_STRIKE, SET_DRIVE, BANK_MEASUREMENT, SENSOR_OPENS, SENSOR_CLOSES, FIRE_TIME_REACHED, PULSE_END,
RETURN_LIMIT, RECOVERY_TIME, ENTRY_DROP, PLANNING_HORIZON_REACHED
(06_bells_hammers_and_the_drive_supply.md, R82, R109). -/

namespace Sys2Proof.Machine

/-! ## Requests -/

/-- R118: SET BELL at its owner. -/
def State.serveSetBell (p : Port) (body : List Byte) (s : State) : State :=
  match parseSetBell body with
  | none => s.respond p 0x14 .badField []
  | some b =>
    if s.store.isIdle then s.acceptJob (.setBell b.1 b.2) p else s.respond p 0x14 .storeBusy []

/-- SET_BELL (R118) -/
def execSetBell (p : Port) (body : List Byte) (s : State) : Host.Outcome State Fault Refusal :=
  .next (s.takeRequest p 0x14 body (·.serveSetBell p body))

/-- The bell part of a BELL STATUS answer. -/
def encBell (n : Nat) (b : Bell) : List Byte :=
  be 1 n ++ encBellRecord b.record ++ be 1 b.state.code ++ be 4 b.strikes
    ++ beOpt 1 (b.lastFault.map FaultCause.code) ++ yesNo b.sensorOpen
    ++ beOpt 8 (b.cycle.map Cycle.a) ++ beOpt 2 (b.cycle.map Cycle.width)

/-- The drive part of a BELL STATUS answer. -/
def Drive.encode (d : Drive) : List Byte :=
  be 1 d.k ++ beOpt 1 d.requestedK ++ be 1 d.energised ++ be 1 d.measurement ++ be 2 d.low
    ++ be 2 d.critical ++ be 1 d.level.code ++ yesNo d.ready ++ yesNo d.hush

/-- R121: BELL STATUS at its owner. -/
def State.serveBellStatus (p : Port) (body : List Byte) (s : State) : State :=
  match byteField body 0 0 63 with
  | none => s.respond p 0x15 .badField []
  | some b => s.respond p 0x15 .done (encBell b (s.bell b) ++ s.drive.encode)

/-- BELL_STATUS (R121) -/
def execBellStatus (p : Port) (body : List Byte) (s : State) : Host.Outcome State Fault Refusal :=
  .next (s.takeRequest p 0x15 body (·.serveBellStatus p body))

/-- R120: a FAULTED bell becomes READY and the arbiter re-evaluates. -/
def State.restore (b : Nat) (s : State) : State := ((s.modBell b Bell.toReady).arbiter).settle

/-- R120: RESTORE BELL at its owner. -/
def State.serveRestoreBell (p : Port) (body : List Byte) (s : State) : State :=
  match byteField body 0 0 63 with
  | none => s.respond p 0x16 .badField []
  | some b =>
    match (s.bell b).state with
    | .off => s.respond p 0x16 .noSuch []
    | .faulted => (s.restore b).respond p 0x16 .done []
    | .ready | .driven | .returning | .recovering => s.respond p 0x16 .done []

/-- RESTORE_BELL (R120) -/
def execRestoreBell (p : Port) (body : List Byte) (s : State) : Host.Outcome State Fault Refusal :=
  .next (s.takeRequest p 0x16 body (·.serveRestoreBell p body))

/-- R109: the test hand-over of a TEST STRIKE. -/
def State.testNote (s : State) (bell strength : Nat) : HandOver where
  owner := .test
  bell := some bell
  substituted := false
  due := s.now + 400000
  strength := strength
  volume := 16
  pos := none

/-- R137: the body of a TEST STRIKE answer: QUEUED with the entry's figures, or LOST. -/
def encTest : Option StrikeEntry → List Byte
  | none => be 1 1 ++ absentBytes 19
  | some e =>
    be 1 0 ++ be 1 e.strength ++ be 4 e.flight ++ be 2 e.width ++ be 8 e.fireTime ++ be 4 e.lateness

/-- R100, R109: a test hand-over at the planner. One that leaves the queue full has filled its last place. -/
def State.planTest (h : HandOver) (s : State) : State × Option StrikeEntry :=
  let r := s.plan h
  if r.2.isSome && r.1.queueFull then (r.1.setTestFilled (some s.now), r.2) else r

/-- R137: TEST STRIKE at its owner. -/
def State.serveTestStrike (p : Port) (body : List Byte) (s : State) : State :=
  match parseTestStrike body with
  | none => s.respond p 0x17 .badField []
  | some t =>
    let r := s.planTest (s.testNote t.1 t.2)
    (r.1.respond p 0x17 .done (encTest r.2)).settle

/-- TEST_STRIKE (R137) -/
def execTestStrike (p : Port) (body : List Byte) (s : State) : Host.Outcome State Fault Refusal :=
  .next (s.takeRequest p 0x17 body (·.serveTestStrike p body))

/-- R136: SET DRIVE at its owner. -/
def State.serveSetDrive (p : Port) (body : List Byte) (s : State) : State :=
  match parseDrive body with
  | none => s.respond p 0x18 .badField []
  | some d => if s.store.isIdle then s.acceptJob (.setDrive d) p else s.respond p 0x18 .storeBusy []

/-- SET_DRIVE (R136) -/
def execSetDrive (p : Port) (body : List Byte) (s : State) : Host.Outcome State Fault Refusal :=
  .next (s.takeRequest p 0x18 body (·.serveSetDrive p body))

/-! ## The bank (R132, R133) -/

/-- Sets the latest measurement. -/
def State.setMeasurement (v : Nat) (s : State) : State :=
  { s with drive := { s.drive with measurement := v } }

/-- BANK_MEASUREMENT (R132): during the load the level is not read (R133). -/
def execBankMeasurement (value : Byte) (s : State) : Host.Outcome State Fault Refusal :=
  .next (if s.store.loading then s.setMeasurement value.toNat
    else ((s.setMeasurement value.toNat).reclassify).settle)

/-! ## Sensors (R122–R124) -/

/-- R122: a sensor opens; while DRIVEN under supervision that is seen. -/
def Bell.open (b : Bell) : Bell :=
  let see (c : Cycle) : Cycle := if b.state = .driven ∧ c.sensor then { c with seenOpen := true } else c
  { b with sensorOpen := true, cycle := b.cycle.map see }

/-- SENSOR_OPENS (R122) -/
def execSensorOpens (bell : Fin 64) (s : State) : Host.Outcome State Fault Refusal :=
  .next (s.modBell bell Bell.open)

/-- R124: the hammer of a RETURNING bell is back. -/
def State.hammerBack (b : Nat) (s : State) : State :=
  match (s.bell b).cycle with
  | none => s
  | some c => if (s.bell b).state = .returning then (s.toRecovering b c).settle else s

/-- SENSOR_CLOSES (R124) -/
def execSensorCloses (bell : Fin 64) (s : State) : Host.Outcome State Fault Refusal :=
  .next ((s.modBell bell fun b => { b with sensorOpen := false }).hammerBack bell)

/-! ## Clock events of the hammer cycle (R123–R126) -/

/-- R123: the pulse of a DRIVEN bell ends: its slot is freed, the arbiter re-evaluates, then the bell goes on. -/
def State.endPulse (b : Nat) (c : Cycle) (s : State) : State := ((s.coilOff.arbiter).afterPulse b c).settle

/-- PULSE_END (R123): nothing unless the bell is DRIVEN and its pulse end has been reached. -/
def execPulseEnd (bell : Fin 64) (s : State) : Host.Outcome State Fault Refusal :=
  .next (match (s.bell bell).cycle with
    | none => s
    | some c => if (s.bell bell).state = .driven ∧ c.pulseEnd ≤ s.now then s.endPulse bell c else s)

/-- R124: whether a bell's return limit has been reached. -/
def Bell.overdue (b : Bell) (now : Nat) : Bool :=
  b.state == .returning &&
    (match b.cycle.bind Cycle.returnLimit with
     | none => false
     | some t => t ≤ now)

/-- RETURN_LIMIT (R124): nothing unless the bell is RETURNING and its limit has been reached. -/
def execReturnLimit (bell : Fin 64) (s : State) : Host.Outcome State Fault Refusal :=
  .next (if (s.bell bell).overdue s.now then (s.faultBell bell .noReturn).settle else s)

/-- RECOVERY_TIME (R125): nothing unless the bell is RECOVERING and its recovery time has been reached. -/
def execRecoveryTime (bell : Fin 64) (s : State) : Host.Outcome State Fault Refusal :=
  .next (match (s.bell bell).cycle with
    | none => s
    | some c =>
      if (s.bell bell).state = .recovering ∧ c.recovery ≤ s.now then
        ((s.modBell bell Bell.toReady).arbiter).settle
      else s)

/-! ## Clock events of the strike queue (R82, R128, R130) -/

/-- FIRE_TIME_REACHED (R128) -/
def execFireTimeReached (s : State) : Host.Outcome State Fault Refusal := .next s.arbiter.settle

/-- R130: whether an entry has waited past the drop limit. -/
def StrikeEntry.expired (e : StrikeEntry) (now : Nat) : Bool := Config.dropLimit < now - e.ideal

/-- ENTRY_DROP (R114, R130): of the entries past the drop limit the first in queue order, which the manual does not
fix (DESIGN CHOICE, log 59); nothing when there is none (log 3). -/
def execEntryDrop (s : State) : Host.Outcome State Fault Refusal :=
  .next (match s.planner.queue.find? (·.expired s.now) with
    | none => s
    | some e => (s.dropEntry e).settle)

/-- PLANNING_HORIZON_REACHED (R82) -/
def execPlanningHorizonReached (s : State) : Host.Outcome State Fault Refusal := .next s.settle

end Sys2Proof.Machine
end

