-- ==== Sys2Proof/Machine/EngineCommands.lean ====
section
/-! DEFINITION. The commands of the Precedence Engine and the lines it follows: PLAY_NOW, HALT,
PERFORMANCE_STATUS, HUSH_ASSERT, HUSH_RELEASE, DRIVE_READY_FALL, DRIVE_READY_RISE
(03_precedence_and_preemption.md, R134, R135). -/

namespace Sys2Proof.Machine

/-! ## PLAY NOW (R72) -/

/-- R72: PLAY NOW at its owner. -/
def State.servePlayNow (p : Port) (body : List Byte) (s : State) : State :=
  match parsePlayNow body with
  | none => s.respond p 0x09 .badField []
  | some r =>
    if s.privilege p < r.rank then s.respond p 0x09 .privilege []
    else match s.book.lowestFree with
      | none => s.respond p 0x09 .tableFull []
      | some n => (s.createImmediate n r).respond p 0x09 .done (be 1 n)

/-- PLAY_NOW (R72) -/
def execPlayNow (p : Port) (body : List Byte) (s : State) : Host.Outcome State Fault Refusal :=
  .next (s.takeRequest p 0x09 body (·.servePlayNow p body))

/-! ## HALT (R64–R67) -/

/-- R65–R67: an accepted HALT is applied. -/
def State.halt (t : HaltTarget) (c : HaltCondition) (s : State) : State :=
  match c with
  | .now => s.haltNow t
  | .atPhrase => s.haltLater t .atPhrase
  | .atEnd => s.haltLater t .atEnd

/-- R64: HALT at its owner. A store operation pending at a booking it names is no ground to refuse it (DEDUCED,
log 43). -/
def State.serveHalt (p : Port) (body : List Byte) (s : State) : State :=
  match parseHalt body with
  | none => s.respond p 0x0A .badField []
  | some h =>
    let targets := s.haltTargets h.1
    if targets.isEmpty then s.respond p 0x0A .noSuch []
    else if targets.any (fun c => s.privilege p < c.rank) then s.respond p 0x0A .privilege []
    else (s.halt h.1 h.2).respond p 0x0A .done []

/-- HALT (R64) -/
def execHalt (p : Port) (body : List Byte) (s : State) : Host.Outcome State Fault Refusal :=
  .next (s.takeRequest p 0x0A body (·.serveHalt p body))

/-! ## PERFORMANCE STATUS (R73) -/

/-- The active block, 24 bytes. -/
def encActive : Option Context → List Byte
  | none => absentBytes 24
  | some c =>
    be 1 c.booking ++ be 1 c.kind.code ++ beOpt 1 c.melody ++ be 1 c.rank ++ be 1 c.cls.code
      ++ be 1 c.mode.code ++ be 1 c.repeatNo ++ be 1 c.repeats ++ be 1 (haltCode c.pendingHalt)
      ++ encSecond c.occurrence ++ encCounts c.counts

/-- A stacked context, 12 bytes. -/
def encStacked (c : Context) : List Byte :=
  be 1 c.booking ++ be 1 c.rank ++ be 1 (haltCode c.pendingHalt) ++ be 1 c.repeatNo ++ encCounts c.counts

/-- A waiting booking, 5 bytes. -/
def State.encWaiting (s : State) (n : Nat) : List Byte :=
  match s.booking? n with
  | none => []
  | some b => be 1 n ++ be 1 b.record.rank ++ be 1 b.record.cls.code ++ beOpt 2 b.waiting

/-- R73: the body of a PERFORMANCE STATUS answer. -/
def State.encPerformance (s : State) : List Byte :=
  yesNo s.drive.hush ++ yesNo s.drive.ready ++ encActive s.engine.active
    ++ be 1 s.engine.stack.length ++ s.engine.stack.flatMap encStacked
    ++ be 1 s.engine.waiting.length ++ (s.engine.waiting.take 16).flatMap s.encWaiting

/-- PERFORMANCE_STATUS (R73) -/
def execPerformanceStatus (p : Port) (body : List Byte) (s : State) : Host.Outcome State Fault Refusal :=
  .next (s.takeRequest p 0x0B body fun s => s.respond p 0x0B .done s.encPerformance)

/-! ## The HUSH line (R68, R69, R135) -/

/-- Sets the HUSH level as last seen. -/
def State.setHush (v : Bool) (s : State) : State := { s with drive := { s.drive with hush := v } }

/-- HUSH_ASSERT (R68): nothing when the line is already asserted (log 35). -/
def execHushAssert (s : State) : Host.Outcome State Fault Refusal :=
  .next (if s.drive.hush then s else (s.setHush true).hushActive)

/-- R69, R128: the release of HUSH at the arbiter and the engine. During the load the level alone is
followed (R74, R138). -/
def State.releaseHush (s : State) : State :=
  let s := s.setHush false
  if s.store.loading then s else s.arbiter.releaseEngine

/-- HUSH_RELEASE (R69): nothing when the line is already released (log 35). -/
def execHushRelease (s : State) : Host.Outcome State Fault Refusal :=
  .next (if s.drive.hush then s.releaseHush else s)

/-! ## The DRIVE READY line (R70, R71, R134) -/

/-- Sets the DRIVE READY level as last seen. -/
def State.setReady (v : Bool) (s : State) : State := { s with drive := { s.drive with ready := v } }

/-- R70, R134: DRIVE READY falls: the coils are released, DRIVE is raised, the contexts end. -/
def State.fallReady (s : State) : State := (((s.setReady false).releaseAllCoils).raise .drive).loseDrive

/-- DRIVE_READY_FALL (R70, R134): nothing when the line is already low (log 35). -/
def execDriveReadyFall (s : State) : Host.Outcome State Fault Refusal :=
  .next (if s.drive.ready then s.fallReady else s)

/-- R71, R134: DRIVE READY rises: DRIVE is raised, the arbiter re-evaluates, the engine reconsiders. -/
def State.riseReady (s : State) : State := (((s.setReady true).raise .drive).arbiter).settle.reconsider

/-- DRIVE_READY_RISE (R71, R134): nothing when the line is already high (log 35). -/
def execDriveReadyRise (s : State) : Host.Outcome State Fault Refusal :=
  .next (if s.drive.ready then s else s.riseReady)

end Sys2Proof.Machine
end

