-- ==== Sys2Proof/Machine/LibraryCommands.lean ====
section
/-! DEFINITION. The commands of the Melody Library: DEFINE_MELODY, STORE_SEGMENT, READ_SEGMENT,
ERASE_MELODY, MELODY_INFO, SET_PROTECTION, KEY_CHANGE (08_the_melody_library_and_its_guard.md). -/

namespace Sys2Proof.Machine

/-! ## The guard (R159) -/

/-- R159: how many slots an extent names. -/
def GuardExtent.slots : GuardExtent → Nat
  | .none => 0
  | .eighth => 8
  | .quarter => 16
  | .half => 32
  | .all => 64

/-- R159: whether a slot lies in the base range. -/
def Guard.inBase (g : Guard) (slot : Nat) : Bool :=
  if g.high then Config.melodySlots - g.extent.slots ≤ slot else slot < g.extent.slots

/-- R159: whether a slot lies in the guarded range. -/
def Guard.guarded (g : Guard) (slot : Nat) : Bool := g.inBase slot != g.complement

/-- Whether a slot is guarded now. -/
def State.guarded (s : State) (slot : Nat) : Bool := s.library.protection.guard.guarded slot

/-- R156: whether a slot is the melody of the active or a stacked context. -/
def State.melodyInUse (s : State) (slot : Nat) : Bool :=
  s.engine.active.any (fun c => c.melody == some slot) || s.engine.stack.any (fun c => c.melody == some slot)

/-- Sets the pending operation of a slot. -/
def MelodySlot.setPending (op : PendingOp) (m : MelodySlot) : MelodySlot := { m with pending := op }

/-! ## DEFINE MELODY (R154) -/

/-- R154: DEFINE MELODY at its owner. -/
def State.serveDefine (p : Port) (body : List Byte) (s : State) : State :=
  match parseDefine body with
  | none => s.respond p 0x0F .badField []
  | some d =>
    if s.guarded d.1 then s.respond p 0x0F .guarded []
    else if (s.melody d.1).state != .empty then s.respond p 0x0F .notEmpty []
    else if !s.store.isIdle then s.respond p 0x0F .storeBusy []
    else (s.modMelody d.1 (·.setPending .define)).acceptJob (.define d.1 d.2) p

/-- DEFINE_MELODY (R154) -/
def execDefineMelody (p : Port) (body : List Byte) (s : State) : Host.Outcome State Fault Refusal :=
  .next (s.takeRequest p 0x0F body (·.serveDefine p body))

/-! ## STORE SEGMENT (R155) -/

/-- R155: the slot takes a segment at an index: its readable SCORE header counts that index. -/
def MelodySlot.counts (m : MelodySlot) (index : Nat) : Bool := m.state != .empty && index < m.segmentCount

/-- R155: STORE SEGMENT at its owner. -/
def State.serveStoreSegment (p : Port) (body : List Byte) (s : State) : State :=
  match parseStoreSegment body with
  | none => s.respond p 0x10 .badField []
  | some seg =>
    let m := s.melody seg.slot
    if s.guarded seg.slot then s.respond p 0x10 .guarded []
    else if !m.counts seg.index then s.respond p 0x10 .noSuch []
    else if m.state == .complete || m.positions.getD seg.index .absent != .absent then
      s.respond p 0x10 .notEmpty []
    else if !s.store.isIdle then s.respond p 0x10 .storeBusy []
    else (s.modMelody seg.slot (·.setPending (.segment seg.index))).acceptJob
      (.segment seg.slot seg.index (body.drop 1)) p

/-- STORE_SEGMENT (R155) -/
def execStoreSegment (p : Port) (body : List Byte) (s : State) : Host.Outcome State Fault Refusal :=
  .next (s.takeRequest p 0x10 body (·.serveStoreSegment p body))

/-! ## READ SEGMENT (R157) -/

/-- The slot and index of a READ SEGMENT. -/
def parseReadSegment (body : List Byte) : Option (Nat × Nat) := do
  let slot ← byteField body 0 0 63
  let index ← byteField body 1 0 15
  return (slot, index)

/-- R157: READ SEGMENT at its owner; its answer waits for the read. -/
def State.serveReadSegment (p : Port) (body : List Byte) (s : State) : State :=
  match parseReadSegment body with
  | none => s.respond p 0x11 .badField []
  | some r =>
    let m := s.melody r.1
    if !m.counts r.2 || m.positions.getD r.2 .absent == .absent then s.respond p 0x11 .noSuch []
    else { s with store := s.store.requestRead ⟨r.1, r.2, .port p⟩ }

/-- READ_SEGMENT (R157) -/
def execReadSegment (p : Port) (body : List Byte) (s : State) : Host.Outcome State Fault Refusal :=
  .next (s.takeRequest p 0x11 body (·.serveReadSegment p body))

/-! ## ERASE MELODY (R156) -/

/-- R150, R151, R156: an accepted erase makes the slot EMPTY, with its header absent, at once. Its segment
positions stand until the verified completion clears them (DESIGN CHOICE, log 40). -/
def MelodySlot.beginErase (m : MelodySlot) : MelodySlot :=
  { m with state := .empty, header := .absent, pending := .erase }

/-- R156: ERASE MELODY at its owner. An EMPTY slot whose erase is still pending is EMPTY to this check
too. -/
def State.serveErase (p : Port) (body : List Byte) (s : State) : State :=
  match byteField body 0 0 63 with
  | none => s.respond p 0x12 .badField []
  | some slot =>
    if s.guarded slot then s.respond p 0x12 .guarded []
    else if s.melodyInUse slot then s.respond p 0x12 .inUse []
    else if (s.melody slot).state == .empty then s.respond p 0x12 .done []
    else if !s.store.isIdle then s.respond p 0x12 .storeBusy []
    else (s.modMelody slot MelodySlot.beginErase).acceptJob (.erase slot) p

/-- ERASE_MELODY (R156) -/
def execEraseMelody (p : Port) (body : List Byte) (s : State) : Host.Outcome State Fault Refusal :=
  .next (s.takeRequest p 0x12 body (·.serveErase p body))

/-! ## MELODY INFO (R158) -/

/-- R158: the body of a MELODY INFO answer. -/
def State.encMelody (s : State) (slot : Nat) : List Byte :=
  let m := s.melody slot
  let g := s.library.protection.guard
  be 1 slot ++ be 1 m.state.code ++ yesNo m.damaged ++ encHeaderField m.header
    ++ m.positions.flatMap (fun x => be 1 x.code) ++ encPending m.pending
    ++ yesNo (s.melodyInUse slot) ++ yesNo (s.guarded slot)
    ++ yesNo g.high ++ be 1 g.extent.code ++ yesNo g.complement
    ++ be 1 s.library.protection.mode.code ++ yesNo s.library.lockFlag ++ yesNo s.library.key

/-- R158: MELODY INFO at its owner. -/
def State.serveMelodyInfo (p : Port) (body : List Byte) (s : State) : State :=
  match byteField body 0 0 63 with
  | none => s.respond p 0x13 .badField []
  | some slot => s.respond p 0x13 .done (s.encMelody slot)

/-- MELODY_INFO (R158) -/
def execMelodyInfo (p : Port) (body : List Byte) (s : State) : Host.Outcome State Fault Refusal :=
  .next (s.takeRequest p 0x13 body (·.serveMelodyInfo p body))

/-! ## SET PROTECTION (R160–R163) -/

/-- R161, check 3: whether a SET PROTECTION is refused PROTECTED. -/
def Library.refusesProtection (l : Library) : Bool :=
  l.lockFlag ||
    (match l.protection.mode with
     | .opened => false
     | .keyed => !l.key
     | .permanent => true)

/-- R163: the record a SET PROTECTION programs. -/
def Library.nextRecord (l : Library) (mode : ProtectionMode) (guard : Guard) : ProtectionRecord :=
  ⟨mode, guard, (l.protection.sequence + 1) % 256⟩

/-- R161, R162: SET PROTECTION at its owner. -/
def State.serveProtection (p : Port) (body : List Byte) (s : State) : State :=
  match parseProtection body with
  | none => s.respond p 0x19 .badField []
  | some r =>
    if s.library.refusesProtection then s.respond p 0x19 .isProtected []
    else match r with
      | .lock => { s with library := { s.library with lockFlag := true } }.respond p 0x19 .done []
      | .program mode guard =>
        if s.store.isIdle then s.acceptJob (.setProtection (s.library.nextRecord mode guard)) p
        else s.respond p 0x19 .storeBusy []

/-- SET_PROTECTION (R161) -/
def execSetProtection (p : Port) (body : List Byte) (s : State) : Host.Outcome State Fault Refusal :=
  .next (s.takeRequest p 0x19 body (·.serveProtection p body))

/-! ## KEY (R164) -/

/-- KEY_CHANGE (R164) -/
def execKeyChange (on : Bool) (s : State) : Host.Outcome State Fault Refusal :=
  .next { s with library := { s.library with key := on } }

end Sys2Proof.Machine
end

