-- ==== Sys2Proof/Machine/LiveCommands.lean ====
section
/-! DEFINITION. The commands of the Live Feed: LIVE_OPEN, LIVE_NOTES, LIVE_CLOSE, FEED_DEADLINE,
IDLE_LIMIT (07_live_play.md). -/

namespace Sys2Proof.Machine

/-! ## LIVE OPEN (R140) -/

/-- R140: the feed of a LIVE booking just created. -/
def LiveFeed.opened (n : Nat) : LiveFeed where
  booking := n
  queue := []
  mode := .opened
  endsHalted := false
  underruns := 0
  idle := .cleared

/-- R140: LIVE OPEN at its owner. -/
def State.serveLiveOpen (p : Port) (body : List Byte) (s : State) : State :=
  match parseLiveOpen body with
  | none => s.respond p 0x0C .badField []
  | some r =>
    if s.privilege p < r.rank then s.respond p 0x0C .privilege []
    else if s.live.isSome then s.respond p 0x0C .liveBusy []
    else match s.book.lowestFree with
      | none => s.respond p 0x0C .tableFull []
      | some n =>
        ({ s with live := some (.opened n) }.createImmediate n r).respond p 0x0C .done (be 1 n)

/-- LIVE_OPEN (R140) -/
def execLiveOpen (p : Port) (body : List Byte) (s : State) : Host.Outcome State Fault Refusal :=
  .next (s.takeRequest p 0x0C body (·.serveLiveOpen p body))

/-! ## LIVE NOTES (R141) -/

/-- R141: the events of a request that are accepted: none when STOPPED, otherwise as many as fit. -/
def LiveFeed.accepted (l : LiveFeed) (es : List Event) : List Event :=
  match l.mode with
  | .stopped => []
  | .opened | .closing => es.take (Config.streamQueueMax - l.queue.length)

/-- R141, R145: accepted events join at the tail; an empty queue's idle time stops. -/
def LiveFeed.append (l : LiveFeed) (es : List Event) : LiveFeed :=
  { l with
    queue := l.queue ++ es
    idle := if l.queue.isEmpty && !es.isEmpty then .cleared else l.idle }

/-- The state of the live booking on the wire. -/
def State.liveState (s : State) (n : Nat) : Nat :=
  match s.booking? n with
  | none => BookingState.due.code
  | some b => b.state.code

/-- R141: the body of a LIVE NOTES answer, as the append left the queue. -/
def State.encLiveNotes (s : State) (accepted : Nat) (l : LiveFeed) : List Byte :=
  be 1 accepted ++ be 1 l.queue.length ++ be 1 l.booking ++ be 1 (s.liveState l.booking)
    ++ be 1 l.mode.code ++ be 2 l.underruns

/-- R141: LIVE NOTES at its owner. -/
def State.serveLiveNotes (p : Port) (body : List Byte) (s : State) : State :=
  match parseLiveNotes body with
  | none => s.respond p 0x0D .badField []
  | some es =>
    match s.live with
    | none => s.respond p 0x0D .noSuch []
    | some l =>
      let taken := l.accepted es
      let l := l.append taken
      ({ s with live := some l }.respond p 0x0D .done (s.encLiveNotes taken.length l)).settle

/-- LIVE_NOTES (R141) -/
def execLiveNotes (p : Port) (body : List Byte) (s : State) : Host.Outcome State Fault Refusal :=
  .next (s.takeRequest p 0x0D body (·.serveLiveNotes p body))

/-! ## LIVE CLOSE (R143) -/

/-- R143, R145: LIVE CLOSE acts on the feed mode. -/
def LiveFeed.close (l : LiveFeed) : LiveFeed :=
  match l.mode with
  | .opened => { l with mode := .closing, endsHalted := false, idle := .cleared }
  | .closing | .stopped => l

/-- R143: the body of a LIVE CLOSE answer. -/
def LiveFeed.encodeClose (l : LiveFeed) : List Byte :=
  be 1 l.booking ++ be 1 l.mode.code ++ be 1 l.queue.length ++ be 2 l.underruns

/-- R143: LIVE CLOSE at its owner. -/
def State.serveLiveClose (p : Port) (s : State) : State :=
  match s.live with
  | none => s.respond p 0x0E .noSuch []
  | some l => ({ s with live := some l.close }.respond p 0x0E .done l.close.encodeClose).settle

/-- LIVE_CLOSE (R143) -/
def execLiveClose (p : Port) (body : List Byte) (s : State) : Host.Outcome State Fault Refusal :=
  .next (s.takeRequest p 0x0E body (·.serveLiveClose p))

/-! ## The feed deadline (R144) -/

/-- R144: whether a deadline that is reached is an underrun. -/
def LiveFeed.starved (l : LiveFeed) (c : Context) : Bool :=
  l.queue.isEmpty && l.mode == .opened && c.mode == .playing

/-- R144: the feed deadline is reached: it becomes absent, and an underrun is counted and raises FEED. -/
def State.passDeadline (c : Context) (s : State) : State :=
  let s := s.modActive fun c => { c with feedDeadline := none }
  match s.live with
  | none => s
  | some l =>
    if l.starved c then { s with live := some { l with underruns := sat16 l.underruns 1 } }.raise .feed
    else s

/-- FEED_DEADLINE (R144): nothing before the deadline of the active context has been reached. -/
def execFeedDeadline (s : State) : Host.Outcome State Fault Refusal :=
  .next (match s.engine.active with
    | none => s
    | some c =>
      match c.feedDeadline with
      | none => s
      | some d => if d ≤ s.now then s.passDeadline c else s)

/-! ## The idle limit (R145) -/

/-- R145: whether the idle time has reached 30 s. -/
def LiveFeed.idleExpired (l : LiveFeed) (now : Nat) : Bool :=
  l.mode == .opened && l.queue.isEmpty &&
    (match l.idle.since with
     | none => false
     | some t => Config.idleLimit ≤ l.idle.kept + (now - t))

/-- R145: whether the live context at play is to end for idleness. -/
def State.idleDue (s : State) : Bool :=
  match s.engine.active, s.live with
  | some c, some l => c.melodyKind.isNone && c.mode == .playing && l.idleExpired s.now
  | _, _ => false

/-- IDLE_LIMIT (R145): nothing before the idle time has reached its limit. -/
def execIdleLimit (s : State) : Host.Outcome State Fault Refusal :=
  .next (if s.idleDue then (s.endActive .cut (some .idle) false).resumeChoice else s)

end Sys2Proof.Machine
end

