-- ==== Sys2Proof/Machine/NoticeCommands.lean ====
section
/-! DEFINITION. The commands of the Notice Unit: READ_NOTICES, SET_NOTICE_MASK (11_notices_and_status.md). -/

namespace Sys2Proof.Machine

/-- R191: the body of a READ NOTICES answer. -/
def State.encNoticeReport (s : State) : List Byte :=
  encNotices s.notices.flags ++ encNotices s.notices.enables ++ be 1 s.notices.cause.code
    ++ be 1 s.store.discards ++ be 2 s.links.main.errors ++ be 2 s.links.service.errors

/-- R191: READ NOTICES reports the flags and clears them. -/
def State.serveReadNotices (p : Port) (s : State) : State :=
  { s with notices := { s.notices with flags := .none } }.respond p 0x1C .done s.encNoticeReport

/-- READ_NOTICES (R191) -/
def execReadNotices (p : Port) (body : List Byte) (s : State) : Host.Outcome State Fault Refusal :=
  .next (s.takeRequest p 0x1C body (·.serveReadNotices p))

/-- R190: SET NOTICE MASK at its owner. -/
def State.serveMask (p : Port) (body : List Byte) (s : State) : State :=
  match parseMask body with
  | none => s.respond p 0x1D .badField []
  | some m => { s with notices := { s.notices with enables := m } }.respond p 0x1D .done (encEnables m)

/-- SET_NOTICE_MASK (R190) -/
def execSetNoticeMask (p : Port) (body : List Byte) (s : State) : Host.Outcome State Fault Refusal :=
  .next (s.takeRequest p 0x1D body (·.serveMask p body))

end Sys2Proof.Machine
end

