-- ==== Sys2Proof/Machine/Resets.lean ====
section
/-! DEFINITION. Power-on, TOWER RESET, the RESET request and the start-up load (R4, R16, R47, R74, R116,
R133, R138, R165, R174–R177, R186, R187, R192, R193). -/

namespace Sys2Proof.Machine

/-! ## Resets -/

/-- Whether a reset cuts an operation at work, and so draws the bytes it leaves (R174, log 11). -/
def Store.cutsWork (st : Store) : Bool :=
  match st.op with
  | none => false
  | some op => op.begun

/-- The input levels of the hammer-return sensors. -/
def Drive.sensors (d : Drive) : List Bool := d.bells.map Bell.sensorOpen

/-- The sensor levels of the pins, bell 0 first. -/
def pinLevels (p : Pins) : List Bool := (List.range Config.bells).map fun i => p.sensors.getLsbD i

/-- What every reset does to the part. The Tower Time Unit, the lock flag, the KEY level and the drive
unit's inputs are handed in; the queue of waiting commands is the model's and stays. -/
def State.resetWith (time : TowerTime) (lockFlag key : Bool) (drive : Drive) (straps : Straps)
    (cause : ResetCause) (atCopyB : Bool) (s : State) : State where
  time := time
  book := .initial
  engine := .initial
  player := .initial
  planner := .initial
  drive := drive
  live := none
  library := .initial lockFlag key
  store := .loadingFrom (s.placesAfterCut atCopyB) s.store.discards
  links := .initial straps
  notices := .initial cause
  freeCount := if s.store.cutsWork then s.freeCount + 1 else s.freeCount
  pending := s.pending

/-- Power-on: every block takes its power-on values and the lines their levels (R1, R16, R162). -/
def State.powerUp (pins : Pins) (straps : Straps) (atCopyB : Bool) (s : State) : State :=
  s.resetWith .powerOn false pins.key
    (.initial (pinLevels pins) pins.measurement.toNat pins.driveReady pins.hush) straps .powerOn atCopyB

/-- TOWER RESET and the RESET request: the Tower Time Unit runs on, the lock flag and the line levels are
kept (R4, R16, R133, R162). -/
def State.warmReset (straps : Straps) (cause : ResetCause) (atCopyB : Bool) (s : State) : State :=
  s.resetWith s.time s.library.lockFlag s.library.key
    (.initial s.drive.sensors s.drive.measurement s.drive.ready s.drive.hush) straps cause atCopyB

/-! ## The end of the start-up load (R177) -/

/-- R47: a loaded record's first next occurrence is later than the calendar second in force. -/
def Booking.loaded (r : BookingRecord) (t : TowerTime) : Booking :=
  let b : Booking :=
    { record := r, state := .armed, next := none, current := none, creation := none, waiting := none
      lastDisposed := none, lastOutcome := none, unread := false, missed := 0 }
  let b := { b with next := b.nextAfter (t.state == TimeState.unset) (t.second + 1) }
  { b with state := b.restState t }

/-- R47, R176: a booking slot after the load. -/
def loadedBooking (t : TowerTime) (p : Place BookingRecord) : Slot :=
  match p.loaded with
  | none => .free
  | some r => .occupied (.loaded r t)

/-- R117, R138: a bell after the load, at its input level. -/
def Bell.afterLoad (b : Bell) (p : Place BellRecord) : Bell :=
  let record := p.loaded.getD .default
  { Bell.initial b.sensorOpen with record := record, state := if record.present then .ready else .off }

/-- R133, R136, R138: the Drive Unit after the load. -/
def Drive.afterLoad (d : Drive) (places : Places) : Drive :=
  let settings := places.drive.loaded.getD .default
  { d with
    bells := List.zipWith Bell.afterLoad d.bells places.bells
    k := settings.k, low := settings.low, critical := settings.critical, requestedK := none
    energised := 0
    level := firstLevel settings.low settings.critical d.measurement }

/-- R165: the library after the load. -/
def Library.afterLoad (l : Library) (places : Places) : Library :=
  { l with
    slots := (List.range Config.melodySlots).map places.loadedSlot
    protection := (chooseProtection places.copyA places.copyB).1 }

/-- R176: the load discard count, 0–255. -/
def Places.discardCount (p : Places) : Nat := min 255 p.discards

/-- R163, R176: whether the load raises STORE. -/
def State.loadRaisesStore (s : State) : Bool :=
  s.store.discards != 0 || s.library.slots.any MelodySlot.damaged

/-- R177: the load hands the judged contents to their owners. -/
def State.finishLoad (s : State) : State :=
  if s.store.loading then
    let places := s.store.places
    let s := { s with
      book := ⟨places.bookings.map (loadedBooking s.time), []⟩
      drive := s.drive.afterLoad places
      library := s.library.afterLoad places
      store := { s.store with loading := false, discards := places.discardCount } }
    (s.raiseIf s.loadRaisesStore .store).raiseIf (s.drive.level != .normal) .drive
  else s

/-! ## The RESET request (R186) -/

/-- R186: RESET is answered DONE and becomes pending. -/
def State.serveReset (p : Port) (s : State) : State :=
  let s := s.respond p 0x1E .done []
  { s with links := { s.links with resetPending := true } }

/-- R186: the DONE answer and every main-port answer ready or in transmission at the RESET have left. -/
def Links.drained (l : Links) : Bool :=
  l.resetPending && !l.service.outstanding && l.main.ready.isEmpty && l.main.sending.isNone

/-! ## The commands -/

/-- POWER_ON -/
def execPowerOn (pins : Pins) (straps : Straps) (abortedAtCopyB : Bool) (s : State) :
    Host.Outcome State Fault Refusal :=
  .next (s.powerUp pins straps abortedAtCopyB)

/-- TOWER_RESET (R175, R187, R192): a pending RESET is forgotten. -/
def execTowerReset (straps : Straps) (abortedAtCopyB : Bool) (s : State) :
    Host.Outcome State Fault Refusal :=
  .next (s.warmReset straps .towerReset abortedAtCopyB)

/-- RESET_TAKES_EFFECT (R186): nothing before the answers have drained. -/
def execResetTakesEffect (straps : Straps) (abortedAtCopyB : Bool) (s : State) :
    Host.Outcome State Fault Refusal :=
  .next (if s.links.drained then s.warmReset straps .resetRequest abortedAtCopyB else s)

/-- LOAD_COMPLETE (R177) -/
def execLoadComplete (s : State) : Host.Outcome State Fault Refusal := .next s.finishLoad

/-- RESET (R186) -/
def execReset (p : Port) (body : List Byte) (s : State) : Host.Outcome State Fault Refusal :=
  .next (s.takeRequest p 0x1E body (·.serveReset p))

end Sys2Proof.Machine
end

