-- ==== Sys2Proof/Machine/TimeCommands.lean ====
section
/-! DEFINITION. The commands of the Tower Time Unit: REFERENCE_PULSE, PULSE_TIMEOUT, NORMAL_ADVANCE,
SET_TIME, BROADCAST_SET_TIME, READ_TIME (01_tower_time.md). -/

namespace Sys2Proof.Machine

/-- REFERENCE_PULSE (R5): a phase step that advances the calendar may let bookings start. -/
def execReferencePulse (s : State) : Host.Outcome State Fault Refusal := .next s.pulse

/-- PULSE_TIMEOUT (R10): nothing before the timeout has been reached. -/
def execPulseTimeout (s : State) : Host.Outcome State Fault Refusal :=
  .next (match s.time.timeout with
    | none => s
    | some d => if d ≤ s.now then s.expirePulse else s)

/-- NORMAL_ADVANCE (R3) -/
def execNormalAdvance (s : State) : Host.Outcome State Fault Refusal := .next s.normalAdvance

/-- R11: SET TIME at its owner. -/
def State.serveSetTime (p : Port) (body : List Byte) (s : State) : State :=
  match secondField body 0 with
  | none => s.respond p 0x1A .badField []
  | some t => (s.setCalendar t).respond p 0x1A .done []

/-- SET_TIME (R11) -/
def execSetTime (p : Port) (body : List Byte) (s : State) : Host.Outcome State Fault Refusal :=
  .next (s.takeRequest p 0x1A body (·.serveSetTime p body))

/-- BROADCAST_SET_TIME (R13) -/
def execBroadcastSetTime (body : List Byte) (s : State) : Host.Outcome State Fault Refusal :=
  .next (s.broadcast body)

/-- R14: the clock as READ TIME shows it. When the sub-second count has reached 1,000,000 and the normal
advance of that instant still waits, its fields are those the advance leaves (R3), so that the count lies in
0–999,999; nothing changes (DESIGN CHOICE, log 42). -/
def TowerTime.shown (t : TowerTime) : TowerTime :=
  if t.sub < 1000000 then t
  else
    let second := t.second + t.sub / 1000000
    if second < Config.calendarSeconds then { t with second := second, sub := t.sub % 1000000 }
    else { t with second := second % Config.calendarSeconds, sub := t.sub % 1000000, state := .unset }

/-- R14: the body of a READ TIME answer. -/
def TowerTime.encode (t : TowerTime) : List Byte :=
  encSecond (some t.second) ++ be 4 t.sub ++ be 1 t.state.code ++ yesNo t.locked
    ++ beInt 2 t.correction ++ be 1 t.history.length ++ be 8 t.clock

/-- R14: READ TIME at its owner. -/
def State.serveReadTime (p : Port) (s : State) : State := s.respond p 0x1B .done s.time.shown.encode

/-- READ_TIME (R14) -/
def execReadTime (p : Port) (body : List Byte) (s : State) : Host.Outcome State Fault Refusal :=
  .next (s.takeRequest p 0x1B body (·.serveReadTime p))

end Sys2Proof.Machine
end

