-- ==== Sys2Proof/Machine/Frames.lean ====
section
/-! DEFINITION. Bytes on a port and the commands of the links: UNKNOWN_REQUEST, FRAME_DISCARD,
FOREIGN_FRAME, FRAME_GAP_TIMEOUT, ANSWER_TRANSMIT_START, ANSWER_SENT (R178–R184). -/

namespace Sys2Proof.Machine

/-! ## From a frame to its owner (R184, section 12.2) -/

/-- The owner's part of a request, by its code. -/
def State.serve (p : Port) (code : Byte) (body : List Byte) (s : State) : State :=
  match code.toNat with
  | 1 => s.serveBook p body
  | 2 => s.serveAmend p body
  | 3 => s.serveWithdraw p body
  | 4 => s.serveLookUp p body
  | 5 => s.serveSetCursor p body
  | 6 => s.serveBrowse p
  | 7 => s.respond p 0x07 .done s.book.encodeDue
  | 8 => s.serveReadOutcomes p
  | 9 => s.servePlayNow p body
  | 10 => s.serveHalt p body
  | 11 => s.respond p 0x0B .done s.encPerformance
  | 12 => s.serveLiveOpen p body
  | 13 => s.serveLiveNotes p body
  | 14 => s.serveLiveClose p
  | 15 => s.serveDefine p body
  | 16 => s.serveStoreSegment p body
  | 17 => s.serveReadSegment p body
  | 18 => s.serveErase p body
  | 19 => s.serveMelodyInfo p body
  | 20 => s.serveSetBell p body
  | 21 => s.serveBellStatus p body
  | 22 => s.serveRestoreBell p body
  | 23 => s.serveTestStrike p body
  | 24 => s.serveSetDrive p body
  | 25 => s.serveProtection p body
  | 26 => s.serveSetTime p body
  | 27 => s.serveReadTime p
  | 28 => s.serveReadNotices p
  | 29 => s.serveMask p body
  | 30 => s.serveReset p
  | _ => s

/-- R180, R181: a complete request frame is judged and, when it is a request for this part, taken. -/
def State.takeFrame (p : Port) (f : RequestFrame) (s : State) : State :=
  if s.links.resetPending then s
  else match s.verdict p f with
    | .discard => s.countError p
    | .foreign => s
    | .broadcast => s.broadcast f.body
    | .addressed => s.takeRequest p f.code f.body (·.serve p f.code f.body)

/-! ## Bytes (R178, R179, R186) -/

/-- Whether the bytes arriving on a port are not received at all: the main port drives the pair (R178). -/
def State.closed (s : State) (p : Port) : Bool :=
  match p with
  | .main => s.links.main.sending.isSome
  | .service => false

/-- Deals with the complete frames at the front of at most `n` bytes received, and keeps of the rest what R179
gives. A complete answer frame is dropped uncounted on either port, the service port included (DESIGN CHOICE,
log 48). -/
def State.frames (p : Port) : Nat → List Byte → State → State
  | 0, _, s => s.keepBytes p []
  | n + 1, bs, s =>
    match scan bs with
    | .hunting | .stray | .outOfRange | .incomplete => s.keepBytes p (kept bs)
    | .passing total => State.frames p n (bs.drop total) (s.keepBytes p [])
    | .request total =>
      State.frames p n (bs.drop total) ((s.keepBytes p []).takeFrame p (readFrame (bs.take total)))

/-- R179, R180: bytes arrive on a port. While a RESET is pending they are received all the same, and the frames
that end are dropped uncounted (R186). -/
def State.receive (p : Port) (bytes : List Byte) (s : State) : State :=
  if s.closed p then s
  else
    let got := (s.port p).rx ++ bytes
    State.frames p got.length got s

/-! ## The commands -/

/-- UNKNOWN_REQUEST (R184) -/
def execUnknownRequest (p : Port) (code : Byte) (body : List Byte) (s : State) :
    Host.Outcome State Fault Refusal :=
  .next (s.takeRequest p code body (·.serve p code body))

/-- FRAME_DISCARD (R180) -/
def execFrameDiscard (p : Port) (bytes : List Byte) (s : State) : Host.Outcome State Fault Refusal :=
  .next (s.receive p bytes)

/-- FOREIGN_FRAME (R180) -/
def execForeignFrame (p : Port) (bytes : List Byte) (s : State) : Host.Outcome State Fault Refusal :=
  .next (s.receive p bytes)

/-- FRAME_GAP_TIMEOUT (R179): bytes, then a gap. -/
def execFrameGapTimeout (p : Port) (bytes : List Byte) (s : State) : Host.Outcome State Fault Refusal :=
  .next ((s.receive p bytes).gap p)

/-- ANSWER_TRANSMIT_START (R183) -/
def execAnswerTransmitStart (p : Port) (s : State) : Host.Outcome State Fault Refusal :=
  .next (s.startAnswer p)

/-- ANSWER_SENT (R182) -/
def execAnswerSent (p : Port) (s : State) : Host.Outcome State Fault Refusal := .next (s.finishAnswer p)

end Sys2Proof.Machine
end

