-- ==== Sys2Proof/Machine/StoreEvents.lean ====
section
/-! DEFINITION. The events of the Nonvolatile Store: STORE_COMPLETION, SUSPEND_END,
SEGMENT_READ_COMPLETION (09_the_nonvolatile_store.md, R87, R88, R157). -/

namespace Sys2Proof.Machine

/-! ## Completions (R172) -/

/-- A job's request code. -/
def StoreJob.code : StoreJob → Byte
  | .book .. => 0x01
  | .amend .. => 0x02
  | .withdraw _ => 0x03
  | .setBell .. => 0x14
  | .setDrive _ => 0x18
  | .setProtection _ => 0x19
  | .define .. => 0x0F
  | .segment .. => 0x10
  | .erase _ => 0x12

/-- The body of a job's DONE answer: BOOK's carries the number (section 12.4). -/
def StoreJob.answerBody : StoreJob → List Byte
  | .book n _ => be 1 n
  | .amend .. | .withdraw _ | .setBell .. | .setDrive _ | .setProtection _ | .define .. | .segment ..
  | .erase _ => []

/-- R151: a defined slot. -/
def MelodySlot.defined (h : MelodyHeader) : MelodySlot :=
  { MelodySlot.initial with
    state := match h.shape with
      | .score _ => .defined
      | .toll .. => .complete
    header := .known h }

/-- R151, R155: a segment program ended at an index. -/
def MelodySlot.segmentDone (index : Nat) (p : SegmentPosition) (m : MelodySlot) : MelodySlot :=
  let positions := m.positions.set index p
  { m with
    positions := positions
    pending := .none
    state := if allPresent positions m.segmentCount then .complete else m.state }

/-- R172, step 1, verified: the owning block applies the result. -/
def State.applyVerified (job : StoreJob) (s : State) : State :=
  match job with
  | .book n r => s.createBooking n r
  | .amend n r => s.amendBooking n r
  | .withdraw n => s.withdrawNow n
  | .setBell b r => (s.takeBellRecord b r).settle
  | .setDrive d => (s.takeDriveSettings d).settle
  | .setProtection r => { s with library := { s.library with protection := r } }
  | .define m h => s.modMelody m fun _ => .defined h
  | .segment m i _ => s.modMelody m (·.segmentDone i .present)
  | .erase m => s.modMelody m fun _ => .initial

/-- R172, step 1, verify failure: the owning block applies the result. An erase or define that fails
leaves the positions of the slot as they stood (DEDUCED, log 45). -/
def State.applyFailed (job : StoreJob) (s : State) : State :=
  match job with
  | .book n _ => s.setSlot n .free
  | .amend .. | .withdraw _ | .setBell .. | .setDrive _ | .setProtection _ => s
  | .define m _ => s.modMelody m fun x => .unreadable x.positions
  | .segment m i _ => s.modMelody m (·.segmentDone i .spoiled)
  | .erase m => s.modMelody m fun x => .unreadable x.positions

/-- Whether a failed completion draws the bytes the place reads as (log 11). -/
def StoreJob.drawsBytes : StoreJob → Bool
  | .segment .. => true
  | .book .. | .amend .. | .withdraw _ | .setBell .. | .setDrive _ | .setProtection _ | .define ..
  | .erase _ => false

/-- R166, R172: the places and markers after a completion. -/
def State.storePlaces (job : StoreJob) (result : Completion) (s : State) : State :=
  match result with
  | .verified => { s with store := { s.store with places := s.store.places.verified job } }
  | .failed =>
    { s with
      store := { s.store with places := s.store.places.failed false s.garbage job }
      freeCount := if job.drawsBytes then s.freeCount + 1 else s.freeCount }
  | .failedAtCopyB =>
    { s with
      store := { s.store with places := s.store.places.failed true s.garbage job }
      freeCount := if job.drawsBytes then s.freeCount + 1 else s.freeCount }

/-- The Store Controller becomes IDLE (R172, step 3). -/
def State.storeIdle (s : State) : State :=
  { s with store := { s.store with state := .idle, op := none, suspending := false } }

/-- R172: an operation completes. -/
def State.completeOp (op : StoreOp) (result : Completion) (s : State) : State :=
  let s := s.storePlaces op.job result
  match result with
  | .verified => ((s.applyVerified op.job).storeIdle).respond op.port op.job.code .done op.job.answerBody
  | .failed | .failedAtCopyB =>
    (((s.applyFailed op.job).raise .store).storeIdle).respond op.port op.job.code .storeFault []

/-- STORE_COMPLETION (R172): no completion while nothing is in hand, before the work has begun, during a
suspend or while suspended (R168). -/
def execStoreCompletion (result : Completion) (s : State) : Host.Outcome State Fault Refusal :=
  .next (match s.store.op with
    | none => s
    | some op => if s.store.working && !s.store.suspending then s.completeOp op result else s)

/-! ## The suspend (R171) -/

/-- SUSPEND_END (R171): nothing unless a suspend is under way. -/
def execSuspendEnd (s : State) : Host.Outcome State Fault Refusal :=
  .next (if s.store.suspending then
    { s with store := { s.store with state := s.store.state.suspended, suspending := false } }
  else s)

/-! ## Read completions (R87, R88, R157, R170) -/

/-- The bytes a read delivers: those of the place, disturbed by `noise` (log 12). -/
def readBytes (noise bytes : List Byte) : List Byte :=
  bytes.zipIdx.map fun p => p.1 ^^^ noise.getD p.2 0

/-- R87: whether a read passes: the header names slot and index, the count lies within the capacity of a length
code of the layout, the CRC matches. The events themselves are not judged. -/
def passesChecks (slot segment : Nat) (bytes : List Byte) : Bool :=
  let g := carriedSegment bytes
  decide (g.slot = slot ∧ g.index = segment ∧ g.lengthCode ≤ 3 ∧ 1 ≤ g.eventCount ∧
    g.eventCount ≤ capacityOf g.lengthCode ∧ (computedCrc bytes).toNat = g.crc)

/-- R85, R87: the header and events of a read that passes its checks. -/
def checkRead (slot segment : Nat) (bytes : List Byte) : Option Segment :=
  if passesChecks slot segment bytes then some (carriedSegment bytes) else none

/-- What a read of a place delivers to a check: nothing for a blank place, bytes that fail for a spoiled
one, and otherwise the bytes read. -/
def SegmentPlace.deliver (p : SegmentPlace) (noise : List Byte) (slot segment : Nat) :
    Option Segment :=
  match p with
  | .blank => none
  | .spoiled _ => none
  | .programmed bytes => checkRead slot segment (readBytes noise bytes)

/-- R85, R87: what a completion of segment `segment` makes of a buffer; the second component asks for a
retry, the third tells of a double failure. -/
def Buffer.complete (b : Buffer) (segment : Nat) (delivered : Option Segment) : Buffer × Bool × Bool :=
  match b with
  | .reading n =>
    if n = segment then
      match delivered with
      | some g => (.held g, false, false)
      | none => (.retrying n, true, false)
    else (b, false, false)
  | .retrying n =>
    if n = segment then
      match delivered with
      | some g => (.held g, false, false)
      | none => (.failed n, false, true)
    else (b, false, false)
  | .free => (b, false, false)
  | .held _ => (b, false, false)
  | .failed _ => (b, false, false)

/-- R88: a double failure sets the slot's DAMAGED flag and raises STORE, and the context that plays the segment
does not try it again. -/
def State.flagDamaged (slot segment : Nat) (s : State) : State :=
  ((s.modMelody slot fun m => { m with damaged := true }).modActive fun c =>
    { c with failed := segment :: c.failed }).raise .store

/-- R87: a read of the Score Player completes. -/
def State.bufferRead (slot segment : Nat) (delivered : Option Segment) (s : State) : State :=
  let c := s.player.cur.complete segment delivered
  let n := s.player.next.complete segment delivered
  let s := { s with player := { s.player with cur := c.1, next := n.1 } }
  let s := if c.2.1 || n.2.1 then s.requestSegment slot segment else s
  if c.2.2 || n.2.2 then s.flagDamaged slot segment else s

/-- R157: the bytes READ SEGMENT reports for a place. -/
def State.reportedBytes (s : State) (p : SegmentPlace) (noise : List Byte) : List Byte :=
  match p with
  | .blank => s.garbage
  | .spoiled bytes => readBytes noise bytes
  | .programmed bytes => readBytes noise bytes

/-- Whether reporting a place draws free bytes: a blank place behind a PRESENT position (log 11). -/
def SegmentPlace.isBlank : SegmentPlace → Bool
  | .blank => true
  | .programmed _ | .spoiled _ => false

/-- R157: a READ SEGMENT completes; its check is made once and changes nothing. -/
def State.portRead (p : Port) (slot segment : Nat) (noise : List Byte) (s : State) : State :=
  let place := s.segmentPlace slot segment
  let bytes := s.reportedBytes place noise
  let passed := (place.deliver noise slot segment).isSome
  let s := if place.isBlank then { s with freeCount := s.freeCount + 1 } else s
  s.respond p 0x11 .done (bytes ++ be 2 (computedCrc bytes).toNat ++ be 1 (if passed then 0 else 1))

/-- R170: the head of the read queue is served. -/
def State.serveRead (r : ReadRequest) (noise : List Byte) (s : State) : State :=
  match r.requester with
  | .buffer true => s
  | .buffer false => s.bufferRead r.slot r.segment ((s.segmentPlace r.slot r.segment).deliver noise r.slot r.segment)
  | .port p => s.portRead p r.slot r.segment noise

/-- R169, R171: after a read the store goes on: with the queue empty the operation resumes, or the waiting work
begins. A retry has joined the queue before this (R87); a further read that the Score Player asks for in consequence
of the same completion (R83, R86) comes after it, and starts a suspend of its own (DESIGN CHOICE, log 60). -/
def State.afterRead (s : State) : State := { s with store := s.store.afterReads }

/-- SEGMENT_READ_COMPLETION (R87, R157, R170): nothing unless a read is in progress. The store goes on before the
Score Player does (DESIGN CHOICE, log 60). -/
def execSegmentReadCompletion (noise : List Byte) (s : State) : Host.Outcome State Fault Refusal :=
  .next (match s.store.reads with
    | [] => s
    | r :: rest =>
      if s.store.serving then
        ((({ s with store := { s.store with reads := rest } }).serveRead r noise).afterRead).settle
      else s)

end Sys2Proof.Machine
end

