-- ==== Sys2Proof/Machine/Tick.lean ====
section
/-! DEFINITION. What a step does when no command waits: one crystal period passes and the clock events
that fall due are put on the queue (R1, R2; DESIGN CHOICE, logs 1, 3, 5). -/

namespace Sys2Proof.Machine

/-- A command when a condition holds. -/
def whenDue (c : Bool) (i : Instr) : List Instr := if c then [i] else []

/-- Whether an optional time has been reached. -/
def reached (t : Option Nat) (now : Nat) : Bool :=
  match t with
  | none => false
  | some d => d ≤ now

/-- Whether an optional time lies in the period that has just passed: after `old`, not after `now`. -/
def crossed (t : Option Nat) (old now : Nat) : Bool :=
  match t with
  | none => false
  | some d => old < d && d ≤ now

/-- The bells with their numbers. -/
def State.numberedBells (s : State) : List (Fin 64 × Bell) :=
  (List.finRange 64).map fun i => (i, s.bell i)

/-- Whether the pulse of a bell has come to its end (R123). -/
def Bell.pulseOver (b : Bell) (now : Nat) : Bool :=
  b.state == .driven && reached (b.cycle.map Cycle.pulseEnd) now

/-- Whether a bell's recovery time has been reached (R125). -/
def Bell.recovered (b : Bell) (now : Nat) : Bool :=
  b.state == .recovering && reached (b.cycle.map Cycle.recovery) now

/-- The due time of the event at the planning position of the active context, if its segment is held
(R82). -/
def State.nextDueTime (s : State) : Option Nat :=
  match s.engine.active with
  | none => none
  | some c =>
    match c.melodyKind with
    | some .score =>
      match s.player.cur with
      | .held segment => (segment.events[c.pos.event]?).map fun e => c.dueAt (c.pos.tick + e.delta)
      | .free | .reading _ | .retrying _ | .failed _ => none
    | some .toll => (s.tollOf c).map fun t => c.tollDue t.2.2 c.pos.number
    | none =>
      match s.live with
      | none => none
      | some l => (l.queue.head?).map fun e => c.dueAt (c.pos.tick + e.delta)

/-- The clock event of the planning horizon: the time at which that event comes within it. -/
def State.horizonTime (s : State) : Option Nat := s.nextDueTime.map (· - Config.horizon)

/-- The clock events due at the clock as it stands, `old` being the clock one period before. A feed deadline
that an event taken late has set in the past counts as reached at the next period (R144; DESIGN CHOICE, log
52). -/
def State.dueCommands (old : Nat) (s : State) : List Instr :=
  whenDue (1000000 ≤ s.time.sub) .normalAdvance
    ++ whenDue (reached s.time.timeout s.now) .pulseTimeout
    ++ s.numberedBells.flatMap (fun b => whenDue (b.2.pulseOver s.now) (.pulseEnd b.1))
    ++ s.numberedBells.flatMap (fun b => whenDue (b.2.overdue s.now) (.returnLimit b.1))
    ++ s.numberedBells.flatMap (fun b => whenDue (b.2.recovered s.now) (.recoveryTime b.1))
    ++ whenDue (s.planner.queue.any fun e => crossed (some e.fireTime) old s.now) .fireTimeReached
    ++ (s.planner.queue.filter (·.expired s.now)).map (fun _ => .entryDrop)
    ++ whenDue (crossed s.horizonTime old s.now) .planningHorizonReached
    ++ whenDue (reached (s.engine.active.bind Context.feedDeadline) s.now) .feedDeadline
    ++ whenDue s.idleDue .idleLimit

/-- R1, R2: one crystal period passes. -/
def State.runPeriod (s : State) : State := { s with time := s.time.period }

/-- One crystal period passes and the clock events due are put on the queue. -/
def State.tick (s : State) : State :=
  { s.runPeriod with pending := s.runPeriod.dueCommands s.now }

end Sys2Proof.Machine
end

