-- ==== Sys2Proof/Machine/Dispatch.lean ====
section
/-! DEFINITION. Every command to its meaning. -/

namespace Sys2Proof.Machine

def exec (i : Instr) (s : State) : Host.Outcome State Fault Refusal :=
  match i with
  | .powerOn pins straps abortedAtCopyB => Sys2Proof.Machine.execPowerOn pins straps abortedAtCopyB s
  | .towerReset straps abortedAtCopyB => Sys2Proof.Machine.execTowerReset straps abortedAtCopyB s
  | .loadComplete => Sys2Proof.Machine.execLoadComplete s
  | .referencePulse => Sys2Proof.Machine.execReferencePulse s
  | .pulseTimeout => Sys2Proof.Machine.execPulseTimeout s
  | .normalAdvance => Sys2Proof.Machine.execNormalAdvance s
  | .setTime port body => Sys2Proof.Machine.execSetTime port body s
  | .broadcastSetTime body => Sys2Proof.Machine.execBroadcastSetTime body s
  | .readTime port body => Sys2Proof.Machine.execReadTime port body s
  | .book port body => Sys2Proof.Machine.execBook port body s
  | .amend port body => Sys2Proof.Machine.execAmend port body s
  | .withdraw port body => Sys2Proof.Machine.execWithdraw port body s
  | .lookUp port body => Sys2Proof.Machine.execLookUp port body s
  | .setCursor port body => Sys2Proof.Machine.execSetCursor port body s
  | .browse port body => Sys2Proof.Machine.execBrowse port body s
  | .nextDue port body => Sys2Proof.Machine.execNextDue port body s
  | .readOutcomes port body => Sys2Proof.Machine.execReadOutcomes port body s
  | .playNow port body => Sys2Proof.Machine.execPlayNow port body s
  | .halt port body => Sys2Proof.Machine.execHalt port body s
  | .performanceStatus port body => Sys2Proof.Machine.execPerformanceStatus port body s
  | .liveOpen port body => Sys2Proof.Machine.execLiveOpen port body s
  | .liveNotes port body => Sys2Proof.Machine.execLiveNotes port body s
  | .liveClose port body => Sys2Proof.Machine.execLiveClose port body s
  | .defineMelody port body => Sys2Proof.Machine.execDefineMelody port body s
  | .storeSegment port body => Sys2Proof.Machine.execStoreSegment port body s
  | .readSegment port body => Sys2Proof.Machine.execReadSegment port body s
  | .eraseMelody port body => Sys2Proof.Machine.execEraseMelody port body s
  | .melodyInfo port body => Sys2Proof.Machine.execMelodyInfo port body s
  | .setBell port body => Sys2Proof.Machine.execSetBell port body s
  | .bellStatus port body => Sys2Proof.Machine.execBellStatus port body s
  | .restoreBell port body => Sys2Proof.Machine.execRestoreBell port body s
  | .testStrike port body => Sys2Proof.Machine.execTestStrike port body s
  | .setDrive port body => Sys2Proof.Machine.execSetDrive port body s
  | .setProtection port body => Sys2Proof.Machine.execSetProtection port body s
  | .readNotices port body => Sys2Proof.Machine.execReadNotices port body s
  | .setNoticeMask port body => Sys2Proof.Machine.execSetNoticeMask port body s
  | .reset port body => Sys2Proof.Machine.execReset port body s
  | .resetTakesEffect straps abortedAtCopyB => Sys2Proof.Machine.execResetTakesEffect straps abortedAtCopyB s
  | .unknownRequest port code body => Sys2Proof.Machine.execUnknownRequest port code body s
  | .frameDiscard port bytes => Sys2Proof.Machine.execFrameDiscard port bytes s
  | .foreignFrame port bytes => Sys2Proof.Machine.execForeignFrame port bytes s
  | .frameGapTimeout port bytes => Sys2Proof.Machine.execFrameGapTimeout port bytes s
  | .answerTransmitStart port => Sys2Proof.Machine.execAnswerTransmitStart port s
  | .answerSent port => Sys2Proof.Machine.execAnswerSent port s
  | .keyChange on => Sys2Proof.Machine.execKeyChange on s
  | .hushAssert => Sys2Proof.Machine.execHushAssert s
  | .hushRelease => Sys2Proof.Machine.execHushRelease s
  | .driveReadyFall => Sys2Proof.Machine.execDriveReadyFall s
  | .driveReadyRise => Sys2Proof.Machine.execDriveReadyRise s
  | .bankMeasurement value => Sys2Proof.Machine.execBankMeasurement value s
  | .sensorOpens bell => Sys2Proof.Machine.execSensorOpens bell s
  | .sensorCloses bell => Sys2Proof.Machine.execSensorCloses bell s
  | .fireTimeReached => Sys2Proof.Machine.execFireTimeReached s
  | .pulseEnd bell => Sys2Proof.Machine.execPulseEnd bell s
  | .returnLimit bell => Sys2Proof.Machine.execReturnLimit bell s
  | .recoveryTime bell => Sys2Proof.Machine.execRecoveryTime bell s
  | .entryDrop => Sys2Proof.Machine.execEntryDrop s
  | .planningHorizonReached => Sys2Proof.Machine.execPlanningHorizonReached s
  | .feedDeadline => Sys2Proof.Machine.execFeedDeadline s
  | .idleLimit => Sys2Proof.Machine.execIdleLimit s
  | .storeCompletion result => Sys2Proof.Machine.execStoreCompletion result s
  | .suspendEnd => Sys2Proof.Machine.execSuspendEnd s
  | .segmentReadCompletion noise => Sys2Proof.Machine.execSegmentReadCompletion noise s

end Sys2Proof.Machine
end

