-- ==== Sys2Proof/Safety.lean ====
section
/-! DEFINITION. The terms the claims use: when a request reaches its owner, what an answer leaves, when the
engine is idle, and the bounds the manual promises. -/

namespace Sys2Proof

/-- The port, request code and body of an addressed request. -/
def Instr.request? : Instr → Option (Port × Byte × List Byte)
  | .book p b => some (p, 0x01, b)
  | .amend p b => some (p, 0x02, b)
  | .withdraw p b => some (p, 0x03, b)
  | .lookUp p b => some (p, 0x04, b)
  | .setCursor p b => some (p, 0x05, b)
  | .browse p b => some (p, 0x06, b)
  | .nextDue p b => some (p, 0x07, b)
  | .readOutcomes p b => some (p, 0x08, b)
  | .playNow p b => some (p, 0x09, b)
  | .halt p b => some (p, 0x0A, b)
  | .performanceStatus p b => some (p, 0x0B, b)
  | .liveOpen p b => some (p, 0x0C, b)
  | .liveNotes p b => some (p, 0x0D, b)
  | .liveClose p b => some (p, 0x0E, b)
  | .defineMelody p b => some (p, 0x0F, b)
  | .storeSegment p b => some (p, 0x10, b)
  | .readSegment p b => some (p, 0x11, b)
  | .eraseMelody p b => some (p, 0x12, b)
  | .melodyInfo p b => some (p, 0x13, b)
  | .setBell p b => some (p, 0x14, b)
  | .bellStatus p b => some (p, 0x15, b)
  | .restoreBell p b => some (p, 0x16, b)
  | .testStrike p b => some (p, 0x17, b)
  | .setDrive p b => some (p, 0x18, b)
  | .setProtection p b => some (p, 0x19, b)
  | .setTime p b => some (p, 0x1A, b)
  | .readTime p b => some (p, 0x1B, b)
  | .readNotices p b => some (p, 0x1C, b)
  | .setNoticeMask p b => some (p, 0x1D, b)
  | .reset p b => some (p, 0x1E, b)
  | .unknownRequest p code b => some (p, code, b)
  | .powerOn .. | .towerReset .. | .loadComplete | .referencePulse | .pulseTimeout | .normalAdvance
  | .broadcastSetTime _ | .resetTakesEffect .. | .frameDiscard .. | .foreignFrame ..
  | .frameGapTimeout .. | .answerTransmitStart _ | .answerSent _ | .keyChange _ | .hushAssert
  | .hushRelease | .driveReadyFall | .driveReadyRise | .bankMeasurement _ | .sensorOpens _
  | .sensorCloses _ | .fireTimeReached | .pulseEnd _ | .returnLimit _ | .recoveryTime _ | .entryDrop
  | .planningHorizonReached | .feedDeadline | .idleLimit | .storeCompletion _ | .suspendEnd
  | .segmentReadCompletion _ => none

end Sys2Proof

namespace Sys2Proof.Machine

/-! ## Requests and answers -/

/-- A port is free for a request: it hears, holds no bytes of an open frame or run, its busy slot is empty
and it has no request outstanding (R180, R182). -/
def State.portFree (s : State) (p : Port) : Bool :=
  !s.deaf p && (s.port p).rx.isEmpty && !(s.port p).busySlot && !(s.port p).outstanding

/-- A request of a code and body length on a port reaches its owner: the port is free for it, and the Link
Interface's own checks pass (R180, R182, R184). -/
def State.takes (s : State) (p : Port) (code : Byte) (len : Nat) : Bool :=
  s.portFree p && s.gate p code len == none

/-- The port and the state after a request has been taken: hunting again, the flag set (R182). -/
def State.taken (s : State) (p : Port) : State :=
  s.modPort p fun q => { q with rx := [], outstanding := true }

/-- The state after a request has been taken and answered at once, nothing else changed (R182, R183). -/
def State.answered (s : State) (p : Port) (code : Byte) (a : AnswerCode) (body : List Byte) : State :=
  s.modPort p fun q => { q with rx := [], outstanding := true, ready := q.ready ++ [⟨a, code, body⟩] }

/-- The state after a request has been taken and its store operation begun; the answer waits (R169). -/
def State.accepted (s : State) (p : Port) (job : StoreJob) : State :=
  { s.taken p with store := s.store.accept job p }

/-! ## An idle engine -/

/-- No context exists and no booking waits. -/
def State.engineIdle (s : State) : Bool :=
  s.engine.active == none && s.engine.stack.isEmpty && s.engine.waiting.isEmpty

/-- Nothing plays, waits or is planned: an event of the drive unit has no strike to fire and no
performance to move on. -/
def State.quiet (s : State) : Bool := s.engineIdle && s.planner.queue.isEmpty

/-- The state after a counted discard or stray run on a port, nothing else changed (R180). -/
def State.discarded (s : State) (p : Port) : State :=
  (s.modPort p fun q => { q with errors := min 65535 (q.errors + 1) }).raise .link

/-- Whether a frame that ends on a port is received: no RESET is pending and the port is not driving the
pair (R178, R186). -/
def State.receives (s : State) (p : Port) : Bool := !s.links.resetPending && !s.closed p

/-! ## Bounds -/

/-- R127: no more coils are energised than the K in force. -/
def State.coilsWithinLimit (s : State) : Bool := s.drive.energised ≤ s.drive.k

/-- R127: the energised count is the number of bells DRIVEN. -/
def State.coilsCounted (s : State) : Bool :=
  s.drive.energised == s.drive.bells.countP fun b => b.state == .driven

/-- The booking table and its places have their 96 slots, the waiting list holds at most 96 numbers of
slots without duplicates (R17, R51, R166), and the read queue at most 8 reads (R170). -/
def State.tablesSound (s : State) : Bool :=
  s.book.slots.length == Config.bookingSlots
    && s.store.places.bookings.length == Config.bookingSlots
    && decide s.engine.waiting.Nodup
    && s.engine.waiting.all (fun n => 1 ≤ n && n ≤ Config.bookingSlots)
    && s.engine.waiting.length ≤ Config.bookingSlots
    && s.store.reads.length ≤ Config.readQueueMax

/-- The lists that the manual bounds hold no more than it allows: the strike queue (R98), the preemption
stack (R50), the orphan list (R32), the pulse history and the valid count (R5), the stream queue (R139), and the
receive buffers, each of fewer bytes than a frame with the longest body has (R179). -/
def State.withinCapacity (s : State) : Bool :=
  s.planner.queue.length ≤ Config.strikeQueueMax
    && s.engine.stack.length ≤ Config.stackMax
    && s.book.orphans.length ≤ Config.orphanMax
    && s.time.history.length ≤ Config.historyMax
    && s.time.count ≤ 3
    && (match s.live with
        | none => true
        | some l => l.queue.length ≤ Config.streamQueueMax)
    && s.links.main.rx.length < Config.bodyMax + 7
    && s.links.service.rx.length < Config.bodyMax + 7

/-- The ranks of the active context and of the stacked contexts, top to bottom. -/
def Engine.ranks (e : Engine) : List Nat := (e.active.toList ++ e.stack).map Context.rank

/-- R50: from the active context down the stack the ranks strictly decrease. -/
def State.ranksOrdered (s : State) : Prop := s.engine.ranks.Pairwise (· > ·)

/-- The store's protection copies give record `r`, no operation in hand writes them, and outside the
start-up load `r` is in force (R160, R163). -/
def State.protectedBy (r : ProtectionRecord) (s : State) : Prop :=
  (chooseProtection s.store.places.copyA s.store.places.copyB).1 = r
    ∧ (s.store.loading = false → s.library.protection = r)
    ∧ ∀ op, s.store.op = some op → ∀ x, op.job ≠ .setProtection x

/-- A booking that has fallen due for an occurrence, `waited` seconds of its patience gone (R25, R34). -/
def Booking.fallenDue (b b' : Booking) (occurrence waited : Nat) : Prop :=
  b'.record = b.record ∧ b'.state = .due ∧ b'.current = some occurrence ∧ b'.waiting = some waited

/-- What the disposal of booking `n`, which stood as `b`, leaves: the outcome with the booking that goes on,
or in the orphan list when a NOW or LIVE booking goes (R30, R31). -/
def State.disposed (t : State) (n : Nat) (b : Booking) (o : OutcomeRecord) : Prop :=
  t.notices.flags.outcome = true ∧
  (b.record.kind.immediate = false → ∃ b', t.booking? n = some b' ∧ b'.unread = true ∧
    b'.busy = false ∧ b'.lastOutcome = some o) ∧
  (b.record.kind.immediate = true → t.booking? n = none ∧
    t.book.orphans.getLast? = some ⟨n, b.record.kind, o⟩)

/-- What falling due at once, for the calendar second in force, does with booking `n` and its record (R23, R25,
R52, R53, R55). Under HUSH, or against an active context it does not outrank, it is DUE and waits; with an idle
engine, the drive ready and a playable melody it starts. -/
def State.fellDueAtOnce (s t : State) (n : Nat) (r : BookingRecord) : Prop :=
  ((s.drive.hush = true ∨ ∃ c, s.engine.active = some c ∧ (r.rank ≤ c.rank ∨ r.cls = .wait)) →
    s.engine.waiting = [] → t.engine = { s.engine with waiting := [n] } ∧
    ∃ b, t.booking? n = some b ∧ b.record = r ∧ b.state = .due ∧ b.current = some s.time.second ∧
      b.waiting = some 0) ∧
  (∀ m h, s.drive.hush = false → s.store.loading = false → s.engineIdle = true → s.drive.ready = true →
    r.melody = some m → (s.melody m).state = .complete → (s.melody m).damaged = false →
    (s.melody m).known? = some h →
    ∃ c b, t.engine = ⟨some c, [], []⟩ ∧ c.booking = n ∧ c.occurrence = some s.time.second ∧
      c.mode = .playing ∧ c.originTime = s.time.clock + 500000 ∧ t.booking? n = some b ∧ b.record = r ∧
      b.state = .sounding ∧ b.current = some s.time.second ∧ b.waiting = none)

/-- Booking `n`, DUE and waiting, now stands as `b` and has its place in the waiting list by R51: rank, then
current occurrence or creation second, then number. -/
def State.rePlaced (s t : State) (n : Nat) (b : Booking) : Prop :=
  t.book = s.book.setSlot n (.occupied b) ∧
  ∃ w, t.engine = { s.engine with waiting := w } ∧ w.Perm s.engine.waiting ∧
    w.Pairwise fun i j => ∀ x y, t.booking? i = some x → t.booking? j = some y →
      y.record.rank < x.record.rank ∨ (x.record.rank = y.record.rank ∧
        (x.orderSecond < y.orderSecond ∨ (x.orderSecond = y.orderSecond ∧ i ≤ j)))

/-- What the withdrawal of booking `n`, which stood as `b` and was DUE, SOUNDING or SUSPENDED, leaves when it
takes effect (R42, R63): DUE it leaves the waiting list without an outcome; at play, with nothing else to play,
or stacked, it ends CUT, WITHDRAWN, the outcome in the orphan list. -/
def State.withdrawn (s t : State) (n : Nat) (b : Booking) : Prop :=
  let orphaned (c : Context) : Prop := t.notices.flags.outcome = true ∧
    t.book.orphans.getLast? = some ⟨n, b.record.kind, ⟨.cut, some .withdrawn, b.current, c.counts⟩⟩
  (b.state = .due → t.booking? n = none ∧ t.book = s.book.setSlot n .free ∧
    t.engine = { s.engine with waiting := s.engine.waiting.filter (· != n) } ∧ t.notices = s.notices) ∧
  (∀ c, b.state = .sounding → s.engine.active = some c → c.booking = n → s.engine.stack = [] →
    s.engine.waiting = [] → t.booking? n = none ∧ t.engine = ⟨none, [], []⟩ ∧ orphaned c ∧
    (∀ l, s.live = some l → l.booking = n → t.live = none) ∧
    ∀ e, e ∈ t.planner.queue ↔ e ∈ s.planner.queue ∧ e.owner ≠ .booking n) ∧
  (∀ above c below, b.state = .suspended → s.engine.stack = above ++ c :: below → c.booking = n →
    (∀ x ∈ above ++ below, x.booking ≠ n) →
    t.booking? n = none ∧ t.engine = { s.engine with stack := above ++ below } ∧ orphaned c ∧
      t.planner = s.planner)

/-- No strike entry of a booking's performance is in the queue. -/
def State.ownsNothing (s : State) (n : Nat) : Prop := ∀ e ∈ s.planner.queue, e.owner ≠ .booking n

/-! ## A Score Player with nothing to do (R82, R83, R89, R143) -/

/-- An event due at `due` is held back: it lies beyond the planning horizon, or the strike queue is full and no
test hand-over of this instant filled it (R82, R83; log 55). -/
def State.heldBack (s : State) (due : Nat) : Prop :=
  s.time.clock + 400000 < due ∨ (48 ≤ s.planner.queue.length ∧ s.planner.testFilled ≠ some s.time.clock)

/-- Nothing is to be done for a performance at play until some event comes: what its Score Player has before it is
not delivered yet or is held back, the stop point is not reached, and the performance is not at its end. -/
def State.rests (s : State) : Prop :=
  ∀ c, s.engine.active = some c → c.mode = .playing →
    let due (delta : Nat) := c.originTime + (c.pos.tick + delta - c.originTick) * (1250000 / c.tempoNow)
    (c.melodyKind ≠ none → s.player.done ≠ none → ¬ s.ownsNothing c.booking) ∧
    (c.melodyKind = some .score → s.player.done = none →
      s.player.stopPoint ≠ some (c.repeatNo, c.pos.segment, c.pos.event) ∧ (∀ k, s.player.cur ≠ .failed k) ∧
      ∀ g e, s.player.cur = .held g → g.events[c.pos.event]? = some e → s.heldBack (due e.delta)) ∧
    (c.melodyKind = some .toll → s.player.done = none →
      ∀ slot h pitch strength interval mode, c.melody = some slot → (s.melody slot).known? = some h →
        h.shape = .toll pitch strength interval mode →
        s.heldBack (c.originTime + (c.pos.number - c.originTick) * (interval * 1000))) ∧
    (c.melodyKind = none → ∀ l, s.live = some l →
      (l.mode = .opened ∨ (l.mode = .closing ∧ l.queue ≠ []) ∨ ¬ s.ownsNothing c.booking) ∧
      (l.mode ≠ .stopped → ∀ e, l.queue.head? = some e → s.heldBack (due e.delta)))

/-- A HALT target that names the active context `c` and no other one (section 3.7). -/
def State.haltsOnly (s : State) (target : HaltTarget) (c : Context) : Prop :=
  target = .active ∨ (target = .all ∧ s.engine.stack = []) ∨
    (target = .booking c.booking ∧ ∀ x ∈ s.engine.stack, x.booking ≠ c.booking)

/-! ## What a note's hand-over makes (R100, R108, R110) -/

/-- The entry the planner makes of a hand-over that finds room in the queue; none when the note is lost:
unmapped, on a bell OFF or FAULTED, or by the restrike or lateness check. -/
def State.entryMade (s : State) (h : HandOver) : Option StrikeEntry :=
  match h.bell with
  | none => none
  | some b =>
    if (s.bell b).state = .off ∨ (s.bell b).state = .faulted then none
    else planEntry (s.bell b).record s.drive.level (s.busyUntil b) s.time.clock b h

/-- The mark of a bell that a fault or a SET BELL takes out of use now (R100, stage 2; log 62): the instant and the
pitch it carried; the mark it had, where it was out of use or a full queue stalls the Score Player. -/
def State.goneMark (s : State) (x : Bell) : Option (Nat × Nat) :=
  if x.state = .off ∨ x.state = .faulted ∨
      (48 ≤ s.planner.queue.length ∧ s.planner.testFilled ≠ some s.time.clock) then x.wentOut
  else some (s.time.clock, x.record.pitch)

/-- The planner after a note of the Score Player: its entry in the queue and the restrike bound of its bell
moved past it; as it was when the note is lost. The mark of log 55 is gone. -/
def State.plannerWith (s : State) : Option StrikeEntry → Planner
  | none => { s.planner with testFilled := none }
  | some x => { s.planner with
      testFilled := none
      queue := insertEntry x s.planner.queue
      busyUntil := s.planner.busyUntil.set x.bell (some (x.fireTime + 1000 * (s.bell x.bell).record.h)) }

/-- The counts of a context after a note: substituted and lost each charged once (R110). -/
def StrikeCounts.charged (c : StrikeCounts) (substituted lost : Bool) : StrikeCounts :=
  { c with
    substituted := if substituted then min 65535 (c.substituted + 1) else c.substituted
    lost := if lost then min 65535 (c.lost + 1) else c.lost }

/-! ## What a strike does at its fire, and an entry at its removal (R105, R110, R113–R115, R122, R127, R131) -/

/-- The state with the counts of the performance that owns an entry or a removal changed; another owner, and TEST,
is charged nothing (R110). -/
def State.countsOf (s : State) (owner : Owner) (f : StrikeCounts → StrikeCounts) : State :=
  s.modActive fun c => if owner = .booking c.booking then { c with counts := f c.counts } else c

/-- The state after entry `e` has fired now (R129): its bell is DRIVEN with its cycle values captured and counts a
strike, one more coil is energised, the entry leaves, its performance is charged fired, and late by the lateness it
has now; last fire time and restrike bound move (R105). -/
def State.afterFire (s : State) (e : StrikeEntry) : State :=
  let now := s.time.clock
  let late : Bool := 20000 < now - (e.fireTime - e.lateness)
  let s1 : State := s.countsOf e.owner fun n => { n with
    fired := min 65535 (n.fired + 1), late := if late then min 65535 (n.late + 1) else n.late }
  let s2 : State := { s1 with
    drive := { s.drive with energised := s.drive.energised + 1 }
    planner := { s.planner with
      queue := s.planner.queue.erase e
      lastFire := s.planner.lastFire.set e.bell (some now)
      busyUntil := s.planner.busyUntil.set e.bell
        (some (max ((s.busyUntil e.bell).getD 0) (now + 1000 * (s.bell e.bell).record.h))) } }
  s2.modBell e.bell fun x => { x with
    state := .driven, strikes := min 4294967295 (x.strikes + 1)
    cycle := some {
      a := now, width := e.width, h := x.record.h, r := x.record.r, sensor := x.record.sensor
      seenOpen := x.record.sensor && x.sensorOpen, returnLimit := none } }

/-- The state after every unfired entry of bell `b` has left (R113): each is charged lost to its performance, and
the restrike bound is the last fire time plus 1,000 × H, or absent (R115). -/
def State.bellCleared (s : State) (b : Nat) : State :=
  let gone := s.planner.queue.filter (·.bell == b)
  { s with
    planner := { s.planner with
      queue := s.planner.queue.filter (·.bell != b)
      busyUntil := s.planner.busyUntil.set b ((s.lastFire b).map (· + 1000 * (s.bell b).record.h)) }
    engine := { s.engine with
      active := s.engine.active.map fun c =>
        let own := (gone.filter fun e => e.owner = .booking c.booking).length
        if own = 0 then c else { c with counts := { c.counts with lost := min 65535 (c.counts.lost + own) } } } }

/-- The state after a coil has turned off: its slot is freed, and a waiting lower K takes force when the energised
count has fallen to it (R123, R127, R131). -/
def State.coilFreed (s : State) : State :=
  let left := s.drive.energised - 1
  { s with drive := { s.drive with
      energised := left
      k := match s.drive.requestedK with
        | some k => if left ≤ k then k else s.drive.k
        | none => s.drive.k
      requestedK := match s.drive.requestedK with
        | some k => if left ≤ k then none else some k
        | none => none } }

/-- No booking that waits is to be judged but to wait on: HUSH or the load holds the engine, or each is of class
WAIT or of no greater rank than the active context (R52, R53, R68, R74). -/
def State.allWait (s : State) : Prop :=
  s.drive.hush = true ∨ s.store.loading = true ∨ s.engine.waiting = [] ∨
    ∃ c, s.engine.active = some c ∧ ∀ k ∈ s.engine.waiting, ∃ x, s.booking? k = some x ∧
      (x.record.rank ≤ c.rank ∨ x.record.cls = .wait)

/-! ## What store work leaves in the places (R166, R172, R174) -/

/-- The places a cut operation leaves (R174): a record's place or the copy being written fails its check, a
segment's place holds bytes the manual does not give, a slot being erased keeps its erase-begun marker. -/
def StoreJob.cutLeaves (job : StoreJob) (atB : Bool) (old new : Places) : Prop :=
  match job with
  | .book n _ => new = { old with bookings := old.bookings.modify (n - 1) ({ · with content := .failing }) }
  | .amend n _ => new = { old with bookings := old.bookings.modify (n - 1) ({ · with content := .failing }) }
  | .withdraw n => new = { old with bookings := old.bookings.modify (n - 1) ({ · with content := .failing }) }
  | .setBell b _ => new = { old with bells := old.bells.modify b ({ · with content := .failing }) }
  | .setDrive _ => new = { old with drive := { old.drive with content := .failing } }
  | .setProtection r =>
    new = if atB then { old with copyA := .whole r, copyB := .failing } else { old with copyA := .failing }
  | .define m _ => new = { old with headers := old.headers.modify m ({ · with content := .failing }) }
  | .segment m i _ => ∃ bytes, new = { old with segments := setAt2 old.segments m i (.spoiled bytes) }
  | .erase _ => new = old

/-- The places a verify failure leaves (R172): as a cut operation does, with the failed-program marker of a
record's place set; a slot whose erase failed keeps its erase-begun marker (R166). -/
def StoreJob.failureLeaves (job : StoreJob) (atB : Bool) (old new : Places) : Prop :=
  match job with
  | .book n _ => new = { old with bookings := old.bookings.set (n - 1) ⟨.failing, true⟩ }
  | .amend n _ => new = { old with bookings := old.bookings.set (n - 1) ⟨.failing, true⟩ }
  | .withdraw n => new = { old with bookings := old.bookings.set (n - 1) ⟨.failing, true⟩ }
  | .setBell b _ => new = { old with bells := old.bells.set b ⟨.failing, true⟩ }
  | .setDrive _ => new = { old with drive := ⟨.failing, true⟩ }
  | .setProtection r =>
    new = if atB then { old with copyA := .whole r, copyB := .failing } else { old with copyA := .failing }
  | .define m _ => new = { old with headers := old.headers.set m ⟨.failing, true⟩ }
  | .segment m i _ => ∃ bytes, new = { old with segments := setAt2 old.segments m i (.spoiled bytes) }
  | .erase _ => new = old

/-- A place that the load discards (R176): it holds a record, and its check fails or its failed-program
marker is set. -/
def Place.discarded {α : Type} (p : Place α) : Prop :=
  p.content = .failing ∨ (p.content ≠ .empty ∧ p.failedProgram = true)

/-- A place that gives the load no record: empty, or discarded (R166, R176). -/
def Place.givesNothing {α : Type} (p : Place α) : Prop :=
  p.content = .empty ∨ p.content = .failing ∨ p.failedProgram = true

/-- The melody slot a store job programs or erases. -/
def StoreJob.melodySlot? : StoreJob → Option Nat
  | .define m _ => some m
  | .segment m _ _ => some m
  | .erase m => some m
  | .book .. | .amend .. | .withdraw _ | .setBell .. | .setDrive _ | .setProtection _ => none

end Sys2Proof.Machine
end

