-- ==== Sys2Proof/Certificates/Slice0/Obligations.lean ====
section
/-! DEFINITION. The statements for the provers. Requests are stated where they reach their owner
(`State.takes`, R182 and R184); `State.answered` and `State.accepted` leave everything but the port and
the store's operation as it was, so an equation with one of them states the frame too. -/

open Sys2Proof Sys2Proof.Machine

/-! ## The step and the clock -/

/-- The model's choice (logs 1, 31): commands wait in a queue that the model keeps, and one step with a
command at its front is that command on the queue's rest. -/
def Obligations.StepRunsTheFrontCommand : Prop :=
  ∀ (c : Instr) (rest : List Instr) (s : State), s.pending = c :: rest →
    step s = exec c { s with pending := rest }

/-- The model's choice (logs 1, 3, 5, 52): a step on an empty queue is one period of the 32,768 Hz crystal (R1).
It moves the two clocks and puts the timer commands that fell due on the queue, as `State.dueCommands` lists
them; nothing else changes. -/
def Obligations.EmptyQueuePassesOnePeriod : Prop :=
  ∀ s : State, s.pending = [] → ∃ t, step s = .next t ∧
    t.time.clock * 512 + t.time.clockFrac = s.time.clock * 512 + s.time.clockFrac + 15625 ∧
    t.time.clockFrac < 512 ∧
    { t with time := s.time, pending := [] } = s ∧
    { t.time with
      clock := s.time.clock, clockFrac := s.time.clockFrac, sub := s.time.sub
      subFrac := s.time.subFrac, slew := s.time.slew, slewAcc := s.time.slewAcc } = s.time ∧
    t.pending = s.runPeriod.dueCommands s.time.clock ∧
    (Instr.normalAdvance ∈ t.pending ↔ 1000000 ≤ t.time.sub) ∧
    (Instr.pulseTimeout ∈ t.pending ↔ ∃ d, s.time.timeout = some d ∧ d ≤ t.time.clock) ∧
    (Instr.feedDeadline ∈ t.pending ↔
      ∃ c d, s.engine.active = some c ∧ c.feedDeadline = some d ∧ d ≤ t.time.clock) ∧
    (∀ b : Fin 64, Instr.pulseEnd b ∈ t.pending ↔ (s.bell b).state = .driven ∧
      ∃ c, (s.bell b).cycle = some c ∧ c.a + c.width ≤ t.time.clock) ∧
    (Instr.fireTimeReached ∈ t.pending ↔
      ∃ e ∈ s.planner.queue, s.time.clock < e.fireTime ∧ e.fireTime ≤ t.time.clock)

/-- The model's choice (logs 31, 34): the manual names no stop, so every command of the table answers a next
state; and no command touches the queue of the commands that wait behind it. -/
def Obligations.EveryCommandCompletes : Prop :=
  ∀ (c : Instr) (s : State), ∃ t, exec c s = .next t ∧ t.pending = s.pending

/-- R1, R2: after n periods of the crystal from zero the performance clock holds n × 1,000,000 / 32,768 µs,
whole microseconds: no error builds up. With no slew pending the sub-second count meanwhile runs at
1 + c / 10,000,000 µs for each µs of the performance clock, the fraction carried; the calendar second and
the correction are not touched. A pending slew goes into that count, µs for µs, and shrinks toward 0: one
µs for each 499 µs of the corrected time when it adds to the local time and for each 501 when it takes from
it, which is one in 500 of local time; that it is applied in whole µs is the model's choice (log 4). -/
def Obligations.ClocksRunExactly : Prop :=
  (∀ (n : Nat) (t : TowerTime), t.clock = 0 → t.clockFrac = 0 →
    (Nat.iterate TowerTime.period n t).clock = n * 1000000 / 32768) ∧
  (∀ (n : Nat) (t : TowerTime), t.slew = 0 → -2000 ≤ t.correction → t.correction ≤ 2000 →
    let u := Nat.iterate TowerTime.period n t
    (u.sub : Int) * 10000000 + u.subFrac
        = (t.sub : Int) * 10000000 + t.subFrac + ((u.clock : Int) - t.clock) * (10000000 + t.correction)
      ∧ (1 ≤ n → u.subFrac < 10000000) ∧ u.slew = 0 ∧ u.second = t.second ∧ u.correction = t.correction) ∧
  (∀ (n : Nat) (t : TowerTime), -2000 ≤ t.correction → t.correction ≤ 2000 → t.subFrac < 10000000 →
    t.slewAcc < (if 0 ≤ t.slew then 499 else 501) →
    let u := Nat.iterate TowerTime.period n t
    let corrected := (t.subFrac + (u.clock - t.clock) * (10000000 + t.correction).toNat) / 10000000
    u.sub + u.slew = t.sub + t.slew + corrected ∧
    (0 ≤ t.slew → u.slew = max 0 (t.slew - ((t.slewAcc + corrected) / 499 : Nat))) ∧
    (t.slew < 0 → u.slew = min 0 (t.slew + ((t.slewAcc + corrected) / 501 : Nat))) ∧
    u.second = t.second ∧ u.correction = t.correction)

/-- Commands act at the clock as it stands (log 1): no command but POWER_ON, which starts the
performance clock from 0, changes it (R1). -/
def Obligations.OnlyPowerOnSetsTheClock : Prop :=
  ∀ (c : Instr) (s t : State), exec c s = .next t →
    (t.time.clock = s.time.clock ∧ t.time.clockFrac = s.time.clockFrac) ∨
      ((∃ pins straps b, c = .powerOn pins straps b) ∧ t.time.clock = 0 ∧ t.time.clockFrac = 0)

/-! ## Invariants of the whole part -/

/-- The invariants below hold right after power-on: in `State.reset`, whose lines, straps and store contents,
which the manual does not give, are the model's choice (log 8). -/
def Obligations.BoundsHoldAtReset : Prop :=
  State.reset.coilsWithinLimit = true ∧ State.reset.withinCapacity = true ∧ State.reset.ranksOrdered ∧
    State.reset.coilsCounted = true ∧ State.reset.tablesSound = true

/-- R127: whatever step is taken, the energised coils never exceed the K in force, and the energised count
stays the number of bells DRIVEN. -/
def Obligations.CoilLimitIsKept : Prop :=
  (∀ s t : State, s.coilsWithinLimit = true → step s = .next t → t.coilsWithinLimit = true) ∧
  (∀ s t : State, s.coilsCounted = true → step s = .next t → t.coilsCounted = true)

/-- R5, R32, R50, R51, R98, R139, R170, R179: every step keeps the bounded lists within their bounds: 48 strike
entries, 3 suspended contexts, 8 orphan outcomes, 16 interval errors, a valid count of 3, 32 live events, and in
each receive buffer fewer bytes than a frame of 1,040 body bytes has; and 96 waiting numbers of slots without
duplicates and 8 reads, with the 96 slots and booking places. -/
def Obligations.CapacitiesAreKept : Prop :=
  (∀ s t : State, s.withinCapacity = true → step s = .next t → t.withinCapacity = true) ∧
  (∀ s t : State, s.tablesSound = true → step s = .next t → t.tablesSound = true)

/-- R50: from the active context down the stack the ranks strictly decrease, and every step keeps it so. -/
def Obligations.RankOrderIsKept : Prop :=
  ∀ s t : State, s.ranksOrdered → step s = .next t → t.ranksOrdered

/-- R160: once the protection record in force is PERMANENT, neither its mode nor its guard ever changes,
across every step, power-on and resets with their loads included. -/
def Obligations.PermanentIsForEver : Prop :=
  ∀ (r : ProtectionRecord) (s t : State), r.mode = .permanent → s.protectedBy r → step s = .next t →
    t.protectedBy r

/-- R128: while HUSH is asserted, DRIVE READY is low or the bank is CRITICAL, before and after a command,
no coil is energised and no bell is struck by it. -/
def Obligations.ClosedArbiterFiresNothing : Prop :=
  ∀ (c : Instr) (s t : State), exec c s = .next t → s.drive.arbiterOpen = false →
    t.drive.arbiterOpen = false →
    t.drive.energised ≤ s.drive.energised ∧ ∀ b, (t.bell b).strikes ≤ (s.bell b).strikes

/-- R159: no command starts a program or erase of a melody slot that is guarded as the command is taken. Guarded
are the slots of the base range, or with the complement set those outside it: the lowest n slots with side LOW, the
highest n with side HIGH, n being 0, 8, 16, 32 or 64. -/
def Obligations.GuardedSlotsAreNeverWritten : Prop :=
  (∀ (c : Instr) (s t : State) (op : StoreOp) (m : Nat), exec c s = .next t → t.store.op = some op →
    (∀ old, s.store.op = some old → old.job ≠ op.job) → op.job.melodySlot? = some m →
    s.guarded m = false) ∧
  (∀ (s : State) (m : Nat), m < 64 →
    let g := s.library.protection.guard
    let n := match g.extent with
      | .none => 0
      | .eighth => 8
      | .quarter => 16
      | .half => 32
      | .all => 64
    let inBase : Prop := (g.high = false ∧ m < n) ∨ (g.high = true ∧ 64 - n ≤ m)
    (g.complement = false → (s.guarded m = true ↔ inBase)) ∧
    (g.complement = true → (s.guarded m = true ↔ ¬ inBase)))

/-! ## The links -/

/-- Section 12.2, R179–R184: the bytes of a request frame, given to a hunting port, do exactly what the
request's own command does: every request code, every body that fits a frame. On the main port the
frame carries the port's own address, on the service port 255. That FOREIGN_FRAME carries the bytes of a
request, and a request row stands for a whole frame, is the model's choice (log 33). -/
def Obligations.RequestBytesAreTheRequest : Prop :=
  ∀ (i : Instr) (p : Port) (code : Byte) (body : List Byte) (address : Nat) (s : State),
    i.wellFormed = true → i.request? = some (p, code, body) →
    s.receives p = true → (s.port p).rx = [] →
    (p = .service → address = 255) →
    (p = .main → address = s.links.address ∧ 1 ≤ address ∧ address ≤ 31) →
    exec (.foreignFrame p (requestFrame address code body)) s = exec i s

/-- R184: a request that finds its port free is judged in this order: STARTING during the load,
UNKNOWN_REQUEST for a code outside the catalogue, BAD_FIELD for a length its layout does not allow,
PRIVILEGE for SET PROTECTION and RESET on the main port; the answer is all that happens. -/
def Obligations.LinkChecksAnswerInOrder : Prop :=
  ∀ (i : Instr) (p : Port) (code : Byte) (body : List Byte) (s : State),
    i.request? = some (p, code, body) → s.portFree p = true →
    (s.store.loading = true → exec i s = .next (s.answered p code .starting [])) ∧
    (s.store.loading = false → knownCode code = false →
      exec i s = .next (s.answered p code .unknownRequest [])) ∧
    (s.store.loading = false → knownCode code = true → lengthAllowed code.toNat body.length = false →
      exec i s = .next (s.answered p code .badField [])) ∧
    (s.store.loading = false → lengthAllowed code.toNat body.length = true → p = .main →
      (code = 0x19 ∨ code = 0x1E) → exec i s = .next (s.answered p code .privilege []))

/-- R180, R182: a request that finds the port's request outstanding and the busy slot empty is answered
PORT_BUSY from that slot; one that finds the slot occupied is discarded and counted, whether a request is
outstanding or not. Nothing else changes. -/
def Obligations.BusyPortAnswersOnce : Prop :=
  ∀ (i : Instr) (p : Port) (code : Byte) (body : List Byte) (s : State),
    i.request? = some (p, code, body) → s.deaf p = false → (s.port p).rx = [] →
    ((s.port p).busySlot = false → (s.port p).outstanding = true →
      exec i s = .next (s.modPort p fun q =>
        { q with busySlot := true, ready := q.ready ++ [⟨.portBusy, code, []⟩] })) ∧
    ((s.port p).busySlot = true → exec i s = .next (s.discarded p))

/-- R179, R180. FRAME_DISCARD: a complete request frame whose CRC does not match, one on the service port that does
not name 255, or a broadcast that is no SET TIME, is counted and raises LINK. FOREIGN_FRAME: a sound frame for
another station and an answer frame passing change nothing. FRAME_GAP_TIMEOUT: the gap after an open frame, a stray
run or a frame out of range counts it once, whatever bytes it holds; what comes before the gap in a stray run or a
frame out of range is dropped; an idle line counts nothing. A request or broadcast command that finds bytes waiting
ends them by a gap first. The model's readings: a stray run counts once (log 25), a main port without an address
counts (log 32), an answer frame cut short is an open frame (log 41), an out-of-range frame counts at its gap (log
47), a command that finds bytes waiting was preceded by a gap (log 50). -/
def Obligations.FramesNotTakenAreCounted : Prop :=
  (∀ (p : Port) (bytes : List Byte) (s : State), s.receives p = true → (s.port p).rx = [] →
    scan bytes = .request bytes.length →
    ((readFrame bytes).sound = false ∨
      (p = .service ∧ (readFrame bytes).address ≠ 255) ∨
      (p = .main ∧ (readFrame bytes).address = 0 ∧ (readFrame bytes).code ≠ 0x1A)) →
    exec (.frameDiscard p bytes) s = .next (s.discarded p)) ∧
  (∀ (bytes : List Byte) (s : State), s.receives .main = true → s.links.main.rx = [] →
    (scan bytes = .passing bytes.length ∨
      (scan bytes = .request bytes.length ∧ (readFrame bytes).sound = true ∧
        (readFrame bytes).address ≠ 0 ∧ (readFrame bytes).address ≠ s.links.address)) →
    exec (.foreignFrame .main bytes) s = .next s) ∧
  (∀ (p : Port) (bytes : List Byte) (s : State), s.receives p = true → (s.port p).rx = [] →
    bytes ≠ [] → (∀ n, scan bytes ≠ .request n ∧ scan bytes ≠ .passing n) →
    exec (.frameGapTimeout p bytes) s = .next (s.discarded p)) ∧
  (∀ (p : Port) (s : State), s.receives p = true → (s.port p).rx = [] →
    exec (.frameGapTimeout p []) s = .next s) ∧
  (∀ (p : Port) (bytes more : List Byte) (s : State), s.receives p = true → (s.port p).rx = [] →
    (scan bytes = .stray ∨ scan bytes = .outOfRange) →
    ∃ rx, rx ≠ [] ∧ rx.length ≤ 4 ∧
      let t := s.modPort p fun q => { q with rx := rx }
      exec (.foreignFrame p bytes) s = .next t ∧ exec (.foreignFrame p more) t = .next t ∧
      exec (.frameGapTimeout p more) t = .next (s.discarded p)) ∧
  (∀ (i : Instr) (p : Port) (code : Byte) (body : List Byte) (s : State),
    i.request? = some (p, code, body) → s.deaf p = false → (s.port p).rx ≠ [] →
    exec i s = exec i ((s.modPort p fun q => { q with rx := [] }).discarded p)) ∧
  (∀ (body : List Byte) (s : State), s.receives .main = true → s.links.main.rx ≠ [] →
    exec (.broadcastSetTime body) s =
      exec (.broadcastSetTime body) ((s.modPort .main fun q => { q with rx := [] }).discarded .main))

/-- R182, R183: ANSWER_TRANSMIT_START sends the answer that became ready first, with the port's address
(the main port with its line quiet); ANSWER_SENT frees the busy slot after a PORT_BUSY and clears the
outstanding request after any other answer. -/
def Obligations.AnswersLeaveInOrder : Prop :=
  (∀ (p : Port) (a : Answer) (rest : List Answer) (s : State), (s.port p).ready = a :: rest →
    (s.port p).sending = none → (p = .main → (s.port p).rx = []) →
    exec (.answerTransmitStart p) s = .next (s.modPort p fun q =>
      { q with
        ready := rest
        sending := some ⟨a, a.frame (match p with | .main => s.links.address | .service => 255)⟩ })) ∧
  (∀ (p : Port) (t : Transmission) (s : State), (s.port p).sending = some t →
    exec (.answerSent p) s = .next (s.modPort p fun q =>
      { q with
        sending := none
        busySlot := if t.answer.code = .portBusy then false else q.busySlot
        outstanding := if t.answer.code = .portBusy then q.outstanding else false }))

/-! ## Resets and the load -/

/-- R4, R74, R116, R138, R162, R174, R175, R176, R187, R193: TOWER_RESET and POWER_ON empty every block and
begin the start-up load. TOWER_RESET keeps the Tower Time Unit, the lock flag and the line levels; POWER_ON
starts the time from its power-on values, clears the lock flag and takes the levels of the pins. Both keep
the load discard count, and the places of the store but for those that an operation at work was writing,
which are left as R174 has them. Every bell stands OFF from the reset to the end of the load (log 9), an
operation whose work has not begun leaves its place untouched (log 13), and a slot whose erase is cut keeps
its places and program-begun markers beside its own marker (logs 46, 53): the model's choices. -/
def Obligations.ResetsEmptyTheBlocks : Prop :=
  (∀ (straps : Straps) (b : Bool) (s : State), ∃ t, exec (.towerReset straps b) s = .next t ∧
    t.time = s.time ∧ t.library.lockFlag = s.library.lockFlag ∧ t.library.key = s.library.key ∧
    t.drive.ready = s.drive.ready ∧ t.drive.hush = s.drive.hush ∧
    t.drive.measurement = s.drive.measurement ∧
    (∀ n, (t.bell n).sensorOpen = (s.bell n).sensorOpen ∧ (t.bell n).state = .off) ∧
    t.notices = ⟨.none, .none, .towerReset⟩ ∧ t.links = .initial straps ∧ t.engine = .initial ∧
    t.planner = .initial ∧ t.player = .initial ∧ t.book = .initial ∧ t.live = none ∧
    t.drive.energised = 0 ∧ t.store.loading = true ∧ t.store.op = none ∧ t.store.reads = [] ∧
    t.store.state = .idle ∧ t.store.discards = s.store.discards ∧
    ((∀ op, s.store.op = some op → op.begun = false) → t.store.places = s.store.places) ∧
    (∀ job p, s.store.op = some ⟨job, p, true⟩ → job.cutLeaves b s.store.places t.store.places)) ∧
  (∀ (pins : Pins) (straps : Straps) (b : Bool) (s : State), ∃ t,
    exec (.powerOn pins straps b) s = .next t ∧
    t.time = .powerOn ∧ t.library.lockFlag = false ∧ t.library.key = pins.key ∧
    t.drive.ready = pins.driveReady ∧ t.drive.hush = pins.hush ∧
    t.drive.measurement = pins.measurement.toNat ∧
    (∀ n, n < 64 → (t.bell n).sensorOpen = pins.sensors.getLsbD n ∧ (t.bell n).state = .off) ∧
    t.notices = ⟨.none, .none, .powerOn⟩ ∧ t.links = .initial straps ∧ t.engine = .initial ∧
    t.planner = .initial ∧ t.player = .initial ∧ t.book = .initial ∧ t.live = none ∧
    t.drive.energised = 0 ∧ t.store.loading = true ∧ t.store.op = none ∧ t.store.reads = [] ∧
    t.store.state = .idle ∧ t.store.discards = s.store.discards ∧
    ((∀ op, s.store.op = some op → op.begun = false) → t.store.places = s.store.places) ∧
    (∀ job p, s.store.op = some ⟨job, p, true⟩ → job.cutLeaves b s.store.places t.store.places))

/-- R186: RESET on the service port is answered DONE and becomes pending; frames that end are then dropped
uncounted, whether a command's or their bytes', while a frame still open goes on being received and the main port
waits for it before it sends. What waited before a request's own frame was ended by a gap (log 50).
RESET_TAKES_EFFECT waits for the answers to leave and then does what TOWER_RESET does, with its own reset cause.
That the command given before the answers have left, or with no RESET pending, changes nothing is the model's choice
(log 3). -/
def Obligations.ResetRequestWaitsForAnswers : Prop :=
  (∀ s : State, s.takes .service 0x1E 0 = true →
    exec (.reset .service []) s = .next { s.answered .service 0x1E .done [] with
      links := { (s.answered .service 0x1E .done []).links with resetPending := true } }) ∧
  (∀ (i : Instr) (p : Port) (code : Byte) (body : List Byte) (s : State),
    i.request? = some (p, code, body) → s.links.resetPending = true →
    (p = .main → s.links.main.sending = none → s.links.address ≠ 0 →
      exec i s = .next (s.modPort .main fun q => { q with rx := [] })) ∧
    (p = .main → (s.links.main.sending ≠ none ∨ s.links.address = 0) → exec i s = .next s) ∧
    (p = .service → exec i s = .next (s.modPort .service fun q => { q with rx := [] }))) ∧
  (∀ (p : Port) (bytes : List Byte) (s : State), s.links.resetPending = true →
    (p = .main → s.links.main.sending = none) → bytes ≠ [] →
    let got := (s.port p).rx ++ bytes
    (scan got = .incomplete →
      exec (.foreignFrame p bytes) s = .next (s.modPort p fun q => { q with rx := got }) ∧
      exec (.frameGapTimeout p bytes) s = .next (s.modPort p fun q => { q with rx := [] })) ∧
    ((scan got = .request got.length ∨ scan got = .passing got.length) →
      exec (.foreignFrame p bytes) s = .next (s.modPort p fun q => { q with rx := [] }))) ∧
  (∀ s : State, s.links.main.rx ≠ [] → exec (.answerTransmitStart .main) s = .next s) ∧
  (∀ (straps : Straps) (b : Bool) (s : State), s.links.resetPending = true →
    s.links.service.outstanding = false → s.links.main.ready = [] → s.links.main.sending = none →
    ∃ t, exec (.towerReset straps b) s = .next t ∧ exec (.resetTakesEffect straps b) s =
      .next { t with notices := { t.notices with cause := .resetRequest } }) ∧
  (∀ (straps : Straps) (b : Bool) (s : State),
    (s.links.resetPending = false ∨ s.links.service.outstanding = true ∨ s.links.main.ready ≠ [] ∨
      s.links.main.sending ≠ none) →
    exec (.resetTakesEffect straps b) s = .next s)

/-- R47, R117, R133, R136, R163, R165, R176, R177: LOAD_COMPLETE ends the load. A booking slot is occupied
exactly when its place holds a whole record with no failed-program marker, and never busy; a bell is READY or
OFF by its record, or OFF with defaults; the drive settings are those stored, or the defaults, and the first
bank level follows them. Of two passing protection copies with equal numbers or numbers one step apart the
newer is in force, else the one that passes, else the defaults, else PERMANENT with every slot guarded. Each
melody slot is EMPTY, DEFINED, COMPLETE or unreadable by its header place and markers; a blank header place
behind a set failed-program marker is EMPTY (log 49). A segment position is PRESENT when its program-begun
marker is set, in an unreadable slot at every index. The discard count counts the places discarded; it or a
DAMAGED slot raises STORE, a level but NORMAL raises DRIVE. -/
def Obligations.LoadCompleteHandsOver : Prop :=
  ∀ s : State, s.store.loading = true → s.store.places.bookings.length = 96 →
    s.store.places.bells.length = 64 → s.drive.bells.length = 64 →
    ∃ t, exec .loadComplete s = .next t ∧ t.store.loading = false ∧ t.time = s.time ∧
    t.links = s.links ∧ t.store.places = s.store.places ∧ t.engine = s.engine ∧
    t.planner = s.planner ∧ t.book.orphans = [] ∧
    (∀ n r, n < 96 → s.store.places.bookings[n]? = some ⟨.whole r, false⟩ →
      ∃ b, t.booking? (n + 1) = some b ∧ b.record = r ∧ b.busy = false ∧
        b.lastOutcome = none ∧ ∀ x, b.next = some x → s.time.second < x) ∧
    (∀ n x, n < 96 → s.store.places.bookings[n]? = some x → x.givesNothing →
      t.booking? (n + 1) = none) ∧
    (∀ n r, n < 64 → s.store.places.bells[n]? = some ⟨.whole r, false⟩ →
      (t.bell n).record = r ∧ (t.bell n).state = if r.present then .ready else .off) ∧
    (∀ n x, n < 64 → s.store.places.bells[n]? = some x → x.givesNothing →
      (t.bell n).record = ⟨false, 0, false, 1, 0, 0, 5, 5, 60, 100⟩ ∧ (t.bell n).state = .off) ∧
    (∀ d, s.store.places.drive = ⟨.whole d, false⟩ →
      t.drive.k = d.k ∧ t.drive.low = d.low ∧ t.drive.critical = d.critical) ∧
    (s.store.places.drive.givesNothing →
      t.drive.k = 4 ∧ t.drive.low = 160 ∧ t.drive.critical = 120) ∧
    t.drive.requestedK = none ∧ t.drive.energised = 0 ∧
    t.drive.level = (if s.drive.measurement < t.drive.critical then .critical
      else if s.drive.measurement < t.drive.low then .low else .normal) ∧
    (∀ x y, s.store.places.copyA = .whole x → s.store.places.copyB = .whole y →
      (x.sequence = y.sequence ∨ y.sequence = (x.sequence + 1) % 256 ∨
        x.sequence = (y.sequence + 1) % 256) →
      t.library.protection = if y.sequence = (x.sequence + 1) % 256 then y else x) ∧
    (∀ x, s.store.places.copyA = .whole x →
      (s.store.places.copyB = .empty ∨ s.store.places.copyB = .failing) → t.library.protection = x) ∧
    (∀ y, (s.store.places.copyA = .empty ∨ s.store.places.copyA = .failing) →
      s.store.places.copyB = .whole y → t.library.protection = y) ∧
    ((s.store.places.copyA = .empty ∨ s.store.places.copyA = .failing) →
      s.store.places.copyB = .failing →
      t.library.protection.mode = .permanent ∧ ∀ m, m < 64 → t.guarded m = true) ∧
    ((s.store.places.copyA = .empty ∨ s.store.places.copyA = .failing) →
      s.store.places.copyB = .empty →
      t.library.protection.mode = .opened ∧ ∀ m, t.guarded m = false) ∧
    (∀ m x, m < 64 → s.store.places.headers[m]? = some x →
      let begun (i : Nat) : Prop := getAt2 s.store.places.programBegun m i false = true
      ((s.store.places.eraseBegun.getD m false = true ∨ x.discarded) →
        (t.melody m).state = .complete ∧ (t.melody m).header = .unreadable ∧
        (t.melody m).damaged = true ∧
        ∀ i, i < 16 → (begun i → (t.melody m).positions[i]? = some .present) ∧
          (¬ begun i → (t.melody m).positions[i]? = some .absent)) ∧
      (s.store.places.eraseBegun.getD m false = false → x.content = .empty →
        t.melody m = ⟨.empty, .absent, List.replicate 16 .absent, false, .none⟩) ∧
      (∀ h, s.store.places.eraseBegun.getD m false = false → x = ⟨.whole h, false⟩ →
        (t.melody m).header = .known h ∧ (t.melody m).damaged = false ∧
        (t.melody m).pending = .none ∧
        (∀ a b c d, h.shape = .toll a b c d → (t.melody m).state = .complete) ∧
        (∀ n, h.shape = .score n →
          (∀ i, i < 16 → (i < n ∧ begun i → (t.melody m).positions[i]? = some .present) ∧
            (¬(i < n ∧ begun i) → (t.melody m).positions[i]? = some .absent)) ∧
          ((∀ i, i < n → i < 16 → begun i) → (t.melody m).state = .complete) ∧
          (¬(∀ i, i < n → i < 16 → begun i) → (t.melody m).state = .defined)))) ∧
    t.store.discards = min 255 (
      s.store.places.bookings.countP (fun x =>
          x.content == .failing || (x.content != .empty && x.failedProgram))
        + s.store.places.bells.countP (fun x =>
          x.content == .failing || (x.content != .empty && x.failedProgram))
        + (if s.store.places.drive.content = .failing ∨
            (s.store.places.drive.content ≠ .empty ∧ s.store.places.drive.failedProgram = true)
          then 1 else 0)
        + (if (s.store.places.copyA = .empty ∨ s.store.places.copyA = .failing) ∧
            s.store.places.copyB = .failing then 1 else 0)) ∧
    (t.notices.flags.store = true ↔ s.notices.flags.store = true ∨ t.store.discards ≠ 0 ∨
      ∃ m, m < 64 ∧ (t.melody m).damaged = true) ∧
    (t.notices.flags.drive = true ↔ s.notices.flags.drive = true ∨ t.drive.level ≠ .normal) ∧
    t.notices = { s.notices with flags := { s.notices.flags with
      store := t.notices.flags.store, drive := t.notices.flags.drive } }

/-! ## Tower time -/

/-- R11, R13, R23, R33–R36: SET_TIME and BROADCAST_SET_TIME set the calendar second. The time state becomes
LOCKED with the sub-second phase kept when the unit is phase-locked, else FREE with the second beginning here;
the pulse count, history, correction and both clocks' other parts stay. With no booking and nobody waiting
the report to the Booking Book changes nothing, so the answer and the TIME notice are all the rest. Otherwise,
starts held by HUSH, each booking is dealt with by the kind of report. Out of UNSET it is recomputed, and one
whose next occurrence is now falls due. At a forward step the occurrences stepped over but the latest go
silently, and the latest is taken or missed by the patience (an ARMED one), replaces the waiting one (a DUE
one) or is missed (a sounding one). At a backward step the next occurrence is found again. Which occurrences a
step considers is DEDUCED (log 26). -/
def Obligations.SettingTheTime : Prop :=
  ∀ (body : List Byte) (t1 : Nat) (s : State), secondField body 0 = some t1 →
    let v : TimeState := if s.time.locked then TimeState.locked else TimeState.free
    let T : TowerTime := { s.time with
      second := t1, state := v
      sub := if s.time.locked then s.time.sub else 0
      subFrac := if s.time.locked then s.time.subFrac else 0 }
    (∀ p, s.takes p 0x1A body.length = true →
      ∃ t, exec (.setTime p body) s = .next t ∧ t.time = T ∧
        t.links = (s.answered p 0x1A .done []).links ∧ t.store.places = s.store.places ∧
        ((∀ n, s.booking? n = none) → s.engine.waiting = [] →
          t = { s.answered p 0x1A .done [] with time := T }.raiseIf (s.time.state != v) .time)) ∧
    (s.receives .main = true → s.links.main.rx = [] → s.store.loading = false → body.length = 7 →
      ∃ t, exec (.broadcastSetTime body) s = .next t ∧ t.time = T ∧
        t.links = s.links ∧ t.store.places = s.store.places) ∧
    (∀ (t : State) (n : Nat) (b : Booking),
      ((∃ p, s.takes p 0x1A body.length = true ∧ exec (.setTime p body) s = .next t) ∨
        (s.receives .main = true ∧ s.links.main.rx = [] ∧ s.store.loading = false ∧ body.length = 7 ∧
          exec (.broadcastSetTime body) s = .next t)) →
      s.drive.hush = true → n ≤ 96 → s.booking? n = some b → b.missed ≤ 65535 →
      let next := b.nextOccurrence T
      let found : Booking := { b with
        next := next
        state := if b.record.enabled = false then .dormant
          else if next = none then .spent else .armed }
      let stepped := b.steppedOver s.time.second t1
      (s.time.state ≠ .unset → s.time.second = t1 → t.booking? n = some b) ∧
      ((b.state = .dormant ∨ (b.state = .spent ∧ s.time.state ≠ .unset)) → t.booking? n = some b) ∧
      (s.time.state = .unset → b.record.kind.immediate = true → t.booking? n = some b) ∧
      (((s.time.state = .unset ∧ b.record.kind.immediate = false ∧ (b.state = .armed ∨ b.state = .spent)) ∨
          (s.time.state ≠ .unset ∧ t1 < s.time.second ∧ b.state = .armed)) →
        (next ≠ some t1 → t.booking? n = some found) ∧
        (next = some t1 → n ∈ t.engine.waiting ∧
          ∃ b', t.booking? n = some b' ∧ b.fallenDue b' t1 0 ∧ b'.lastOutcome = b.lastOutcome)) ∧
      (((s.time.state = .unset ∧ b.record.kind.immediate = false) ∨
          (s.time.state ≠ .unset ∧ t1 < s.time.second)) → b.busy = true →
        (next ≠ some t1 → t.booking? n = some { b with next := next }) ∧
        (next = some t1 → ∃ b', t.booking? n = some b' ∧ b'.state = b.state ∧ b'.unread = true ∧
          b'.missed = min 65535 (b.missed + 1) ∧
          (b.state = .due → b'.current = some t1 ∧ b'.waiting = some 0 ∧
            b'.lastOutcome = some ⟨.missed, some .patience, b.current, ⟨0, 0, 0, 0⟩⟩) ∧
          (b.state ≠ .due → b'.current = b.current ∧
            b'.lastOutcome = some ⟨.missed, some .stillSounding, some t1, ⟨0, 0, 0, 0⟩⟩))) ∧
      (s.time.state ≠ .unset → s.time.second < t1 →
        (b.state = .armed → stepped = [] → t.booking? n = some found) ∧
        (∀ front l, b.state = .armed → stepped = front ++ [l] → t1 - l ≤ b.record.patience →
          n ∈ t.engine.waiting ∧ ∃ b', t.booking? n = some b' ∧ b.fallenDue b' l (t1 - l) ∧
            b'.missed = min 65535 (b.missed + front.length) ∧ b'.lastOutcome = b.lastOutcome ∧
            b'.unread = b.unread) ∧
        (∀ front l, b.state = .armed → stepped = front ++ [l] → b.record.patience < t1 - l →
          ∃ b', t.booking? n = some b' ∧ b'.busy = false ∧ b'.unread = true ∧
            b'.missed = min 65535 (b.missed + (front.length + 1)) ∧
            b'.lastOutcome = some ⟨.missed, some .timeStep, some l, ⟨0, 0, 0, 0⟩⟩) ∧
        (∀ w, b.state = .due → b.waiting = some w → stepped = [] →
          w + (t1 - s.time.second) ≤ b.record.patience →
          t.booking? n = some { b with waiting := some (w + (t1 - s.time.second)), next := next }) ∧
        (∀ w, b.state = .due → b.waiting = some w → b.record.kind.immediate = false → stepped = [] →
          b.record.patience < w + (t1 - s.time.second) →
          ∃ b', t.booking? n = some b' ∧ b'.busy = false ∧ b'.unread = true ∧
            b'.missed = min 65535 (b.missed + 1) ∧
            b'.lastOutcome = some ⟨.missed, some .timeStep, b.current, ⟨0, 0, 0, 0⟩⟩) ∧
        (∀ w, b.state = .due → b.waiting = some w → b.record.kind.immediate = true →
          b.record.patience < w + (t1 - s.time.second) → t.booking? n = none) ∧
        (∀ front l, b.state = .due → b.record.kind.immediate = false → stepped = front ++ [l] →
          t1 - l ≤ b.record.patience →
          n ∈ t.engine.waiting ∧ ∃ b', t.booking? n = some b' ∧ b.fallenDue b' l (t1 - l) ∧
            b'.missed = min 65535 (b.missed + (front.length + 1)) ∧
            b'.lastOutcome = some ⟨.missed, some .timeStep, b.current, ⟨0, 0, 0, 0⟩⟩) ∧
        ((b.state = .sounding ∨ b.state = .suspended) → stepped = [] →
          t.booking? n = some { b with next := next }) ∧
        (∀ front l, (b.state = .sounding ∨ b.state = .suspended) → stepped = front ++ [l] →
          ∃ b', t.booking? n = some b' ∧ b'.state = b.state ∧ b'.current = b.current ∧ b'.unread = true ∧
            b'.missed = min 65535 (b.missed + (front.length + 1)) ∧
            b'.lastOutcome = some ⟨.missed, some .stillSounding, some l, ⟨0, 0, 0, 0⟩⟩)))

/-- R5–R9: REFERENCE_PULSE. A pulse 998,000–1,002,000 local µs after the anchor is valid: its interval
error joins the history, the correction is the clamped mean of the history in 0.1 ppm, the valid count
rises. The third in a row, and each one of a unit phase-locked already, sets the flag and starts the pulse
timeout afresh. It steps the phase in UNSET. In the other states the unit is LOCKED then, TIME being raised
for a change, and an error of at most 20,000 µs is slewed and a larger one stepped: to the start of this second
or, from 500,000 µs on, of the next. Any other pulse only sets the count to 0 and becomes the anchor. -/
def Obligations.ReferencePulseMeasures : Prop :=
  (∀ (a : Nat) (s : State), s.time.anchor = some a →
    998000 ≤ localInterval (s.time.clock - a) s.time.correction →
    localInterval (s.time.clock - a) s.time.correction ≤ 1002000 →
    let h : List Int := (s.time.history ++ [1000000 - ((s.time.clock - a : Nat) : Int)]).drop
      (s.time.history.length + 1 - 16)
    let T : TowerTime := { s.time with
      history := h
      correction := max (-2000) (min 2000 (Int.tdiv (10 * h.sum) h.length))
      count := min 3 (s.time.count + 1)
      anchor := some s.time.clock }
    let L : TowerTime := { T with locked := true, timeout := some (s.time.clock + 3000000) }
    (s.time.locked = false → s.time.count < 2 →
      exec .referencePulse s = .next { s with time := T }) ∧
    ((s.time.locked = true ∨ 2 ≤ s.time.count) → s.time.state = .unset →
      s.time.second + 1 < 36525 * 86400 →
      exec .referencePulse s = .next { s with time := { L with
        sub := 0, subFrac := 0
        second := if 500000 ≤ s.time.sub then s.time.second + 1 else s.time.second } }) ∧
    ((((s.time.state = .free ∨ s.time.state = .holdover) ∧ 2 ≤ s.time.count) ∨
        (s.time.state = .locked ∧ (s.time.locked = true ∨ 2 ≤ s.time.count))) →
      ((s.time.sub ≤ 20000 ∨ (980000 ≤ s.time.sub ∧ s.time.sub ≤ 1000000)) →
        exec .referencePulse s = .next ({ s with
          time := { L with
            state := .locked, slewAcc := 0
            slew := if s.time.sub < 500000 then -(s.time.sub : Int) else 1000000 - (s.time.sub : Int) }
          }.raiseIf (s.time.state != TimeState.locked) .time)) ∧
      (20000 < s.time.sub → s.time.sub < 500000 →
        exec .referencePulse s = .next ({ s with
          time := { L with state := .locked, sub := 0, subFrac := 0, slew := 0, slewAcc := 0 }
          }.raiseIf (s.time.state != TimeState.locked) .time)) ∧
      (500000 ≤ s.time.sub → s.time.sub < 980000 → s.time.second + 1 < 36525 * 86400 →
        ∃ t, exec .referencePulse s = .next t ∧
          t.time = { L with
            state := .locked, sub := 0, subFrac := 0, slew := 0, slewAcc := 0
            second := s.time.second + 1 } ∧
          (s.time.state ≠ .locked → t.notices.flags.time = true)))) ∧
  (∀ s : State,
    (∀ a, s.time.anchor = some a →
      localInterval (s.time.clock - a) s.time.correction < 998000 ∨
      1002000 < localInterval (s.time.clock - a) s.time.correction) →
    exec .referencePulse s =
      .next { s with time := { s.time with count := 0, anchor := some s.time.clock } })

/-- R3, R10, R37: PULSE_TIMEOUT at or after its time clears the lock, the count and the slew, and a LOCKED
unit goes to HOLDOVER and raises TIME. NORMAL_ADVANCE takes 1,000,000 from the sub-second count and
moves the second on; in UNSET that is all. Past 2099 the second becomes 0 and the state UNSET, TIME is raised,
every waiting booking is MISSED, TIME_STEP, and every other one loses its next occurrence alone. That the
commands do nothing before their time is the model's choice (log 3). -/
def Obligations.TimeoutAndAdvance : Prop :=
  (∀ (d : Nat) (s : State), s.time.timeout = some d → d ≤ s.time.clock →
    exec .pulseTimeout s = .next (({ s with time := { s.time with
      locked := false, count := 0, slew := 0, slewAcc := 0, timeout := none
      state := if s.time.state = .locked then .holdover else s.time.state } } : State).raiseIf
        (s.time.state == .locked) .time)) ∧
  (∀ s : State, 1000000 ≤ s.time.sub → s.time.state = .unset →
    s.time.second + 1 < 36525 * 86400 →
    exec .normalAdvance s = .next { s with time := { s.time with
      sub := s.time.sub - 1000000, second := s.time.second + 1 } }) ∧
  (∀ s : State, 1000000 ≤ s.time.sub → s.time.second + 1 = 36525 * 86400 →
    ∃ t, exec .normalAdvance s = .next t ∧ t.time = { s.time with
      sub := s.time.sub - 1000000, second := 0, slew := 0, slewAcc := 0, state := .unset } ∧
      (s.time.state ≠ .unset → t.notices.flags.time = true) ∧
      (∀ n b, s.time.state ≠ .unset → s.store.loading = false → n ≤ 96 → s.booking? n = some b →
        (b.state ≠ .due → t.booking? n = some { b with next := none }) ∧
        (b.state = .due → n ∉ t.engine.waiting ∧
          (b.record.kind.immediate = true → t.booking? n = none) ∧
          (b.record.kind.immediate = false → ∃ b', t.booking? n = some b' ∧ b'.busy = false ∧
            b'.next = none ∧ b'.unread = true ∧ b'.missed = min 65535 (b.missed + 1) ∧
            b'.lastOutcome = some ⟨.missed, some .timeStep, b.current, ⟨0, 0, 0, 0⟩⟩)))) ∧
  (∀ s : State, s.time.sub < 1000000 → exec .normalAdvance s = .next s) ∧
  (∀ s : State, (∀ d, s.time.timeout = some d → s.time.clock < d) → exec .pulseTimeout s = .next s)

/-- R25, R27–R29: a second boundary. While HUSH holds every start: an ARMED booking whose next occurrence
it is falls due and waits; another ARMED booking is untouched; a DUE booking counts its waiting second
and, past its patience, is disposed MISSED; a DUE booking within its patience that comes to its next occurrence
has the waiting one MISSED, PATIENCE, and waits for the new one; an occurrence of a sounding or suspended
booking is MISSED. With HUSH released, DRIVE READY high and nothing at play, the one booking that falls due,
its melody playable, starts. -/
def Obligations.SecondBoundaryUnderHush : Prop :=
  (∀ (n : Nat) (b : Booking) (s : State), 1000000 ≤ s.time.sub → s.time.second + 1 < 36525 * 86400 →
    s.time.state ≠ .unset → s.store.loading = false → s.drive.hush = true → n ≤ 96 →
    s.booking? n = some b →
    ∃ t, exec .normalAdvance s = .next t ∧
      t.time = { s.time with sub := s.time.sub - 1000000, second := s.time.second + 1 } ∧
      (b.state = .armed → b.next = some (s.time.second + 1) →
        n ∈ t.engine.waiting ∧ ∃ b', t.booking? n = some b' ∧ b'.record = b.record ∧ b'.state = .due ∧
          b'.current = some (s.time.second + 1) ∧ b'.waiting = some 0 ∧ b'.unread = b.unread) ∧
      (b.state = .armed → b.next ≠ some (s.time.second + 1) → t.booking? n = some b) ∧
      (∀ w, b.state = .due → b.waiting = some w → w + 1 ≤ b.record.patience →
        b.next ≠ some (s.time.second + 1) →
        t.booking? n = some { b with waiting := some (w + 1) }) ∧
      (∀ w, b.state = .due → b.waiting = some w → w + 1 ≤ b.record.patience →
        b.next = some (s.time.second + 1) →
        (n ∈ s.engine.waiting → n ∈ t.engine.waiting) ∧
        ∃ b', t.booking? n = some b' ∧ b.fallenDue b' (s.time.second + 1) 0 ∧ b'.unread = true ∧
          b'.missed = min 65535 (b.missed + 1) ∧
          b'.lastOutcome = some ⟨.missed, some .patience, b.current, ⟨0, 0, 0, 0⟩⟩) ∧
      (∀ w, b.state = .due → b.waiting = some w → b.record.patience < w + 1 →
        b.record.kind.immediate = false →
        ∃ b', t.booking? n = some b' ∧ b'.unread = true ∧ b'.missed = min 65535 (b.missed + 1) ∧
          b'.lastOutcome = some ⟨.missed, some .patience, b.current, ⟨0, 0, 0, 0⟩⟩) ∧
      ((b.state = .sounding ∨ b.state = .suspended) → b.next = some (s.time.second + 1) →
        ∃ b', t.booking? n = some b' ∧ b'.state = b.state ∧ b'.unread = true ∧
          b'.missed = min 65535 (b.missed + 1) ∧ b'.lastOutcome =
            some ⟨.missed, some .stillSounding, some (s.time.second + 1), ⟨0, 0, 0, 0⟩⟩)) ∧
  (∀ (n m : Nat) (b : Booking) (h : MelodyHeader) (s : State), 1000000 ≤ s.time.sub →
    s.time.second + 1 < 36525 * 86400 → s.time.state ≠ .unset → s.store.loading = false →
    s.drive.hush = false → s.drive.ready = true → s.engineIdle = true → n ≤ 96 →
    s.booking? n = some b → b.state = .armed → b.next = some (s.time.second + 1) →
    b.record.melody = some m → (s.melody m).state = .complete → (s.melody m).damaged = false →
    (s.melody m).known? = some h →
    (∀ k x, k ≠ n → s.booking? k = some x → x.busy = false ∧ x.next ≠ some (s.time.second + 1)) →
    ∃ t c, exec .normalAdvance s = .next t ∧ t.engine = ⟨some c, [], []⟩ ∧ c.booking = n ∧
      c.occurrence = some (s.time.second + 1) ∧ c.melody = some m ∧ c.mode = .playing ∧
      c.originTime = s.time.clock + 500000 ∧
      (∃ b', t.booking? n = some b' ∧ b'.record = b.record ∧ b'.state = .sounding ∧
        b'.current = some (s.time.second + 1) ∧ b'.waiting = none) ∧
      (∀ k, k ≠ n → t.booking? k = s.booking? k) ∧ t.drive = s.drive ∧ t.planner = s.planner ∧
      t.notices = s.notices ∧ t.links = s.links ∧
      t.time = { s.time with sub := s.time.sub - 1000000, second := s.time.second + 1 })

/-! ## The booking book -/

/-- R20, R21: the occurrences of every record a BOOK can carry are the pattern instants of its kind on
the dates of 2000–2099 within its validity dates, both whole; weekdays count from Saturday 2000-01-01;
NOW and LIVE bookings have none. -/
def Obligations.OccurrencesFollowThePattern : Prop :=
  (∀ (bs : List Byte) (r : BookingRecord) (t : Nat), parseRecord bs = some r →
    (r.occursAt t = true ↔
      ∃ tod, r.time = some tod ∧ minuteOf t = tod.minute ∧ secondOf t = tod.second ∧
        dayOfSecond t < 36525 ∧
        (∀ d, r.validFrom = some d → d ≤ dayOfSecond t) ∧
        (∀ d, r.validUntil = some d → dayOfSecond t ≤ d) ∧
        (r.kind = .once → r.date = some (dayOfSecond t) ∧ tod.hour = some (hourOf t)) ∧
        (r.kind = .daily → tod.hour = some (hourOf t)) ∧
        (r.kind = .weekly →
          tod.hour = some (hourOf t) ∧ r.weekdays.getLsbD (weekday (dayOfSecond t)) = true) ∧
        (r.kind = .hourly → ∀ w, r.window = some w → w.1 ≤ hourOf t ∧ hourOf t ≤ w.2))) ∧
  (∀ (r : BookingRecord) (t : Nat), (r.kind = .now ∨ r.kind = .live) → r.occursAt t = false) ∧
  weekday 0 = 5 ∧ ∀ day, weekday (day + 1) = (weekday day + 1) % 7

/-- R22: the search for a next occurrence finds the earliest occurrence at or after a second, and finds
none only when there is none. A booking's next occurrence is the earliest that is not before the calendar
second, and later than its last disposed and its current occurrence; it is absent when there is none, when the
booking is not enabled, in UNSET, and for NOW and LIVE. The occurrences of an interval are all of it in order.
Those a forward step deals with (R34, R35) are, in order, the occurrences in (t0, t1] of an enabled booking that are
later than its last disposed and its current one; that the last disposed counts here too, and that a booking not
enabled has none, is the model's reading (log 26). -/
def Obligations.NextOccurrenceIsLeast : Prop :=
  (∀ (bs : List Byte) (r : BookingRecord) (lo : Nat), parseRecord bs = some r →
    (∀ t, r.firstFrom lo = some t →
      r.occursAt t = true ∧ lo ≤ t ∧ ∀ u, r.occursAt u = true → lo ≤ u → t ≤ u) ∧
    (r.firstFrom lo = none → ∀ u, r.occursAt u = true → u < lo)) ∧
  (∀ (bs : List Byte) (b : Booking) (T : TowerTime), parseRecord bs = some b.record →
    let meets (u : Nat) : Prop := b.record.occursAt u = true ∧ T.second ≤ u ∧
      (∀ d, b.lastDisposed = some d → d < u) ∧ (∀ d, b.current = some d → d < u)
    (∀ u, b.nextOccurrence T = some u →
      b.record.enabled = true ∧ T.state ≠ .unset ∧ meets u ∧ ∀ w, meets w → u ≤ w) ∧
    (b.nextOccurrence T = none →
      b.record.enabled = false ∨ T.state = .unset ∨ ∀ w, ¬ meets w)) ∧
  (∀ (b : Booking) (T : TowerTime), b.record.kind.immediate = true → b.nextOccurrence T = none) ∧
  (∀ (bs : List Byte) (r : BookingRecord) (lo hi : Nat), parseRecord bs = some r →
    (∀ u, u ∈ r.occurrencesIn lo hi ↔ r.occursAt u = true ∧ lo < u ∧ u ≤ hi) ∧
    (r.occurrencesIn lo hi).Pairwise (· < ·)) ∧
  (∀ (bs : List Byte) (b : Booking) (t0 t1 : Nat), parseRecord bs = some b.record →
    (∀ u, u ∈ b.steppedOver t0 t1 ↔ b.record.enabled = true ∧ b.record.occursAt u = true ∧ t0 < u ∧ u ≤ t1 ∧
      (∀ d, b.lastDisposed = some d → d < u) ∧ (∀ d, b.current = some d → d < u)) ∧
    (b.steppedOver t0 t1).Pairwise (· < ·))

/-- R17, R19, R22, R23, R38–R40, R42, R51, R63, R164: BOOK, AMEND and WITHDRAW of TEMPORARY bookings. BOOK fills the
lowest free slot with a fresh booking, its state by R23's table; AMEND changes the record and keeps the device-owned
fields; WITHDRAW frees the slot. A booking whose next occurrence at BOOK or AMEND is the second in force falls due
at once: it waits under HUSH or behind an active context it does not outrank, and starts in an idle engine. A DUE
booking amended has its place in the waiting list by its new record and is reconsidered: it waits on, or it outranks
the active context and starts. WITHDRAW takes a DUE booking out of the list without an outcome, and ends a SOUNDING
or SUSPENDED one CUT, WITHDRAWN, its outcome in the orphan list. A rank above the level of the port, 2 but 3 on the
service port with KEY on, is answered PRIVILEGE: the record's, for AMEND the old or the new. BOOK with no free slot
is answered TABLE_FULL. KEPT or TEMPORARY, a refused request changes nothing else. -/
def Obligations.TemporaryTableRequests : Prop :=
  (∀ s : State, s.privilege .main = 2 ∧ s.privilege .service = (if s.library.key = true then 3 else 2) ∧
    (∀ n, s.book.lowestFree = some n ↔ 1 ≤ n ∧ s.book.slots[n - 1]? = some .free ∧
      ∀ k, k < n - 1 → s.book.slots[k]? ≠ some .free) ∧
    (s.book.lowestFree = none ↔ .free ∉ s.book.slots)) ∧
  (∀ (p : Port) (body : List Byte) (r : BookingRecord) (s : State),
    s.takes p 0x01 body.length = true → parseRecord body = some r →
    (s.privilege p < r.rank → exec (.book p body) s = .next (s.answered p 0x01 .privilege [])) ∧
    (r.rank ≤ s.privilege p → s.book.lowestFree = none →
      exec (.book p body) s = .next (s.answered p 0x01 .tableFull []))) ∧
  (∀ (p : Port) (n : Nat) (bs : List Byte) (b : Booking) (r : BookingRecord) (s : State),
    1 ≤ n → n ≤ 96 → s.takes p 0x02 (bs.length + 1) = true → s.booking? n = some b →
    b.record.kind.immediate = false → parseRecord bs = some r →
    (s.privilege p < b.record.rank ∨ s.privilege p < r.rank) →
    exec (.amend p (BitVec.ofNat 8 n :: bs)) s = .next (s.answered p 0x02 .privilege [])) ∧
  (∀ (p : Port) (n : Nat) (b : Booking) (s : State), 1 ≤ n → n ≤ 96 → s.takes p 0x03 1 = true →
    s.booking? n = some b → s.privilege p < b.record.rank →
    exec (.withdraw p [BitVec.ofNat 8 n]) s = .next (s.answered p 0x03 .privilege [])) ∧
  (∀ (p : Port) (body : List Byte) (r : BookingRecord) (n : Nat) (s : State),
    s.takes p 0x01 body.length = true → parseRecord body = some r → r.rank ≤ s.privilege p →
    s.book.lowestFree = some n → r.kept = false →
    let next := if r.enabled = true ∧ s.time.state ≠ .unset then r.firstFrom s.time.second else none
    next ≠ some s.time.second →
    exec (.book p body) s = .next { s.answered p 0x01 .done (be 1 n) with
      book := s.book.setSlot n (.occupied {
        record := r, next := next
        state := if r.enabled = false then .dormant
          else if s.time.state = .unset ∨ next ≠ none then .armed else .spent
        current := none, creation := none, waiting := none, lastDisposed := none
        lastOutcome := none, unread := false, missed := 0 }) }) ∧
  (∀ (p : Port) (body : List Byte) (r : BookingRecord) (n : Nat) (s : State),
    s.takes p 0x01 body.length = true → parseRecord body = some r → r.rank ≤ s.privilege p →
    s.book.lowestFree = some n → r.kept = false → r.enabled = true → s.time.state ≠ .unset →
    r.firstFrom s.time.second = some s.time.second →
    ∃ t, exec (.book p body) s = .next t ∧ t.links = (s.answered p 0x01 .done (be 1 n)).links ∧
      s.fellDueAtOnce t n r) ∧
  (∀ (p : Port) (n : Nat) (bs : List Byte) (b : Booking) (r : BookingRecord) (s : State),
    1 ≤ n → n ≤ 96 → s.takes p 0x02 (bs.length + 1) = true → s.booking? n = some b →
    b.record.kind.immediate = false → b.busy = false → parseRecord bs = some r →
    b.record.rank ≤ s.privilege p → r.rank ≤ s.privilege p → b.record.kept = false → r.kept = false →
    s.store.pendingAt n = false →
    let b' := { b with record := r }.recompute s.time
    b'.next ≠ some s.time.second →
    exec (.amend p (BitVec.ofNat 8 n :: bs)) s =
      .next { s.answered p 0x02 .done [] with book := s.book.setSlot n (.occupied b') } ∧
    b'.lastOutcome = b.lastOutcome ∧ b'.unread = b.unread ∧ b'.missed = b.missed ∧
    b'.lastDisposed = b.lastDisposed ∧ b'.current = b.current ∧ b'.waiting = b.waiting) ∧
  (∀ (p : Port) (n : Nat) (bs : List Byte) (b : Booking) (r : BookingRecord) (s : State),
    1 ≤ n → n ≤ 96 → s.takes p 0x02 (bs.length + 1) = true → s.booking? n = some b →
    b.record.kind.immediate = false → parseRecord bs = some r → b.record.rank ≤ s.privilege p →
    r.rank ≤ s.privilege p → b.record.kept = false → r.kept = false → s.store.pendingAt n = false →
    let b' := { b with record := r }.recompute s.time
    (b.busy = false → b'.next = some s.time.second →
      ∃ t, exec (.amend p (BitVec.ofNat 8 n :: bs)) s = .next t ∧
        t.links = (s.answered p 0x02 .done []).links ∧ s.fellDueAtOnce t n r) ∧
    (b.state = .due → b'.next ≠ some s.time.second → n ∈ s.engine.waiting →
      (∀ k ∈ s.engine.waiting, s.booking? k ≠ none) →
      b'.state = .due ∧ b'.current = b.current ∧ b'.waiting = b.waiting ∧
      ((s.drive.hush = true ∨ ∃ c, s.engine.active = some c ∧ (r.rank ≤ c.rank ∨ r.cls = .wait) ∧
          ∀ k ∈ s.engine.waiting, ∀ x, k ≠ n → s.booking? k = some x →
            x.record.rank ≤ c.rank ∨ x.record.cls = .wait) →
        ∃ t, exec (.amend p (BitVec.ofNat 8 n :: bs)) s = .next t ∧
          t.links = (s.answered p 0x02 .done []).links ∧ s.rePlaced t n b') ∧
      (∀ c m h, s.drive.hush = false → s.engine.active = some c → c.booking ≠ n → c.rank < r.rank →
        r.cls ≠ .wait → s.engine.waiting = [n] → s.engine.stack.length < 3 → s.drive.ready = true →
        r.melody = some m → (s.melody m).state = .complete → (s.melody m).damaged = false →
        (s.melody m).known? = some h →
        ∃ t c', exec (.amend p (BitVec.ofNat 8 n :: bs)) s = .next t ∧
          t.links = (s.answered p 0x02 .done []).links ∧ t.engine.active = some c' ∧ c'.booking = n ∧
          c'.rank = r.rank ∧ c'.occurrence = b.current ∧ t.engine.waiting = [] ∧
          t.booking? n = some { b' with state := .sounding, waiting := none }))) ∧
  (∀ (p : Port) (n : Nat) (b : Booking) (s : State), 1 ≤ n → n ≤ 96 → s.takes p 0x03 1 = true →
    s.booking? n = some b → b.record.rank ≤ s.privilege p → b.record.kept = false →
    s.store.pendingAt n = false →
    (b.busy = false → (∀ l, s.live = some l → l.booking ≠ n) →
      exec (.withdraw p [BitVec.ofNat 8 n]) s =
        .next { s.answered p 0x03 .done [] with book := s.book.setSlot n .free }) ∧
    ∃ t, exec (.withdraw p [BitVec.ofNat 8 n]) s = .next t ∧
      t.links = (s.answered p 0x03 .done []).links ∧ s.withdrawn t n b)

/-- R39–R42, R118, R136, R169: BOOK, AMEND and WITHDRAW of KEPT bookings, SET_BELL and SET_DRIVE with the
store IDLE begin their store operation and answer nothing yet; BOOK reserves the lowest free slot. With
the store at work BOOK, SET_BELL and SET_DRIVE are refused STORE_BUSY. -/
def Obligations.StoredRequestsBegin : Prop :=
  (∀ (p : Port) (body : List Byte) (r : BookingRecord) (n : Nat) (s : State),
    s.takes p 0x01 body.length = true → parseRecord body = some r → r.rank ≤ s.privilege p →
    s.book.lowestFree = some n → r.kept = true →
    (s.store.state = .idle → exec (.book p body) s =
      .next { s.accepted p (.book n r) with book := s.book.setSlot n .reserved }) ∧
    (s.store.state ≠ .idle → exec (.book p body) s = .next (s.answered p 0x01 .storeBusy []))) ∧
  (∀ (p : Port) (n : Nat) (bs : List Byte) (b : Booking) (r : BookingRecord) (s : State),
    1 ≤ n → n ≤ 96 → s.takes p 0x02 (bs.length + 1) = true → s.booking? n = some b →
    b.record.kind.immediate = false → parseRecord bs = some r → b.record.rank ≤ s.privilege p →
    r.rank ≤ s.privilege p → (b.record.kept = true ∨ r.kept = true) → s.store.pendingAt n = false →
    s.store.state = .idle →
    exec (.amend p (BitVec.ofNat 8 n :: bs)) s = .next (s.accepted p (.amend n r))) ∧
  (∀ (p : Port) (n : Nat) (b : Booking) (s : State), 1 ≤ n → n ≤ 96 → s.takes p 0x03 1 = true →
    s.booking? n = some b → b.record.rank ≤ s.privilege p → b.record.kept = true →
    s.store.pendingAt n = false → s.store.state = .idle →
    exec (.withdraw p [BitVec.ofNat 8 n]) s = .next (s.accepted p (.withdraw n))) ∧
  (∀ (p : Port) (body : List Byte) (b : Nat) (r : BellRecord) (s : State),
    s.takes p 0x14 body.length = true → parseSetBell body = some (b, r) →
    (s.store.state = .idle → exec (.setBell p body) s = .next (s.accepted p (.setBell b r))) ∧
    (s.store.state ≠ .idle → exec (.setBell p body) s = .next (s.answered p 0x14 .storeBusy []))) ∧
  (∀ (p : Port) (body : List Byte) (d : DriveSettings) (s : State),
    s.takes p 0x18 body.length = true → parseDrive body = some d →
    (s.store.state = .idle → exec (.setDrive p body) s = .next (s.accepted p (.setDrive d))) ∧
    (s.store.state ≠ .idle → exec (.setDrive p body) s = .next (s.answered p 0x18 .storeBusy [])))

/-- R43: LOOK_UP of an occupied slot with no store operation pending is answered DONE with the whole record, 92
bytes, and changes nothing but its own port. With an operation pending at the slot it is STORE_BUSY; that row 5 of
R38, with R41, holds for LOOK_UP too is the model's reading (DEDUCED, log 43). -/
def Obligations.LookUpAnswersTheRecord : Prop :=
  ∀ (p : Port) (n : Nat) (b : Booking) (s : State), 1 ≤ n → n ≤ 96 → s.booking? n = some b →
    s.takes p 0x04 1 = true →
    (s.store.pendingAt n = false →
      exec (.lookUp p [BitVec.ofNat 8 n]) s = .next (s.answered p 0x04 .done (encBooking n b)) ∧
        (encBooking n b).length = 92) ∧
    (s.store.pendingAt n = true →
      exec (.lookUp p [BitVec.ofNat 8 n]) s = .next (s.answered p 0x04 .storeBusy []))

/-- R44: SET_CURSOR sets the port's cursor. BROWSE answers the lowest occupied slot at or after the
cursor and leaves the cursor behind it, or answers NO_SUCH and leaves it at 97. Every reset leaves both
cursors at 1. -/
def Obligations.CursorAndBrowse : Prop :=
  (∀ (p : Port) (n : Nat) (s : State), 1 ≤ n → n ≤ 97 → s.takes p 0x05 1 = true →
    exec (.setCursor p [BitVec.ofNat 8 n]) s =
      .next ((s.answered p 0x05 .done []).modPort p fun q => { q with cursor := n })) ∧
  (∀ (p : Port) (n : Nat) (b : Booking) (s : State), s.takes p 0x06 0 = true →
    (s.port p).cursor ≤ n → n ≤ 96 → s.booking? n = some b →
    (∀ m, (s.port p).cursor ≤ m → m < n → s.booking? m = none) →
    exec (.browse p []) s =
      .next ((s.answered p 0x06 .done (encBooking n b)).modPort p fun q => { q with cursor := n + 1 })) ∧
  (∀ (p : Port) (s : State), s.takes p 0x06 0 = true →
    (∀ m, (s.port p).cursor ≤ m → m ≤ 96 → s.booking? m = none) →
    exec (.browse p []) s =
      .next ((s.answered p 0x06 .noSuch []).modPort p fun q => { q with cursor := 97 })) ∧
  (∀ (straps : Straps) (b : Bool) (p : Port) (s t : State),
    ((∃ pins, exec (.powerOn pins straps b) s = .next t) ∨ exec (.towerReset straps b) s = .next t ∨
      (s.links.drained = true ∧ exec (.resetTakesEffect straps b) s = .next t)) →
    (t.port p).cursor = 1)

/-- R45: NEXT_DUE is answered with at most eight entries, the first of a list that holds every booking
with a next occurrence once, earliest first, then highest rank, then lowest number. -/
def Obligations.NextDueIsInOrder : Prop :=
  ∀ (p : Port) (s : State), s.takes p 0x07 0 = true →
    exec (.nextDue p []) s = .next (s.answered p 0x07 .done
      (be 1 (min 8 s.book.dueEntries.length) ++ (s.book.dueEntries.take 8).flatMap DueEntry.encode)) ∧
    s.book.dueEntries.Pairwise (fun a b => a.next < b.next ∨ (a.next = b.next ∧
      (b.rank < a.rank ∨ (a.rank = b.rank ∧ a.number < b.number)))) ∧
    ∀ e, e ∈ s.book.dueEntries ↔ e.number ≤ 96 ∧ ∃ b, s.booking? e.number = some b ∧
      b.next = some e.next ∧ e.rank = b.record.rank ∧ e.state = b.state

/-- R45: READ_OUTCOMES returns up to sixteen bookings whose outcome is unread, in number order, each with its number
and last outcome: all of them when there are no more, else the sixteen of the lowest numbers; and the orphan list,
oldest first. The outcomes returned are read, the orphan list is empty, and no other booking changes. -/
def Obligations.ReadOutcomesMarksRead : Prop :=
  ∀ (p : Port) (s : State), s.takes p 0x08 0 = true →
    ∃ (chosen : List (Nat × Booking)) (t : State),
      chosen.length ≤ 16 ∧ chosen.Pairwise (fun a b => a.1 < b.1) ∧
      (∀ x ∈ chosen, x.1 ≤ 96 ∧ s.booking? x.1 = some x.2 ∧ x.2.unread = true) ∧
      (∀ n b, n ≤ 96 → s.booking? n = some b → b.unread = true → (n, b) ∉ chosen →
        chosen.length = 16 ∧ ∀ x ∈ chosen, x.1 < n) ∧
      exec (.readOutcomes p []) s = .next t ∧
      t = { s.answered p 0x08 .done
        (be 1 chosen.length ++ chosen.flatMap (fun x => be 1 x.1 ++ encOutcome x.2.lastOutcome)
          ++ be 1 s.book.orphans.length
          ++ s.book.orphans.flatMap (fun o => be 1 o.number ++ be 1 o.kind.code ++ encOutcome (some o.outcome)))
        with book := t.book } ∧
      t.book.orphans = [] ∧
      ∀ n, t.booking? n = if n ∈ chosen.map Prod.fst
        then (s.booking? n).map (fun b => { b with unread := false }) else s.booking? n

/-! ## The engine -/

/-- R46, R48, R54, R55, R72: PLAY_NOW with an idle engine, the drive ready and a playable melody starts at
once: a context with the request's values, its origin 500,000 µs ahead, in the lowest free slot, whose
booking is SOUNDING; the request is answered with the number. A TOLL played without a tempo of its own has none;
that its context then holds 0 is the model's choice (log 36). A start is refused NO_DRIVE with DRIVE READY low,
whatever the melody, and NO_SCORE with the slot not COMPLETE or DAMAGED: the request is still answered with the
number, no context begins, the slot is free again, and the outcome stands in the orphan list with four zero counts
(R26, R31). A rank above the port's level is answered PRIVILEGE, no free slot TABLE_FULL, and nothing changes. -/
def Obligations.PlayNowStarts : Prop :=
  (∀ (p : Port) (body : List Byte) (r : BookingRecord) (n m : Nat) (h : MelodyHeader) (s : State),
    s.takes p 0x09 body.length = true → parsePlayNow body = some r → r.rank ≤ s.privilege p →
    s.book.lowestFree = some n → r.melody = some m → (s.melody m).state = .complete →
    (s.melody m).damaged = false → (s.melody m).known? = some h → s.engineIdle = true →
    s.drive.ready = true → s.drive.hush = false →
    ∃ t c, exec (.playNow p body) s = .next t ∧ t.engine = ⟨some c, [], []⟩ ∧
      c.booking = n ∧ c.kind = .now ∧ c.melody = some m ∧ c.melodyKind = some h.kind ∧
      c.occurrence = none ∧ c.rank = r.rank ∧ c.cls = r.cls ∧
      c.tempo = r.tempo.getD (h.baseTempo.getD 0) ∧ c.transposition = r.transposition ∧ c.volume = r.volume ∧
      c.substitution = r.substitution ∧ c.repeats = r.repeats ∧ c.repeatNo = 1 ∧
      c.lastRepeat = r.repeats ∧ c.atResume = false ∧ c.failed = [] ∧
      c.counts = ⟨0, 0, 0, 0⟩ ∧ c.mode = .playing ∧ c.pendingHalt = none ∧
      c.originTime = s.time.clock + 500000 ∧
      t.booking? n = some {
        record := r, state := .sounding, next := none, current := none
        creation := some s.time.second, waiting := none, lastDisposed := none, lastOutcome := none
        unread := false, missed := 0 } ∧
      (∀ k, k ≠ n → t.booking? k = s.booking? k) ∧
      t.links = (s.answered p 0x09 .done (be 1 n)).links ∧ t.time = s.time ∧ t.drive = s.drive ∧
      t.planner = s.planner ∧ t.library = s.library ∧ t.notices = s.notices ∧ t.live = s.live) ∧
  (∀ (p : Port) (body : List Byte) (r : BookingRecord) (n m : Nat) (kind : OutcomeKind) (s : State),
    s.takes p 0x09 body.length = true → parsePlayNow body = some r → r.rank ≤ s.privilege p →
    s.book.lowestFree = some n → r.melody = some m → s.engineIdle = true → s.drive.hush = false →
    (∀ l, s.live = some l → l.booking ≠ n) →
    ((s.drive.ready = false ∧ kind = .noDrive) ∨
      (s.drive.ready = true ∧ ((s.melody m).state ≠ .complete ∨ (s.melody m).damaged = true) ∧ kind = .noScore)) →
    ∃ t, exec (.playNow p body) s = .next t ∧
      t.links = (s.answered p 0x09 .done (be 1 n)).links ∧ t.engine = ⟨none, [], []⟩ ∧
      t.booking? n = none ∧ t.book.lowestFree = some n ∧ (∀ k, t.booking? k = s.booking? k) ∧
      t.book.orphans.getLast? = some ⟨n, .now, ⟨kind, none, none, ⟨0, 0, 0, 0⟩⟩⟩ ∧
      (∀ o ∈ t.book.orphans.dropLast, o ∈ s.book.orphans) ∧
      t.notices = { s.notices with flags := { s.notices.flags with outcome := true } } ∧
      t.time = s.time ∧ t.drive = s.drive ∧ t.planner = s.planner ∧ t.player = s.player ∧
      t.library = s.library ∧ t.live = s.live ∧ t.store = s.store) ∧
  (∀ (p : Port) (body : List Byte) (r : BookingRecord) (s : State),
    s.takes p 0x09 body.length = true → parsePlayNow body = some r →
    (s.privilege p < r.rank → exec (.playNow p body) s = .next (s.answered p 0x09 .privilege [])) ∧
    (r.rank ≤ s.privilege p → s.book.lowestFree = none →
      exec (.playNow p body) s = .next (s.answered p 0x09 .tableFull [])))

/-- R140, R146: LIVE_OPEN with an idle engine and the drive ready starts at once with an open, empty feed
whose idle time runs, and a feed deadline 48 ticks after the origin. In this order, a rank above the port's level
is answered PRIVILEGE, a second LIVE booking LIVE_BUSY, no free slot TABLE_FULL, and nothing changes. -/
def Obligations.LiveOpenStarts : Prop :=
  (∀ (p : Port) (body : List Byte) (r : BookingRecord) (n tempo : Nat) (s : State),
    s.takes p 0x0C body.length = true → parseLiveOpen body = some r → r.rank ≤ s.privilege p →
    r.tempo = some tempo → s.live = none → s.book.lowestFree = some n → s.engineIdle = true →
    s.drive.ready = true → s.drive.hush = false →
    ∃ t c, exec (.liveOpen p body) s = .next t ∧ t.engine = ⟨some c, [], []⟩ ∧
      c.booking = n ∧ c.kind = .live ∧ c.melodyKind = none ∧ c.rank = r.rank ∧ c.tempo = tempo ∧
      c.mode = .playing ∧ c.originTime = s.time.clock + 500000 ∧
      c.feedDeadline = some (s.time.clock + 500000 + 48 * (1250000 / tempo)) ∧
      t.live = some {
        booking := n, queue := [], mode := .opened, endsHalted := false, underruns := 0
        idle := ⟨0, some s.time.clock⟩ } ∧
      (t.booking? n).map Booking.state = some .sounding ∧
      (∀ k, k ≠ n → t.booking? k = s.booking? k) ∧
      t.links = (s.answered p 0x0C .done (be 1 n)).links ∧ t.time = s.time ∧ t.drive = s.drive ∧
      t.planner = s.planner ∧ t.library = s.library ∧ t.notices = s.notices ∧ t.store = s.store) ∧
  (∀ (p : Port) (body : List Byte) (r : BookingRecord) (l : LiveFeed) (s : State),
    s.takes p 0x0C body.length = true → parseLiveOpen body = some r → r.rank ≤ s.privilege p →
    s.live = some l → exec (.liveOpen p body) s = .next (s.answered p 0x0C .liveBusy [])) ∧
  (∀ (p : Port) (body : List Byte) (r : BookingRecord) (s : State),
    s.takes p 0x0C body.length = true → parseLiveOpen body = some r →
    (s.privilege p < r.rank → exec (.liveOpen p body) s = .next (s.answered p 0x0C .privilege [])) ∧
    (r.rank ≤ s.privilege p → s.live = none → s.book.lowestFree = none →
      exec (.liveOpen p body) s = .next (s.answered p 0x0C .tableFull [])))

/-- R53, R56–R59: PLAY_NOW against an active context. Of no greater rank, or of class WAIT, it waits and the
performance is untouched. Of greater rank and class INTERRUPT it suspends a SCORE or TOLL on top of the stack with
its resume point, exactly its own queued strikes removed; over a stack that already holds three, the bottom
context first ends CUT, DISPLACED, with its counts, and the two above it keep their order. Of class REPLACE, or
INTERRUPT over a LIVE performance, it ends it CUT, REPLACED, a feed going with its booking. -/
def Obligations.PlayNowAgainstAnActiveContext : Prop :=
  ∀ (p : Port) (body : List Byte) (r : BookingRecord) (n m : Nat) (h : MelodyHeader) (c : Context)
    (b : Booking) (s : State),
    s.takes p 0x09 body.length = true → parsePlayNow body = some r → r.rank ≤ s.privilege p →
    s.book.lowestFree = some n → r.melody = some m → (s.melody m).state = .complete →
    (s.melody m).damaged = false → (s.melody m).known? = some h → s.engine.active = some c →
    s.engine.waiting = [] → s.drive.ready = true → s.drive.hush = false → s.booking? c.booking = some b →
    ∃ t, exec (.playNow p body) s = .next t ∧
      t.links = (s.answered p 0x09 .done (be 1 n)).links ∧
      ((r.rank ≤ c.rank ∨ r.cls = .wait) →
        t.engine = { s.engine with waiting := [n] } ∧ (t.booking? n).map Booking.state = some .due ∧
        t.booking? c.booking = some b ∧ t.planner = s.planner ∧ t.player = s.player) ∧
      (c.rank < r.rank → r.cls = .interrupt → c.melodyKind ≠ none → s.engine.stack.length ≤ 3 →
        (∀ x ∈ s.engine.stack, x.booking ≠ c.booking ∧ x.booking ≠ n) →
        (s.engine.stack.map Context.booking).Nodup →
        t.engine.active.map Context.booking = some n ∧ t.engine.waiting = [] ∧
        t.engine.stack =
          { c with resume := s.resumePoint c (s.earliestEntry c.booking) } :: s.engine.stack.take 2 ∧
        (∀ x bx, s.engine.stack[2]? = some x → s.booking? x.booking = some bx →
          t.disposed x.booking bx ⟨.cut, some .displaced, bx.current, x.counts⟩) ∧
        (t.booking? n).map Booking.state = some .sounding ∧
        t.booking? c.booking = some { b with state := .suspended } ∧
        ∀ e, e ∈ t.planner.queue ↔ e ∈ s.planner.queue ∧ e.owner ≠ .booking c.booking) ∧
      (c.rank < r.rank → (r.cls = .replace ∨ (r.cls = .interrupt ∧ c.melodyKind = none)) →
        t.engine.active.map Context.booking = some n ∧ t.engine.waiting = [] ∧
        t.engine.stack = s.engine.stack ∧ (t.booking? n).map Booking.state = some .sounding ∧
        t.disposed c.booking b ⟨.cut, some .replaced, b.current, c.counts⟩ ∧
        (∀ l, s.live = some l → l.booking = c.booking → b.record.kind.immediate = true →
          t.live = none) ∧
        ∀ e, e ∈ t.planner.queue ↔ e ∈ s.planner.queue ∧ e.owner ≠ .booking c.booking)

/-- R61, R62, R64–R67, R85, R86, R90, R96, R147: HALT. NOW on the active context, by any target, ends it HALTED with
its counts and removes its queued strikes; under HUSH that is all. Then the stack top resumes at its resume point,
500,000 µs ahead, a TOLL keeping its repeat number (log 38), unless a waiting INTERRUPT or REPLACE booking of
greater rank starts; one that finds no stack starts. ALL ends every context. On a suspended context a halt by number
takes it out of the stack or is stored. Under HUSH a later halt is stored, the condition that acts sooner being
kept, ALL with the stacked contexts too; a hushed feed takes its new mode at once. AT_PHRASE on a PLAYING SCORE sets
the stop point at the first phrase mark from the planning position on, a mark standing there counting unless the
context was taken up there and has not reached it (log 20), over an AT_END too, whose cancelled repeats count again
(log 58), the score read as the store holds it (log 30); at the mark, on a TOLL and on a LIVE performance planning
stops at once, a feed being STOPPED and emptied, and with no strike of its own left the performance ends HALTED.
AT_END on a PLAYING SCORE is stored, an early read of segment 0 for a further repetition being abandoned, its buffer
FREE at once (log 63); on a TOLL the last toll becomes toll count × the repeat number of that moment (log 38), and
planning is done at once past it; a feed closes, and the performance ends HALTED when nothing is left, one that LIVE
CLOSE had closed too (R67; log 22). What is stored is all while the performance rests (log 55). A halt stored with
planning done ends nothing yet, one that acts no sooner changes nothing. Where the target names nothing HALT is
answered NO_SUCH; with a target of a rank above the port's level, PRIVILEGE, and nothing changes. -/
def Obligations.HaltEndsOrIsStored : Prop :=
  (∀ (p : Port) (body : List Byte) (target : HaltTarget) (c : Context) (b : Booking) (s : State),
    s.takes p 0x0A body.length = true → parseHalt body = some (target, .now) →
    (target = .active ∨ target = .all ∨ target = .booking c.booking) →
    s.engine.active = some c → s.engine.stack = [] → s.engine.waiting = [] → c.rank ≤ s.privilege p →
    s.booking? c.booking = some b →
    ∃ t, exec (.halt p body) s = .next t ∧ t.engine = ⟨none, [], []⟩ ∧
      t.links = (s.answered p 0x0A .done []).links ∧ t.notices.flags.outcome = true ∧
      (∀ e, e ∈ t.planner.queue ↔ e ∈ s.planner.queue ∧ e.owner ≠ .booking c.booking) ∧
      (b.record.kind.immediate = false → ∃ b', t.booking? c.booking = some b' ∧ b'.unread = true ∧
        b'.busy = false ∧ b'.lastOutcome = some ⟨.halted, none, b.current, c.counts⟩) ∧
      (b.record.kind.immediate = true → t.booking? c.booking = none ∧
        t.book.orphans.getLast? =
          some ⟨c.booking, b.record.kind, ⟨.halted, none, b.current, c.counts⟩⟩)) ∧
  (∀ (p : Port) (body : List Byte) (target : HaltTarget) (c : Context) (b : Booking) (s : State),
    s.takes p 0x0A body.length = true → parseHalt body = some (target, .now) → s.haltsOnly target c →
    s.engine.active = some c → c.rank ≤ s.privilege p → s.booking? c.booking = some b →
    (s.drive.hush = true → ∃ t, exec (.halt p body) s = .next t ∧
      t.engine = { s.engine with active := none } ∧
      t.disposed c.booking b ⟨.halted, none, b.current, c.counts⟩) ∧
    (s.drive.hush = false → ∃ t, exec (.halt p body) s = .next t ∧
      t.links = (s.answered p 0x0A .done []).links ∧
      (∀ top rest bt, s.engine.stack = top :: rest → top.booking ≠ c.booking →
        s.booking? top.booking = some bt →
        ((top.melodyKind = some .score ∧ top.resume.pos.segment ∉ top.failed) ∨
          (top.melodyKind = some .toll ∧ top.pendingHalt ≠ some .atPhrase)) →
        top.melody ≠ none →
        (s.engine.waiting = [] ∨ ∃ n x, s.engine.waiting = [n] ∧ n ≠ c.booking ∧ n ≠ top.booking ∧
          s.booking? n = some x ∧ (x.record.cls = .wait ∨ x.record.rank ≤ top.rank)) →
        t.engine = { s.engine with
          active := some { top with
            mode := .playing, pos := top.resume.pos, tempoNow := top.resume.tempo
            originTime := s.time.clock + 500000, originTick := top.resume.tick, atResume := true }
          stack := rest } ∧
        t.booking? top.booking = some { bt with state := .sounding } ∧
        t.disposed c.booking b ⟨.halted, none, b.current, c.counts⟩ ∧
        (top.melodyKind = some .score → t.player.cur = .reading top.resume.pos.segment)) ∧
      (∀ n x m h, s.engine.waiting = [n] → n ≠ c.booking → s.booking? n = some x →
        (∀ top, s.engine.stack.head? = some top → x.record.cls ≠ .wait ∧ top.rank < x.record.rank) →
        s.drive.ready = true → x.record.melody = some m → (s.melody m).state = .complete →
        (s.melody m).damaged = false → (s.melody m).known? = some h →
        t.engine.active.map Context.booking = some n ∧ t.engine.stack = s.engine.stack ∧
        t.engine.waiting = [] ∧ t.booking? n = some { x with state := .sounding, waiting := none }))) ∧
  (∀ (p : Port) (body : List Byte) (s : State), s.takes p 0x0A body.length = true →
    parseHalt body = some (.all, .now) → s.engine.waiting = [] →
    let contexts := s.engine.active.toList ++ s.engine.stack
    contexts ≠ [] → (∀ x ∈ contexts, x.rank ≤ s.privilege p) → (contexts.map Context.booking).Nodup →
    ∃ t, exec (.halt p body) s = .next t ∧ t.engine = ⟨none, [], []⟩ ∧
      t.links = (s.answered p 0x0A .done []).links ∧
      ∀ x ∈ contexts, ∀ b, s.booking? x.booking = some b →
        (b.record.kind.immediate = false → ∃ b', t.booking? x.booking = some b' ∧ b'.unread = true ∧
          b'.busy = false ∧ b'.lastOutcome = some ⟨.halted, none, b.current, x.counts⟩) ∧
        (b.record.kind.immediate = true → t.booking? x.booking = none)) ∧
  (∀ (p : Port) (body : List Byte) (k : HaltCondition) (above below : List Context) (x : Context)
    (b : Booking) (s : State),
    s.takes p 0x0A body.length = true → parseHalt body = some (.booking x.booking, k) →
    s.engine.stack = above ++ x :: below → (∀ y ∈ above ++ below, y.booking ≠ x.booking) →
    (∀ c, s.engine.active = some c → c.booking ≠ x.booking) → x.rank ≤ s.privilege p →
    s.booking? x.booking = some b →
    (k = .now → ∃ t, exec (.halt p body) s = .next t ∧
      t.engine = { s.engine with stack := above ++ below } ∧ t.planner = s.planner ∧
      t.disposed x.booking b ⟨.halted, none, b.current, x.counts⟩) ∧
    (k ≠ .now → exec (.halt p body) s = .next { s.answered p 0x0A .done [] with
      engine := { s.engine with stack := above ++ { x with
        pendingHalt := if x.pendingHalt = some .atPhrase ∨ k = .atPhrase
          then some .atPhrase else some .atEnd
        lastRepeat := if x.pendingHalt = none ∧ k = .atEnd then x.repeatNo else x.lastRepeat } :: below } })) ∧
  (∀ (p : Port) (body : List Byte) (target : HaltTarget) (k : HaltCondition) (c : Context) (s : State),
    s.takes p 0x0A body.length = true → parseHalt body = some (target, k) → k ≠ .now → s.haltsOnly target c →
    s.engine.active = some c → c.mode = .hushed → c.rank ≤ s.privilege p →
    let stored : Context := { c with
      pendingHalt := if c.pendingHalt = some .atPhrase ∨ k = .atPhrase then some .atPhrase else some .atEnd
      lastRepeat := if c.pendingHalt = none ∧ k = .atEnd then c.repeatNo else c.lastRepeat }
    let t : State := { s.answered p 0x0A .done [] with engine := { s.engine with active := some stored } }
    (c.melodyKind ≠ none → exec (.halt p body) s = .next t) ∧
    (∀ l, c.melodyKind = none → s.live = some l →
      (k = .atPhrase → c.pendingHalt ≠ some .atPhrase → exec (.halt p body) s = .next { t with
        live := some { l with mode := .stopped, queue := [], idle := ⟨0, none⟩ } }) ∧
      (k = .atEnd → c.pendingHalt = none → exec (.halt p body) s = .next { t with
        live := some (if l.mode = .opened then { l with mode := .closing, endsHalted := true, idle := ⟨0, none⟩ }
          else if l.mode = .closing then { l with endsHalted := true } else l) }))) ∧
  (∀ (p : Port) (body : List Byte) (k : HaltCondition) (s : State),
    s.takes p 0x0A body.length = true → parseHalt body = some (.all, k) → k ≠ .now →
    let contexts := s.engine.active.toList ++ s.engine.stack
    contexts ≠ [] → (∀ x ∈ contexts, x.rank ≤ s.privilege p) →
    (∀ c, s.engine.active = some c → c.mode = .hushed ∧ c.melodyKind ≠ none) →
    let stored (x : Context) : Context := { x with
      pendingHalt := if x.pendingHalt = some .atPhrase ∨ k = .atPhrase then some .atPhrase else some .atEnd
      lastRepeat := if x.pendingHalt = none ∧ k = .atEnd then x.repeatNo else x.lastRepeat }
    exec (.halt p body) s = .next { s.answered p 0x0A .done [] with
      engine := { s.engine with active := s.engine.active.map stored, stack := s.engine.stack.map stored } }) ∧
  (∀ (p : Port) (body : List Byte) (target : HaltTarget) (k : HaltCondition) (s : State),
    s.takes p 0x0A body.length = true → parseHalt body = some (target, k) →
    ((target = .active ∧ s.engine.active = none) ∨
      (target = .all ∧ s.engine.active = none ∧ s.engine.stack = []) ∨
      (∃ n, target = .booking n ∧ ∀ x ∈ s.engine.active.toList ++ s.engine.stack, x.booking ≠ n)) →
    exec (.halt p body) s = .next (s.answered p 0x0A .noSuch [])) ∧
  (∀ (p : Port) (body : List Byte) (target : HaltTarget) (k : HaltCondition) (x : Context) (s : State),
    s.takes p 0x0A body.length = true → parseHalt body = some (target, k) →
    ((target = .active ∧ s.engine.active = some x) ∨
      ((target = .all ∨ target = .booking x.booking) ∧ x ∈ s.engine.active.toList ++ s.engine.stack)) →
    s.privilege p < x.rank → exec (.halt p body) s = .next (s.answered p 0x0A .privilege [])) ∧
  (∀ (p : Port) (body : List Byte) (target : HaltTarget) (k : HaltCondition) (c : Context) (s : State),
    s.takes p 0x0A body.length = true → parseHalt body = some (target, k) → k ≠ .now → s.haltsOnly target c →
    s.engine.active = some c → c.mode = .playing → c.rank ≤ s.privilege p →
    ((c.pendingHalt = some .atPhrase ∨ (c.pendingHalt = some .atEnd ∧ k = .atEnd)) → s.rests →
      exec (.halt p body) s = .next (s.answered p 0x0A .done [])) ∧
    (c.melodyKind ≠ none → s.player.done ≠ none → ¬ s.ownsNothing c.booking →
      (k = .atPhrase → c.pendingHalt ≠ some .atPhrase →
        exec (.halt p body) s = .next { s.answered p 0x0A .done [] with
          engine := { s.engine with active := some { c with pendingHalt := some .atPhrase } } }) ∧
      (k = .atEnd → c.pendingHalt = none → s.player.next ≠ .reading 0 → s.player.next ≠ .retrying 0 →
        exec (.halt p body) s = .next { s.answered p 0x0A .done [] with
          engine := { s.engine with active := some { c with
            pendingHalt := some .atEnd, lastRepeat := c.repeatNo } } }))) ∧
  (∀ (p : Port) (body : List Byte) (target : HaltTarget) (c : Context) (s : State),
    s.takes p 0x0A body.length = true → parseHalt body = some (target, .atPhrase) → s.haltsOnly target c →
    s.engine.active = some c → c.mode = .playing → c.rank ≤ s.privilege p →
    c.pendingHalt ≠ some .atPhrase → s.player.done = none →
    let halted : Context := { c with pendingHalt := some .atPhrase }
    let here := (c.repeatNo, c.pos.segment, c.pos.event)
    let pos := (c.pos.segment, c.pos.event)
    let untouched : Prop := c.atResume = true ∨ (c.repeatNo = 1 ∧ c.pos.segment = 0 ∧ c.pos.event = 0)
    let ahead (x : Nat × Nat) : Prop := atOrBefore pos x = true ∧ (untouched → x ≠ pos)
    let starting : Prop := c.pos.segment = 0 ∧ c.pos.event = 0 ∧ 1 < c.repeatNo ∧ c.atResume = false
    (∀ slot, c.melodyKind = some .score → c.melody = some slot →
      let t : State := { s.answered p 0x0A .done [] with
        engine := { s.engine with active := some halted }
        player := { s.player with stopPoint := s.stopFromHere c slot } }
      (t.rests → exec (.halt p body) s = .next t) ∧
      (s.stopFromHere c slot = some here → (∀ k, s.player.cur ≠ .failed k) → ¬ s.ownsNothing c.booking →
        exec (.halt p body) s = .next { s.answered p 0x0A .done [] with
          engine := { s.engine with active := some halted }
          player := ⟨.free, .free, some here, some .complete⟩
          store := s.store.releaseReads (fun _ => true) }) ∧
      (starting → s.stopFromHere c slot = some here) ∧
      (¬ starting →
        (∀ front segment event delta back,
          s.score slot = front ++ (segment, event, Event.phrase delta) :: back →
          ahead (segment, event) →
          (∀ x ∈ front, x.2.2.isPhrase = true → ¬ ahead (x.1, x.2.1)) →
          s.stopFromHere c slot = some (c.repeatNo, segment, event)) ∧
        ((∀ x ∈ s.score slot, x.2.2.isPhrase = true → ¬ ahead (x.1, x.2.1)) →
          s.stopFromHere c slot =
            if c.repeatNo < c.repeats then some (c.repeatNo + 1, 0, 0) else none))) ∧
    (∀ e ∈ s.planner.queue, e.owner = .booking c.booking →
      (c.melodyKind = some .toll → exec (.halt p body) s = .next { s.answered p 0x0A .done [] with
        engine := { s.engine with active := some halted }
        player := { s.player with done := some .complete } }) ∧
      (∀ l, c.melodyKind = none → s.live = some l →
        exec (.halt p body) s = .next { s.answered p 0x0A .done [] with
          engine := { s.engine with active := some halted }
          live := some { l with mode := .stopped, queue := [], idle := ⟨0, none⟩ } })) ∧
    (∀ b, s.engine.stack = [] → s.engine.waiting = [] → s.booking? c.booking = some b →
      s.ownsNothing c.booking →
      (c.melodyKind = some .toll ∨ (c.melodyKind = none ∧ s.live ≠ none) ∨
        (∃ slot, c.melodyKind = some .score ∧ c.melody = some slot ∧ (∀ k, s.player.cur ≠ .failed k) ∧
          s.stopFromHere c slot = some here)) →
      ∃ t, exec (.halt p body) s = .next t ∧ t.engine = ⟨none, [], []⟩ ∧
        t.links = (s.answered p 0x0A .done []).links ∧
        t.disposed c.booking b ⟨.halted, none, b.current, c.counts⟩)) ∧
  (∀ (p : Port) (body : List Byte) (target : HaltTarget) (c : Context) (s : State),
    s.takes p 0x0A body.length = true → parseHalt body = some (target, .atEnd) → s.haltsOnly target c →
    s.engine.active = some c → c.mode = .playing → c.rank ≤ s.privilege p → c.pendingHalt = none →
    s.player.done = none → s.player.stopPoint = none →
    let halted : Context := { c with pendingHalt := some .atEnd, lastRepeat := c.repeatNo }
    (∀ slot, c.melodyKind = some .score → c.melody = some slot → s.rests →
      ((c.pos.segment + 1 < (s.melody slot).segmentCount ∨ (s.melody slot).segmentCount ≤ 1) →
        exec (.halt p body) s = .next { s.answered p 0x0A .done [] with
          engine := { s.engine with active := some halted } }) ∧
      ((s.melody slot).segmentCount ≤ c.pos.segment + 1 → 1 < (s.melody slot).segmentCount →
        ((s.player.next = .reading 0 ∨ s.player.next = .retrying 0) →
          exec (.halt p body) s = .next { s.answered p 0x0A .done [] with
            engine := { s.engine with active := some halted }
            player := { s.player with next := .free }
            store := s.store.releaseReads (· == 0) }) ∧
        (s.player.next ≠ .reading 0 → s.player.next ≠ .retrying 0 →
          exec (.halt p body) s = .next { s.answered p 0x0A .done [] with
            engine := { s.engine with active := some halted } }))) ∧
    (∀ slot pitch strength interval mode h, c.melodyKind = some .toll → c.melody = some slot →
      (s.melody slot).known? = some h → h.shape = .toll pitch strength interval mode →
      (c.pos.number ≤ c.tollCount * c.repeatNo →
        s.time.clock + 400000 < c.originTime + (c.pos.number - c.originTick) * (interval * 1000) →
        exec (.halt p body) s = .next { s.answered p 0x0A .done [] with
          engine := { s.engine with active := some halted } }) ∧
      (c.tollCount * c.repeatNo < c.pos.number →
        (¬ s.ownsNothing c.booking → exec (.halt p body) s = .next { s.answered p 0x0A .done [] with
          engine := { s.engine with active := some halted }
          player := { s.player with done := some .complete } }) ∧
        (∀ b, s.ownsNothing c.booking → s.engine.stack = [] → s.engine.waiting = [] →
          s.booking? c.booking = some b →
          ∃ t, exec (.halt p body) s = .next t ∧ t.engine = ⟨none, [], []⟩ ∧
            t.links = (s.answered p 0x0A .done []).links ∧
            t.disposed c.booking b ⟨.halted, none, b.current, c.counts⟩))) ∧
    (∀ l, c.melodyKind = none → s.live = some l →
      let t : State := { s.answered p 0x0A .done [] with
        engine := { s.engine with active := some halted }
        live := some (if l.mode = .opened then { l with mode := .closing, endsHalted := true, idle := ⟨0, none⟩ }
          else if l.mode = .closing then { l with endsHalted := true } else l) }
      (t.rests → exec (.halt p body) s = .next t) ∧
      (∀ b, l.queue = [] → s.ownsNothing c.booking → s.engine.stack = [] → s.engine.waiting = [] →
        s.booking? c.booking = some b →
        ∃ t, exec (.halt p body) s = .next t ∧ t.engine = ⟨none, [], []⟩ ∧
          t.links = (s.answered p 0x0A .done []).links ∧
          t.disposed c.booking b ⟨.halted, none, b.current, c.counts⟩)))

/-- R57, R68, R69, R111, R145, R146: HUSH_ASSERT hushes an active SCORE or TOLL: its strikes leave uncounted, its
resume point is set, its booking stays, the line level is followed. HUSH_RELEASE makes the arbiter re-evaluate, as
at a fire time with the line released (R128), and restarts it at its resume point, 500,000 µs ahead. With no context
the resume choice follows, which starts a waiting booking; during the load the level alone is followed; a level that
repeats changes nothing (log 35). The resume point of R57: for a SCORE the latest PHRASE of the repetition at or
before the planning position and the earliest entry removed, with its tick and the tempo in force there, else the
repetition's start; for a TOLL the earlier of the two. Entries of an earlier repetition stand before all of it (log
18), and the score is read as the store holds it (log 30). A SCORE that has reached nothing since it was taken up
there keeps the point it had (R61, R69). A TOLL's repeat number becomes the repetition of the toll it goes back to,
for which R69 keeps no number (log 38). A segment that failed for the context is not tried again: one that a restart
would begin with ends it SCORE_DAMAGED (R88; log 44). A LIVE performance is hushed alike, but its strikes are
charged lost, one each, its feed deadline becomes absent, its queue stays and its idle time is held. It restarts at
the tick its head event would have, else at that of the last event taken, with a new feed deadline, in the tempo of
its hushing (log 21), the idle time running on with the queue empty; STOPPED, or CLOSING with nothing left, it ends.
-/
def Obligations.HushSilencesAndReleases : Prop :=
  let released (s v : State) : Prop :=
    exec .fireTimeReached { s with drive := { s.drive with hush := false } } = .next v
  (∀ (c : Context) (s : State), s.drive.hush = false → s.engine.active = some c → c.mode = .playing →
    c.melodyKind ≠ none →
    ∃ t, exec .hushAssert s = .next t ∧
      t.engine = { s.engine with active := some { c with
        mode := .hushed, resume := s.resumePoint c (s.earliestEntry c.booking)
        feedDeadline := none } } ∧
      t.drive = { s.drive with hush := true } ∧ t.book = s.book ∧ t.player = .initial ∧
      t.notices = s.notices ∧ t.time = s.time ∧ t.links = s.links ∧ t.library = s.library ∧
      ∀ e, e ∈ t.planner.queue ↔ e ∈ s.planner.queue ∧ e.owner ≠ .booking c.booking) ∧
  (∀ (c : Context) (s : State), s.drive.hush = true → s.store.loading = false →
    s.engine.active = some c → c.mode = .hushed → c.melodyKind ≠ none → c.melody ≠ none →
    c.pendingHalt = none → s.engine.waiting = [] → s.ownsNothing c.booking →
    (c.melodyKind = some .score → c.resume.pos.segment ∉ c.failed) →
    ∃ v t : State, released s v ∧ exec .hushRelease s = .next t ∧
      t.engine = { s.engine with active := some { c with
        mode := .playing, pos := c.resume.pos, tempoNow := c.resume.tempo
        originTime := s.time.clock + 500000, originTick := c.resume.tick, atResume := true
        repeatNo := if c.melodyKind = some .toll
          then (c.resume.pos.number - 1) / c.tollCount + 1 else c.repeatNo } } ∧
      (∀ slot, c.melodyKind = some .score → c.melody = some slot →
        let after := c.resume.pos.segment + 1
        t.player.cur = .reading c.resume.pos.segment ∧
        (after < (s.melody slot).segmentCount → after ∉ c.failed → t.player.next = .reading after) ∧
        (after < (s.melody slot).segmentCount → after ∈ c.failed → t.player.next = .failed after ∧
          ∀ r ∈ t.store.reads, r ∈ s.store.reads ∨ r.segment = c.resume.pos.segment)) ∧
      t.player.done = none ∧ t.player.stopPoint = none ∧
      t.drive = v.drive ∧ t.book = s.book ∧ t.planner = v.planner ∧
      t.notices = s.notices ∧ t.time = s.time ∧ t.links = s.links ∧ t.library = s.library) ∧
  (∀ (c : Context) (l : LiveFeed) (s : State), s.engine.active = some c → c.melodyKind = none →
    s.live = some l → l.booking = c.booking →
    (s.drive.hush = false → c.mode = .playing → c.counts.lost ≤ 65535 →
      ∃ t, exec .hushAssert s = .next t ∧
        t.engine = { s.engine with active := some { c with
          mode := .hushed, resume := ⟨c.pos, c.pos.tick, c.tempoNow⟩, feedDeadline := none
          counts := { c.counts with lost := min 65535 (c.counts.lost +
            (s.planner.queue.filter fun e => e.owner = .booking c.booking).length) } } } ∧
        t.live = some { l with idle := match l.idle.since with
          | some since => ⟨l.idle.kept + (s.time.clock - since), none⟩
          | none => l.idle } ∧
        t.drive = { s.drive with hush := true } ∧ t.book = s.book ∧ t.player = .initial ∧
        t.notices = s.notices ∧ t.time = s.time ∧ t.links = s.links ∧ t.library = s.library ∧
        ∀ e, e ∈ t.planner.queue ↔ e ∈ s.planner.queue ∧ e.owner ≠ .booking c.booking) ∧
    (s.drive.hush = true → s.store.loading = false → c.mode = .hushed → s.engine.waiting = [] →
      s.ownsNothing c.booking → (l.mode = .opened ∨ (l.mode = .closing ∧ l.queue ≠ [])) →
      let origin := s.time.clock + 500000
      ∃ v : State, released s v ∧ exec .hushRelease s = .next { v with
        player := .initial
        engine := { s.engine with active := some { c with
          mode := .playing, pos := c.resume.pos, tempoNow := c.resume.tempo, originTime := origin
          originTick := c.resume.pos.tick + ((l.queue.head?.map Event.delta).getD 0)
          feedDeadline := some (origin + 48 * (1250000 / c.resume.tempo)), atResume := true } }
        live := some { l with idle := if l.queue = [] ∧ l.mode = .opened
          then ⟨l.idle.kept, some s.time.clock⟩ else ⟨0, none⟩ } }) ∧
    (∀ b, s.drive.hush = true → s.store.loading = false → c.mode = .hushed → s.engine.stack = [] →
      s.engine.waiting = [] → s.ownsNothing c.booking → s.booking? c.booking = some b →
      (l.mode = .stopped ∨ (l.mode = .closing ∧ l.queue = [])) →
      ∃ v t : State, released s v ∧ exec .hushRelease s = .next t ∧ t.engine = ⟨none, [], []⟩ ∧
        t.planner = v.planner ∧ t.drive = v.drive ∧ t.disposed c.booking b
          ⟨if l.mode = .closing ∧ l.endsHalted = false then .played else .halted, none, b.current, c.counts⟩)) ∧
  (∀ (c : Context) (b : Booking) (s : State), s.drive.hush = true → s.store.loading = false →
    s.engine = ⟨some c, [], []⟩ → c.mode = .hushed → c.melodyKind = some .score → c.melody ≠ none →
    c.resume.pos.segment ∈ c.failed → s.ownsNothing c.booking → s.booking? c.booking = some b →
    ∃ v t : State, released s v ∧ exec .hushRelease s = .next t ∧ t.engine = ⟨none, [], []⟩ ∧
      t.planner = v.planner ∧ t.drive = v.drive ∧ t.store.reads = (s.store.releaseReads (fun _ => true)).reads ∧
      t.disposed c.booking b ⟨.scoreDamaged, none, b.current, c.counts⟩) ∧
  (∀ s : State, s.drive.hush = false → s.engine.active = none →
    exec .hushAssert s = .next { s with drive := { s.drive with hush := true } }) ∧
  (∀ s : State, s.drive.hush = true →
    let u : State := { s with drive := { s.drive with hush := false } }
    ((s.quiet = true ∨ s.store.loading = true) → exec .hushRelease s = .next u) ∧
    (s.engineIdle = true → s.store.loading = false → exec .hushRelease s = exec .fireTimeReached u)) ∧
  (∀ (n m : Nat) (b : Booking) (h : MelodyHeader) (s : State), s.drive.hush = true →
    s.drive.ready = true → s.store.loading = false → s.engine = ⟨none, [], [n]⟩ →
    s.booking? n = some b → b.record.melody = some m →
    (s.melody m).state = .complete → (s.melody m).damaged = false → (s.melody m).known? = some h →
    ∃ v t : State, released s v ∧ exec .hushRelease s = .next t ∧ t.engine.active.map Context.booking = some n ∧
      t.engine.stack = [] ∧ t.engine.waiting = [] ∧ t.planner = v.planner ∧ t.drive = v.drive ∧
      t.booking? n = some { b with state := .sounding, waiting := none }) ∧
  (∀ s : State, (s.drive.hush = true → exec .hushAssert s = .next s) ∧
    (s.drive.hush = false → exec .hushRelease s = .next s)) ∧
  (∀ (c : Context) (slot : Nat) (removed : Option ScorePos) (s : State),
    c.melodyKind = some .score → c.melody = some slot →
    (c.atResume = true → s.resumePoint c removed = c.resume) ∧
    (c.atResume = false →
    let dealt (x : Nat × Nat) : Prop := atOrBefore x (c.pos.segment, c.pos.event) = true ∧
      ∀ r, removed = some r → c.repeatNo ≤ r.repeatNo ∧ atOrBefore x (r.segment, r.event) = true
    (∀ front segment event delta back,
      s.score slot = front ++ (segment, event, Event.phrase delta) :: back → dealt (segment, event) →
      (∀ x ∈ back, x.2.2.isPhrase = true → ¬ dealt (x.1, x.2.1)) →
      let before := c.repStart + (front.map fun x => x.2.2.delta).sum
      s.resumePoint c removed = ⟨⟨segment, event, before, 0⟩, before + delta,
        front.foldl (fun tempo x => match x.2.2 with
          | .tempo v _ => max 20 (min 240 v)
          | _ => tempo) c.tempo⟩) ∧
    ((∀ x ∈ s.score slot, x.2.2.isPhrase = true → ¬ dealt (x.1, x.2.1)) →
      s.resumePoint c removed = ⟨⟨0, 0, c.repStart, 0⟩, c.repStart, c.tempo⟩))) ∧
  (∀ (c : Context) (removed : Option ScorePos) (s : State), c.melodyKind = some .toll →
    let k := match removed with
      | none => c.pos.number
      | some r => min r.number c.pos.number
    s.resumePoint c removed = ⟨{ c.pos with number := k }, k, c.tempo⟩) ∧
  (∀ (n : Nat) (s : State),
    (s.earliestEntry n = none ↔ ∀ e ∈ s.planner.queue, e.owner = .booking n → e.pos = none) ∧
    ∀ r, s.earliestEntry n = some r →
      (∃ e ∈ s.planner.queue, e.owner = .booking n ∧ e.pos = some r) ∧
      ∀ e ∈ s.planner.queue, e.owner = .booking n → ∀ x, e.pos = some x → x.before r = false)

/-- R70, R71, R112, R134: DRIVE_READY_FALL releases every coil, raises DRIVE and leaves no context; with a context
its strikes and all others go, with none the queue stands. Each context's booking is disposed DRIVE_LOST with that
context's counts, and a live feed goes with its booking. A released bell is RETURNING with its return limit running
when its sensor is present and open, and else RECOVERING, or READY when its recovery time has passed; the other
bells stand. DRIVE_READY_RISE raises DRIVE and makes the arbiter re-evaluate, as at a fire time with the line high
(R128); while every booking waits on that is all, and a single waiting booking with a playable melody and nothing at
play starts. -/
def Obligations.DriveReadyEdges : Prop :=
  (∀ s : State, s.drive.ready = true →
    (∀ b, b < 64 → (s.bell b).state = .driven → (s.bell b).cycle ≠ none) →
    ∃ t, exec .driveReadyFall s = .next t ∧ t.drive.ready = false ∧
      t.engine = { s.engine with active := none, stack := [] } ∧ t.notices.flags.drive = true ∧
      ((s.engine.active ≠ none ∨ s.engine.stack ≠ []) → t.planner.queue = []) ∧
      (s.engine.active = none → s.engine.stack = [] → t.planner = s.planner ∧ t.book = s.book) ∧
      (∀ b, b < 64 → (t.bell b).state ≠ .driven ∧ (t.bell b).strikes = (s.bell b).strikes) ∧
      (∀ b, b < 64 → (s.bell b).state ≠ .driven → t.bell b = s.bell b) ∧
      (∀ b y, b < 64 → (s.bell b).state = .driven → (s.bell b).cycle = some y →
        t.bell b = (if y.sensor = true ∧ (s.bell b).sensorOpen = true then { s.bell b with
            state := .returning, cycle := some { y with returnLimit := some (s.time.clock + 1000 * y.r) } }
          else if y.a + 1000 * y.h ≤ s.time.clock then { s.bell b with state := .ready, cycle := none }
          else { s.bell b with state := .recovering, cycle := some { y with returnLimit := none } })) ∧
      (s.coilsCounted = true → s.drive.bells.length = 64 → t.drive.energised = 0) ∧
      (let contexts := s.engine.active.toList ++ s.engine.stack
       contexts.length ≤ 4 → (contexts.map Context.booking).Nodup →
        (∀ x ∈ contexts, ∀ b, s.booking? x.booking = some b →
          let o : OutcomeRecord := ⟨.driveLost, none, b.current, x.counts⟩
          t.notices.flags.outcome = true ∧
          (b.record.kind.immediate = false → ∃ b', t.booking? x.booking = some b' ∧ b'.unread = true ∧
            b'.busy = false ∧ b'.lastOutcome = some o) ∧
          (b.record.kind.immediate = true → t.booking? x.booking = none ∧
            ⟨x.booking, b.record.kind, o⟩ ∈ t.book.orphans ∧
            ∀ l, s.live = some l → l.booking = x.booking → t.live = none)) ∧
        (∀ l, s.live = some l → (∀ x ∈ contexts, x.booking ≠ l.booking) → t.live = some l) ∧
        (∀ n, (∀ x ∈ contexts, x.booking ≠ n) → t.booking? n = s.booking? n)) ∧
      t.drive.hush = s.drive.hush ∧ t.drive.level = s.drive.level ∧ t.time = s.time ∧
      t.links = s.links) ∧
  (∀ s : State, s.drive.ready = false →
    let u : State := { s with drive := { s.drive with ready := true } }.raise .drive
    (s.quiet = true → exec .driveReadyRise s = .next u) ∧
    ∃ v : State, exec .fireTimeReached u = .next v ∧ (v.allWait → exec .driveReadyRise s = .next v)) ∧
  (∀ (n m : Nat) (b : Booking) (h : MelodyHeader) (s : State), s.drive.ready = false →
    s.drive.hush = false → s.store.loading = false → s.engine = ⟨none, [], [n]⟩ →
    s.booking? n = some b → b.record.melody = some m →
    (s.melody m).state = .complete → (s.melody m).damaged = false → (s.melody m).known? = some h →
    ∃ v t : State, exec .fireTimeReached ({ s with drive := { s.drive with ready := true } }.raise .drive) = .next v ∧
      exec .driveReadyRise s = .next t ∧ t.engine.active.map Context.booking = some n ∧
      t.engine.stack = [] ∧ t.engine.waiting = [] ∧ t.planner = v.planner ∧ t.drive = v.drive ∧
      t.notices = v.notices ∧ t.booking? n = some { b with state := .sounding, waiting := none })

/-! ## Live play -/

/-- R82, R141–R143, R145: LIVE_NOTES, whether its performance waits, is hushed or plays, appends as many events as
fit in 32 places, none when STOPPED, stops the idle time of an empty queue, and reports the queue as it leaves it.
LIVE_CLOSE turns OPEN to CLOSING and else changes nothing; with nothing queued and no strike of its own left it ends
the PLAYING performance PLAYED, its feed going. While the performance at play rests (log 55) that is all; else the
Score Player goes on as at the horizon, where an event is taken that has come within it. Without a LIVE booking both
are answered NO_SUCH. -/
def Obligations.LiveNotesAndClose : Prop :=
  (∀ (p : Port) (body : List Byte) (es : List Event) (l : LiveFeed) (s : State),
    s.takes p 0x0D body.length = true → parseLiveNotes body = some es → s.live = some l →
    let k := if l.mode = .stopped then 0 else min es.length (32 - l.queue.length)
    let t : State := { s.answered p 0x0D .done
        (be 1 k ++ be 1 (l.queue.length + k) ++ be 1 l.booking ++ be 1 (s.liveState l.booking)
          ++ be 1 l.mode.code ++ be 2 l.underruns) with
      live := some { l with
        queue := l.queue ++ es.take k
        idle := if l.queue = [] ∧ k ≠ 0 then ⟨0, none⟩ else l.idle } }
    (t.rests → exec (.liveNotes p body) s = .next t) ∧
    exec (.liveNotes p body) s = exec .planningHorizonReached t) ∧
  (∀ (p : Port) (l : LiveFeed) (s : State), s.takes p 0x0E 0 = true → s.live = some l →
    let l' := if l.mode = .opened
      then { l with mode := .closing, endsHalted := false, idle := ⟨0, none⟩ } else l
    let t : State := { s.answered p 0x0E .done
        (be 1 l.booking ++ be 1 l'.mode.code ++ be 1 l.queue.length ++ be 2 l.underruns) with
      live := some l' }
    (t.rests → exec (.liveClose p []) s = .next t) ∧
    exec (.liveClose p []) s = exec .planningHorizonReached t ∧
    (∀ c b, s.engine = ⟨some c, [], []⟩ → c.mode = .playing → c.melodyKind = none → l.booking = c.booking →
      l.mode = .opened → l.queue = [] → s.ownsNothing c.booking → s.booking? c.booking = some b →
      b.record.kind = .live →
      ∃ u, exec (.liveClose p []) s = .next u ∧ u.engine = ⟨none, [], []⟩ ∧ u.live = none ∧
        u.links = t.links ∧ u.disposed c.booking b ⟨.played, none, b.current, c.counts⟩)) ∧
  (∀ (p : Port) (s : State), s.takes p 0x0E 0 = true → s.live = none →
    exec (.liveClose p []) s = .next (s.answered p 0x0E .noSuch [])) ∧
  (∀ (p : Port) (body : List Byte) (es : List Event) (s : State),
    s.takes p 0x0D body.length = true → parseLiveNotes body = some es → s.live = none →
    exec (.liveNotes p body) s = .next (s.answered p 0x0D .noSuch []))

/-- R144, R145: FEED_DEADLINE reached makes the deadline absent, and with an empty queue, an OPEN feed and
a PLAYING context it counts one underrun and raises FEED. IDLE_LIMIT after 30 s of idle time ends the
performance CUT, IDLE, and the booking goes to the orphan list with its feed. That the two commands change
nothing before their time is the model's choice (log 3). -/
def Obligations.LiveClockEvents : Prop :=
  (∀ (c : Context) (d : Nat) (l : LiveFeed) (s : State), s.engine.active = some c →
    c.feedDeadline = some d → d ≤ s.time.clock → s.live = some l →
    (l.queue = [] → l.mode = .opened → c.mode = .playing →
      exec .feedDeadline s = .next ({ s with
        engine := { s.engine with active := some { c with feedDeadline := none } }
        live := some { l with underruns := min 65535 (l.underruns + 1) } }.raise .feed)) ∧
    ((l.queue ≠ [] ∨ l.mode ≠ .opened ∨ c.mode ≠ .playing) →
      exec .feedDeadline s = .next { s with
        engine := { s.engine with active := some { c with feedDeadline := none } } })) ∧
  (∀ (c : Context) (d : Nat) (s : State), s.engine.active = some c → c.feedDeadline = some d →
    s.time.clock < d → exec .feedDeadline s = .next s) ∧
  (∀ (c : Context) (l : LiveFeed) (b : Booking) (t0 : Nat) (s : State), s.engine = ⟨some c, [], []⟩ →
    c.melodyKind = none → c.mode = .playing → s.live = some l → l.mode = .opened → l.queue = [] →
    l.booking = c.booking → l.idle.since = some t0 →
    30000000 ≤ l.idle.kept + (s.time.clock - t0) → s.booking? c.booking = some b →
    b.record.kind = .live →
    ∃ t, exec .idleLimit s = .next t ∧ t.engine = ⟨none, [], []⟩ ∧ t.live = none ∧
      t.booking? c.booking = none ∧ t.notices.flags.outcome = true ∧
      t.book.orphans.getLast? = some ⟨c.booking, .live, ⟨.cut, some .idle, b.current, c.counts⟩⟩ ∧
      ∀ e ∈ t.planner.queue, e.owner ≠ .booking c.booking) ∧
  (∀ (l : LiveFeed) (t0 : Nat) (s : State), s.live = some l → l.idle.since = some t0 →
    l.idle.kept + (s.time.clock - t0) < 30000000 → exec .idleLimit s = .next s)

/-! ## The melody library and the store -/

/-- R150, R151, R154–R156, R159, R169: DEFINE_MELODY, STORE_SEGMENT and ERASE_MELODY of an unguarded slot that
allows them, with the store IDLE, mark the operation pending at the slot and begin it; an accepted erase
makes the slot EMPTY, its header absent, at once; that its positions stand until the erase completes is the
model's choice (log 40). A guarded slot is refused GUARDED and nothing else happens. -/
def Obligations.LibraryRequestsBegin : Prop :=
  (∀ (p : Port) (body : List Byte) (m : Nat) (h : MelodyHeader) (s : State),
    s.takes p 0x0F body.length = true → parseDefine body = some (m, h) →
    (s.guarded m = true → exec (.defineMelody p body) s = .next (s.answered p 0x0F .guarded [])) ∧
    (s.guarded m = false → (s.melody m).state ≠ .empty →
      exec (.defineMelody p body) s = .next (s.answered p 0x0F .notEmpty [])) ∧
    (s.guarded m = false → (s.melody m).state = .empty → s.store.state = .idle →
      exec (.defineMelody p body) s = .next ((s.accepted p (.define m h)).modMelody m fun x =>
        { x with pending := .define }))) ∧
  (∀ (p : Port) (body : List Byte) (g : Segment) (h : MelodyHeader) (count : Nat) (s : State),
    s.takes p 0x10 body.length = true → parseStoreSegment body = some g →
    (s.guarded g.slot = true →
      exec (.storeSegment p body) s = .next (s.answered p 0x10 .guarded [])) ∧
    (s.guarded g.slot = false → (s.melody g.slot).state = .defined →
      (s.melody g.slot).header = .known h → h.shape = .score count → g.index < count →
      (s.melody g.slot).positions.getD g.index .absent = .absent → s.store.state = .idle →
      exec (.storeSegment p body) s =
        .next ((s.accepted p (.segment g.slot g.index (body.drop 1))).modMelody g.slot fun x =>
          { x with pending := .segment g.index }))) ∧
  (∀ (p : Port) (m : Nat) (s : State), m < 64 → s.takes p 0x12 1 = true →
    (s.guarded m = true →
      exec (.eraseMelody p [BitVec.ofNat 8 m]) s = .next (s.answered p 0x12 .guarded [])) ∧
    (s.guarded m = false → s.melodyInUse m = true →
      exec (.eraseMelody p [BitVec.ofNat 8 m]) s = .next (s.answered p 0x12 .inUse [])) ∧
    (s.guarded m = false → s.melodyInUse m = false → (s.melody m).state ≠ .empty →
      s.store.state = .idle →
      exec (.eraseMelody p [BitVec.ofNat 8 m]) s =
        .next ((s.accepted p (.erase m)).modMelody m fun x =>
          { x with state := .empty, header := .absent, pending := .erase })))

/-- R158: MELODY_INFO is answered with the slot and the library as they stand and changes nothing but
its own port; a number that is no slot is BAD_FIELD. In that body the index of a pending operation without one
(log 23) and the base tempo of a TOLL (log 36) are free values, and the positions of a slot whose erase is
pending stand (log 40): the model's choices. -/
def Obligations.MelodyInfoAnswersTheSlot : Prop :=
  ∀ (p : Port) (x : Byte) (s : State), s.takes p 0x13 1 = true →
    (x.toNat < 64 →
      exec (.melodyInfo p [x]) s = .next (s.answered p 0x13 .done (s.encMelody x.toNat))) ∧
    (64 ≤ x.toNat → exec (.melodyInfo p [x]) s = .next (s.answered p 0x13 .badField []))

/-- R85, R87, R88, R157, R170: READ_SEGMENT of a stored position joins the read queue. SEGMENT_READ_COMPLETION of it
answers the bytes as read, their CRC and the result of the check, FAILED for a part-written or blank place. For the
Score Player a good read fills the buffer; a first bad one, from noise, a part-written or a blank place, is asked
for again at the tail; a second one sets DAMAGED and raises STORE, and with no strike of its own left the
performance ends SCORE_DAMAGED, else its planning is done. A read whose buffer was released delivers nothing. The
check passes exactly when the header names the slot and the segment, the count lies within the capacity of its
length code, and the CRC matches; the buffer then holds the header's fields, as the bytes give them, and the events
the bytes carry, whatever stands in them: four bytes that are no event of the layout are a free event (log 17). The
noise of one read is an operand (log 12); what a part-written or blank place reads as is free (log 11). -/
def Obligations.SegmentReads : Prop :=
  (∀ (m i : Nat) (got : List Byte),
    let code := byteAt got 2
    let count := fromBe (slice got 3 2)
    ((checkRead m i got).isSome = true ↔ byteAt got 0 = m ∧ byteAt got 1 = i ∧ code ≤ 3 ∧ 1 ≤ count ∧
      count ≤ 32 * 2 ^ code ∧ (crc16 (got.take 5 ++ got.drop 7)).toNat = fromBe (slice got 5 2)) ∧
    (∀ g, checkRead m i got = some g → g = ⟨m, i, code, count, fromBe (slice got 5 2), g.events⟩ ∧
      g.events.length = (got.length - 7) / 4 ∧
      ∀ k e, k < g.events.length → parseEvent (slice got (7 + 4 * k) 4) = some e → g.events[k]? = some e) ∧
    (∀ g, parseSegment got = some g → checkRead g.slot g.index got = some g)) ∧
  (∀ (p : Port) (m i : Nat) (h : MelodyHeader) (count : Nat) (s : State), m < 64 → i < 16 →
    s.takes p 0x11 2 = true → (s.melody m).state ≠ .empty → (s.melody m).header = .known h →
    h.shape = .score count → i < count → (s.melody m).positions.getD i .absent ≠ .absent →
    s.store.reads.length < 8 →
    exec (.readSegment p [BitVec.ofNat 8 m, BitVec.ofNat 8 i]) s = .next { s.taken p with
      store := { s.store with
        reads := s.store.reads ++ [⟨m, i, .port p⟩]
        suspending := s.store.suspending || s.store.working } }) ∧
  (∀ (p : Port) (m i : Nat) (rest : List ReadRequest) (noise bytes : List Byte) (s : State),
    s.store.reads = ⟨m, i, .port p⟩ :: rest → s.store.working = false →
    (rest ≠ [] ∨ (s.store.state = .idle ∧ s.store.op = none)) → s.engine.active = none →
    s.links.resetPending = false →
    let got := readBytes noise bytes
    (s.segmentPlace m i = .programmed bytes →
      exec (.segmentReadCompletion noise) s =
        .next (({ s with store := { s.store with reads := rest } } : State).modPort p fun q =>
          { q with ready := q.ready ++ [⟨.done, 0x11, got ++ be 2 (computedCrc got).toNat
            ++ be 1 (if (checkRead m i got).isSome then 0 else 1)⟩] })) ∧
    (s.segmentPlace m i = .spoiled bytes →
      exec (.segmentReadCompletion noise) s =
        .next (({ s with store := { s.store with reads := rest } } : State).modPort p fun q =>
          { q with ready := q.ready ++
            [⟨.done, 0x11, got ++ be 2 (computedCrc got).toNat ++ be 1 1⟩] })) ∧
    (s.segmentPlace m i = .blank →
      ∃ free : List Byte, exec (.segmentReadCompletion noise) s =
        .next (({ s with
          store := { s.store with reads := rest }
          freeCount := s.freeCount + 1 } : State).modPort p fun q =>
          { q with ready := q.ready ++
            [⟨.done, 0x11, free ++ be 2 (computedCrc free).toNat ++ be 1 1⟩] }))) ∧
  (∀ (c : Context) (m i : Nat) (rest : List ReadRequest) (noise bytes : List Byte) (g : Segment)
    (e : Event) (first : Buffer) (s : State),
    s.store.reads = ⟨m, i, .buffer false⟩ :: rest → s.store.working = false →
    (rest ≠ [] ∨ (s.store.state = .idle ∧ s.store.op = none)) → s.engine.active = some c →
    c.mode = .playing → c.melodyKind = some .score → c.melody = some m →
    (first = .reading i ∨ first = .retrying i) → s.player = ⟨first, .free, none, none⟩ →
    s.segmentPlace m i = .programmed bytes →
    checkRead m i (readBytes noise bytes) = some g → g.events[c.pos.event]? = some e →
    s.time.clock + 400000 < c.dueAt (c.pos.tick + e.delta) →
    exec (.segmentReadCompletion noise) s = .next { s with
      store := { s.store with reads := rest }, player := ⟨.held g, .free, none, none⟩ }) ∧
  (∀ (c : Context) (m i : Nat) (rest : List ReadRequest) (noise : List Byte) (s : State),
    s.store.reads = ⟨m, i, .buffer false⟩ :: rest → s.store.working = false →
    s.engine.active = some c → c.mode = .playing → c.melodyKind = some .score → c.melody = some m →
    (s.segmentPlace m i = .blank ∨ (∃ bytes, s.segmentPlace m i = .spoiled bytes) ∨
      ∃ bytes, s.segmentPlace m i = .programmed bytes ∧
        checkRead m i (readBytes noise bytes) = none) →
    (s.player = ⟨.reading i, .free, none, none⟩ → rest.length < 8 →
      exec (.segmentReadCompletion noise) s = .next { s with
        store := { s.store with reads := rest ++ [⟨m, i, .buffer false⟩] }
        player := ⟨.retrying i, .free, none, none⟩ }) ∧
    (s.player = ⟨.retrying i, .free, none, none⟩ → m < s.library.slots.length →
      ∃ t, exec (.segmentReadCompletion noise) s = .next t ∧ (t.melody m).damaged = true ∧
        (∀ k, k ≠ m → t.melody k = s.melody k) ∧ t.notices.flags.store = true ∧
        (¬ s.ownsNothing c.booking →
          t.engine = { s.engine with active := some { c with failed := i :: c.failed } } ∧ t.book = s.book ∧
          t.player = ⟨.failed i, .free, none, some .damaged⟩) ∧
        (∀ b, s.engine = ⟨some c, [], []⟩ → s.ownsNothing c.booking →
          s.booking? c.booking = some b →
          t.engine = ⟨none, [], []⟩ ∧
          t.disposed c.booking b ⟨.scoreDamaged, none, b.current, c.counts⟩))) ∧
  (∀ (m i : Nat) (rest : List ReadRequest) (noise : List Byte) (s : State),
    s.store.reads = ⟨m, i, .buffer true⟩ :: rest → s.store.working = false →
    (rest ≠ [] ∨ (s.store.state = .idle ∧ s.store.op = none)) → s.engine.active = none →
    exec (.segmentReadCompletion noise) s = .next { s with store := { s.store with reads := rest } })

/-- R160–R164: SET_PROTECTION on the service port. LOCK sets the lock flag; a new mode and guard are
programmed with the next sequence number; while the lock flag is set, in PERMANENT, and in KEYED with KEY
off, everything is answered PROTECTED. KEY_CHANGE is followed, and gives the service port rank 3. -/
def Obligations.ProtectionAndKey : Prop :=
  (∀ (body : List Byte) (x : ProtectionRequest) (s : State),
    s.takes .service 0x19 body.length = true → parseProtection body = some x →
    ((s.library.lockFlag = true ∨ s.library.protection.mode = .permanent ∨
        (s.library.protection.mode = .keyed ∧ s.library.key = false)) →
      exec (.setProtection .service body) s = .next (s.answered .service 0x19 .isProtected [])) ∧
    (s.library.lockFlag = false →
      (s.library.protection.mode = .opened ∨
        (s.library.protection.mode = .keyed ∧ s.library.key = true)) →
      (x = .lock → exec (.setProtection .service body) s =
        .next { s.answered .service 0x19 .done [] with
          library := { s.library with lockFlag := true } }) ∧
      (∀ mode guard, x = .program mode guard → s.store.state = .idle →
        exec (.setProtection .service body) s = .next (s.accepted .service (.setProtection
          ⟨mode, guard, (s.library.protection.sequence + 1) % 256⟩))))) ∧
  (∀ (on : Bool) (s : State), ∃ t, exec (.keyChange on) s = .next t ∧
    t = { s with library := { s.library with key := on } } ∧
    t.privilege .main = 2 ∧ t.privilege .service = if on then 3 else 2)

/-- R39, R40, R42, R113, R115, R119, R131, R133, R151, R155, R156, R161, R166, R172: STORE_COMPLETION, verified,
with no strike planned and nothing playing or waiting: the owner applies the result, the place holds it, the store
is IDLE and the port gets DONE. A BOOK occupies its slot, an AMEND changes its record and keeps the device-owned
fields, a WITHDRAW frees the slot. Whatever plays: a BOOK or AMEND whose next occurrence is the second in force
falls due at once (R23), an amended DUE booking is re-placed in the waiting list (R40), and a WITHDRAW takes a DUE
booking out of it or ends a SOUNDING or SUSPENDED one (R42, R63). SET_BELL's record has every strike planned on the
bell go, charged lost to the performance at play, and frees the coil of a DRIVEN bell made OFF, which a note of this
very instant still names (R100, stage 2; log 62); SET_DRIVE's settings move K and the level; then the arbiter
re-evaluates, as at a fire time. -/
def Obligations.VerifiedCompletionApplies : Prop :=
  (∀ (p : Port) (s : State), (s.store.state = .programming ∨ s.store.state = .erasing) →
    s.store.suspending = false → s.links.resetPending = false →
    let done (body : List Byte) (code : Byte) : Links := (s.modPort p fun q =>
      { q with ready := q.ready ++ [⟨.done, code, body⟩] }).links
    (∀ n r, s.store.op = some ⟨.book n r, p, true⟩ → 1 ≤ n → n ≤ s.book.slots.length →
      r.enabled = true → s.time.state ≠ .unset → r.firstFrom s.time.second = some s.time.second →
      ∃ t, exec (.storeCompletion .verified) s = .next t ∧ t.store.state = .idle ∧
        t.links = done (be 1 n) 0x01 ∧ s.fellDueAtOnce t n r) ∧
    (∀ n r b, s.store.op = some ⟨.amend n r, p, true⟩ → s.booking? n = some b →
      let b' := { b with record := r }.recompute s.time
      (b.busy = false → b'.next = some s.time.second →
        ∃ t, exec (.storeCompletion .verified) s = .next t ∧ t.store.state = .idle ∧
          t.links = done [] 0x02 ∧ s.fellDueAtOnce t n r) ∧
      (b.state = .due → b'.next ≠ some s.time.second → n ∈ s.engine.waiting →
        (∀ k ∈ s.engine.waiting, s.booking? k ≠ none) →
        (s.drive.hush = true ∨ ∃ c, s.engine.active = some c ∧ (r.rank ≤ c.rank ∨ r.cls = .wait) ∧
          ∀ k ∈ s.engine.waiting, ∀ x, k ≠ n → s.booking? k = some x →
            x.record.rank ≤ c.rank ∨ x.record.cls = .wait) →
        ∃ t, exec (.storeCompletion .verified) s = .next t ∧ t.store.state = .idle ∧
          t.links = done [] 0x02 ∧ s.rePlaced t n b')) ∧
    (∀ n b, s.store.op = some ⟨.withdraw n, p, true⟩ → s.booking? n = some b →
      ∃ t, exec (.storeCompletion .verified) s = .next t ∧ t.store.state = .idle ∧
        t.links = done [] 0x03 ∧ s.withdrawn t n b) ∧
    let completed (code : Byte) (v : State) : State :=
      ({ v with store := { v.store with state := .idle, op := none, suspending := false } } : State).modPort p
        fun q => { q with ready := q.ready ++ [⟨.done, code, []⟩] }
    (∀ b r, s.store.op = some ⟨.setBell b r, p, true⟩ →
      let placed : State := { s with
        store := { s.store with places := s.store.places.verified (.setBell b r) } }
      let changed := (placed.modBell b fun x => { x with
        record := r
        state := if r.present = false then .off else if x.state = .off then .ready else x.state
        cycle := if r.present = true then x.cycle else none
        wentOut := if r.present = true then x.wentOut else placed.goneMark x }).bellCleared b
      let u := if (s.bell b).state = .driven ∧ r.present = false then changed.coilFreed else changed
      ∃ v : State, exec .fireTimeReached u = .next v ∧
        exec (.storeCompletion .verified) s = .next (completed 0x14 v)) ∧
    (∀ d, s.store.op = some ⟨.setDrive d, p, true⟩ →
      let m := s.drive.measurement
      let new : BankLevel := match s.drive.level with
        | .normal => if m < d.critical then .critical else if m < d.low then .low else .normal
        | .low => if m < d.critical then .critical else if d.low + 8 ≤ m then .normal else .low
        | .critical => if d.low + 8 ≤ m then .normal else if d.critical + 8 ≤ m then .low else .critical
      let waits : Prop := d.k < s.drive.k ∧ d.k < s.drive.energised
      let u : State := ({ s with
        store := { s.store with places := s.store.places.verified (.setDrive d) }
        drive := { s.drive with
          low := d.low, critical := d.critical, level := new
          k := if waits then s.drive.k else d.k
          requestedK := if waits then some d.k else none } } : State).raiseIf (s.drive.level != new) .drive
      ∃ v : State, exec .fireTimeReached u = .next v ∧
        exec (.storeCompletion .verified) s = .next (completed 0x18 v))) ∧
  ∀ (job : StoreJob) (p : Port) (s : State), s.store.op = some ⟨job, p, true⟩ →
    (s.store.state = .programming ∨ s.store.state = .erasing) → s.store.suspending = false →
    s.links.resetPending = false → s.quiet = true →
    ∃ t, exec (.storeCompletion .verified) s = .next t ∧ t.store.state = .idle ∧ t.store.op = none ∧
      t.time = s.time ∧ t.links = (s.modPort p fun q =>
        { q with ready := q.ready ++ [⟨.done, job.code, job.answerBody⟩] }).links ∧
      t.store.places = s.store.places.verified job ∧
      (∀ n r, job = .book n r → 1 ≤ n → n ≤ s.book.slots.length →
        let next := if r.enabled = true ∧ s.time.state ≠ .unset then r.firstFrom s.time.second else none
        next ≠ some s.time.second → t.engine = s.engine ∧ t.book = s.book.setSlot n (.occupied {
          record := r, next := next
          state := if r.enabled = false then .dormant
            else if s.time.state = .unset ∨ next ≠ none then .armed else .spent
          current := none, creation := none, waiting := none, lastDisposed := none
          lastOutcome := none, unread := false, missed := 0 })) ∧
      (∀ n r b, job = .amend n r → s.booking? n = some b → b.busy = false →
        let b' := { b with record := r }.recompute s.time
        b'.next ≠ some s.time.second → t.engine = s.engine ∧
          t.book = s.book.setSlot n (.occupied b') ∧ b'.record = r ∧
          b'.next = { b with record := r }.nextOccurrence s.time ∧
          b'.lastOutcome = b.lastOutcome ∧ b'.unread = b.unread ∧ b'.missed = b.missed ∧
          b'.lastDisposed = b.lastDisposed ∧ b'.current = b.current ∧ b'.waiting = b.waiting) ∧
      (∀ n b, job = .withdraw n → s.booking? n = some b → b.busy = false →
        t.engine = s.engine ∧ t.book = s.book.setSlot n .free) ∧
      ((∀ n r, job ≠ .book n r) → (∀ n r, job ≠ .amend n r) → (∀ n, job ≠ .withdraw n) →
        t.book = s.book ∧ t.engine = s.engine ∧ t.live = s.live) ∧
      (∀ m h, job = .define m h → m < s.library.slots.length →
        (t.melody m).header = .known h ∧ (t.melody m).pending = .none ∧
        (t.melody m).damaged = false ∧ (t.melody m).positions = List.replicate 16 .absent ∧
        (∀ n, h.shape = .score n → (t.melody m).state = .defined) ∧
        (∀ a b c d, h.shape = .toll a b c d → (t.melody m).state = .complete)) ∧
      (∀ m i bytes, job = .segment m i bytes → m < s.library.slots.length →
        (t.melody m).positions = (s.melody m).positions.set i .present ∧
        (t.melody m).pending = .none ∧
        (allPresent ((s.melody m).positions.set i .present) (s.melody m).segmentCount = true →
          (t.melody m).state = .complete)) ∧
      (∀ m, job = .erase m → m < s.library.slots.length → t.melody m = MelodySlot.initial) ∧
      (∀ r, job = .setProtection r → t.library.protection = r ∧
        t.store.places.copyA = .whole r ∧ t.store.places.copyB = .whole r) ∧
      (∀ b r, job = .setBell b r → b < s.drive.bells.length →
        (t.bell b).record = r ∧
        (r.present = false → (t.bell b).state = .off) ∧
        (r.present = true → (s.bell b).state = .off → (t.bell b).state = .ready) ∧
        (r.present = true → (s.bell b).state ≠ .off → (t.bell b).state = (s.bell b).state)) ∧
      (∀ d, job = .setDrive d → t.drive.low = d.low ∧ t.drive.critical = d.critical ∧
        (s.drive.energised ≤ d.k → t.drive.k = d.k ∧ t.drive.requestedK = none) ∧
        (d.k < s.drive.energised → d.k < s.drive.k →
          t.drive.k = s.drive.k ∧ t.drive.requestedK = some d.k))

/-- R166, R172: STORE_COMPLETION with a verify failure: STORE is raised, the store is IDLE and the port gets
STORE_FAULT. The place fails its check with its failed-program marker set, or the copy being written fails. A
BOOK's slot is free, a header is unreadable and its slot DAMAGED, a segment's position is SPOILED; a record
that was to be amended, a bell, the drive and the protection stay in force. The positions of a slot whose
define or erase failed stay as they stood (log 45). What a failed erase leaves in its places and program-begun
markers (logs 37, 53) is the model's choice. -/
def Obligations.FailedCompletionApplies : Prop :=
  ∀ (job : StoreJob) (p : Port) (x : Completion) (s : State), x ≠ .verified →
    s.store.op = some ⟨job, p, true⟩ →
    (s.store.state = .programming ∨ s.store.state = .erasing) → s.store.suspending = false →
    s.links.resetPending = false →
    ∃ t, exec (.storeCompletion x) s = .next t ∧ t.store.state = .idle ∧ t.store.op = none ∧
      t.notices = { s.notices with flags := { s.notices.flags with store := true } } ∧
      t.links = (s.modPort p fun q =>
        { q with ready := q.ready ++ [⟨.storeFault, job.code, []⟩] }).links ∧
      t.time = s.time ∧ t.engine = s.engine ∧ t.drive = s.drive ∧
      t.library.protection = s.library.protection ∧
      job.failureLeaves (decide (x = .failedAtCopyB)) s.store.places t.store.places ∧
      (∀ n r, job = .book n r → 1 ≤ n → n ≤ s.book.slots.length → t.book = s.book.setSlot n .free) ∧
      (∀ m h, job = .define m h → m < s.library.slots.length →
        (t.melody m).header = .unreadable ∧ (t.melody m).damaged = true ∧
        (t.melody m).state = .complete ∧ (t.melody m).pending = .none ∧
        (t.melody m).positions = (s.melody m).positions) ∧
      (∀ m i bytes, job = .segment m i bytes → m < s.library.slots.length →
        (t.melody m).positions = (s.melody m).positions.set i .spoiled ∧
        (t.melody m).pending = .none) ∧
      (∀ m, job = .erase m → m < s.library.slots.length →
        (t.melody m).header = .unreadable ∧ (t.melody m).damaged = true ∧
        (t.melody m).state = .complete ∧ (t.melody m).pending = .none ∧
        (t.melody m).positions = (s.melody m).positions) ∧
      (job.melodySlot? = none → t.library = s.library) ∧
      ((∀ n r, job ≠ .book n r) → t.book = s.book)

/-- R171: SUSPEND_END pauses the operation at work; the last read of the queue lets it go on. That the
command changes nothing with no suspend running is the model's choice (log 3). -/
def Obligations.SuspendPausesTheOperation : Prop :=
  (∀ s : State, s.store.suspending = true →
    (s.store.state = .programming → exec .suspendEnd s =
      .next { s with store := { s.store with state := .programSuspended, suspending := false } }) ∧
    (s.store.state = .erasing → exec .suspendEnd s =
      .next { s with store := { s.store with state := .eraseSuspended, suspending := false } })) ∧
  (∀ s : State, s.store.suspending = false → exec .suspendEnd s = .next s) ∧
  (∀ (m i : Nat) (noise : List Byte) (s : State), s.store.reads = [⟨m, i, .buffer true⟩] →
    s.engine.active = none →
    (s.store.state = .programSuspended →
      ∃ t, exec (.segmentReadCompletion noise) s = .next t ∧ t.store.state = .programming ∧
        t.store.reads = []) ∧
    (s.store.state = .eraseSuspended →
      ∃ t, exec (.segmentReadCompletion noise) s = .next t ∧ t.store.state = .erasing ∧
        t.store.reads = []))

/-! ## Bells, hammers and the drive supply -/

/-- R14, R73, R121: READ_TIME, PERFORMANCE_STATUS and BELL_STATUS are answered with the state as it stands and
change nothing but their own port. That READ_TIME shows what a waiting normal advance leaves when the sub-second
count has reached 1,000,000 is the model's choice (log 42). -/
def Obligations.StatusRequestsAnswer : Prop :=
  ∀ (p : Port) (s : State),
    (s.takes p 0x1B 0 = true →
      (s.time.sub < 1000000 →
        exec (.readTime p []) s = .next (s.answered p 0x1B .done s.time.encode)) ∧
      (1000000 ≤ s.time.sub → s.time.sub < 2000000 → s.time.second < 3155760000 →
        exec (.readTime p []) s = .next (s.answered p 0x1B .done
          (if s.time.second + 1 = 3155760000
            then { s.time with second := 0, sub := s.time.sub - 1000000, state := .unset }.encode
            else { s.time with
              second := s.time.second + 1, sub := s.time.sub - 1000000 }.encode)))) ∧
    (s.takes p 0x0B 0 = true →
      exec (.performanceStatus p []) s = .next (s.answered p 0x0B .done s.encPerformance)) ∧
    (∀ b, b < 64 → s.takes p 0x15 1 = true →
      exec (.bellStatus p [BitVec.ofNat 8 b]) s =
        .next (s.answered p 0x15 .done (encBell b (s.bell b) ++ s.drive.encode)))

/-- R120: RESTORE_BELL: OFF is answered NO_SUCH, FAULTED becomes READY and the arbiter re-evaluates, as at a fire
time in the state with the bell READY (with nothing planned or playing that fires nothing); any other state is
answered DONE and unchanged. -/
def Obligations.RestoreBellClearsTheFault : Prop :=
  ∀ (p : Port) (b : Nat) (s : State), b < 64 → s.takes p 0x16 1 = true →
    ((s.bell b).state = .off →
      exec (.restoreBell p [BitVec.ofNat 8 b]) s = .next (s.answered p 0x16 .noSuch [])) ∧
    ((s.bell b).state = .faulted →
      (s.quiet = true → exec (.restoreBell p [BitVec.ofNat 8 b]) s =
        .next ((s.answered p 0x16 .done []).modBell b fun x =>
          { x with state := .ready, cycle := none })) ∧
      ∃ v : State, exec .fireTimeReached ((s.taken p).modBell b fun x => { x with state := .ready, cycle := none }) =
          .next v ∧
        exec (.restoreBell p [BitVec.ofNat 8 b]) s = .next (v.modPort p fun q =>
          { q with ready := q.ready ++ [⟨.done, 0x16, []⟩] })) ∧
    ((s.bell b).state ≠ .off → (s.bell b).state ≠ .faulted →
      exec (.restoreBell p [BitVec.ofNat 8 b]) s = .next (s.answered p 0x16 .done []))

/-- R100, R108, R109, R137: TEST_STRIKE with no context at play. On a bell that can take it the strike is
planned, due 400,000 µs ahead at volume 16, and reported; the restrike bound moves past it; one that fills the
last place of the queue leaves the mark of log 55, the model's own. On a bell OFF or FAULTED, with the queue full,
or when the checks lose it, it is answered LOST and nothing changes. -/
def Obligations.TestStrikeIsPlannedOrLost : Prop :=
  ∀ (p : Port) (b e : Nat) (s : State), b < 64 → 1 ≤ e → e ≤ 31 → s.takes p 0x17 2 = true →
    s.engine.active = none →
    let plan := planEntry (s.bell b).record s.drive.level (s.busyUntil b) s.time.clock b
      ⟨.test, some b, false, s.time.clock + 400000, e, 16, none⟩
    (∀ x, plan = some x → (s.bell b).state ≠ .off → (s.bell b).state ≠ .faulted →
      s.planner.queue.length < 48 → s.time.clock < x.fireTime →
      exec (.testStrike p [BitVec.ofNat 8 b, BitVec.ofNat 8 e]) s =
        .next { s.answered p 0x17 .done (encTest (some x)) with
          planner := { s.planner with
            queue := insertEntry x s.planner.queue
            busyUntil := s.planner.busyUntil.set b
              (some (x.fireTime + 1000 * (s.bell b).record.h))
            testFilled := if s.planner.queue.length = 47 then some s.time.clock
              else s.planner.testFilled } }) ∧
    ((plan = none ∨ (s.bell b).state = .off ∨ (s.bell b).state = .faulted ∨
        48 ≤ s.planner.queue.length) →
      exec (.testStrike p [BitVec.ofNat 8 b, BitVec.ofNat 8 e]) s =
        .next (s.answered p 0x17 .done (encTest none)))

/-- R103: at effective strength 1 flight and width have their low values, at 31 their high values, and
between them flight never rises and width never falls; so both stay within the record's values. -/
def Obligations.FlightAndPulseInterpolate : Prop :=
  ∀ r : BellRecord, r.fhi ≤ r.flo → r.wmin ≤ r.wmax →
    flightTime r 1 = 100 * r.flo ∧ flightTime r 31 = 100 * r.fhi ∧
    pulseWidth r 1 = 100 * r.wmin ∧ pulseWidth r 31 = 100 * r.wmax ∧
    ∀ e e' : Nat, 1 ≤ e → e ≤ e' → e' ≤ 31 →
      flightTime r e' ≤ flightTime r e ∧ pulseWidth r e ≤ pulseWidth r e' ∧
      100 * r.fhi ≤ flightTime r e' ∧ flightTime r e ≤ 100 * r.flo ∧
      100 * r.wmin ≤ pulseWidth r e ∧ pulseWidth r e' ≤ 100 * r.wmax

/-- R101–R107: what the planner makes of a note it plans, for every record SET BELL accepts: a
strength from the bell's minimum to 31, flight and width by it, a fire time neither in the past nor before
the restrike bound, a lateness of at most 250,000 µs by which it lies behind the ideal fire time, and the
late flag above 20,000 µs. It plans one just when the restrike bound is absent or at most 30,000 µs later than the
ideal fire time and the lateness is at most 250,000 µs; its fire time is then the latest of ideal fire time, restrike
bound and now, and its strength that of volume, bank derating and bell minimum. Else the note is lost. -/
def Obligations.PlannedEntryKeepsTheBounds : Prop :=
  (∀ (r : BellRecord) (level : BankLevel) (busy : Option Nat) (now bell : Nat) (h : HandOver)
    (x : StrikeEntry), r.consistent = true → 1 ≤ r.emin → r.emin ≤ 31 →
    planEntry r level busy now bell h = some x →
    x.bell = bell ∧ x.owner = h.owner ∧ x.due = h.due ∧ x.pos = h.pos ∧
    r.emin ≤ x.strength ∧ x.strength ≤ 31 ∧
    x.flight = 100 * r.flo - 100 * (r.flo - r.fhi) * (x.strength - 1) / 30 ∧
    x.width = 100 * r.wmin + 100 * (r.wmax - r.wmin) * (x.strength - 1) / 30 ∧
    100 * r.fhi ≤ x.flight ∧ x.flight ≤ 100 * r.flo ∧
    100 * r.wmin ≤ x.width ∧ x.width ≤ 100 * r.wmax ∧
    now ≤ x.fireTime ∧ (∀ b, busy = some b → b ≤ x.fireTime) ∧
    x.fireTime = (h.due - x.flight) + x.lateness ∧ x.lateness ≤ 250000 ∧
    x.late = decide (20000 < x.lateness)) ∧
  (∀ (r : BellRecord) (level : BankLevel) (busy : Option Nat) (now bell : Nat) (h : HandOver),
    let e1 := max 1 (min 31 ((h.strength * h.volume + 8) / 16))
    let e := max r.emin (if level = .normal then e1 else max 1 (e1 * 3 / 4))
    let ideal := h.due - (100 * r.flo - 100 * (r.flo - r.fhi) * (e - 1) / 30)
    let fire := max (max ideal (busy.getD 0)) now
    ((∀ p, busy = some p → p ≤ ideal + 30000) → fire - ideal ≤ 250000 →
      ∃ x, planEntry r level busy now bell h = some x ∧ x.strength = e ∧ x.fireTime = fire ∧
        x.lateness = fire - ideal) ∧
    (((∃ p, busy = some p ∧ ideal + 30000 < p) ∨ 250000 < fire - ideal) →
      planEntry r level busy now bell h = none))

/-- R115: when entries of a bell leave the queue unfired, the restrike bound becomes the latest of the
last fire time and the fire times of the bell's entries that remain, each plus 1,000 × H, or absent when
there is none; bells none of whose entries left keep theirs. -/
def Obligations.RestrikeBoundIsRecomputed : Prop :=
  ∀ (pick : StrikeEntry → Bool) (b : Nat) (s : State), b < s.planner.busyUntil.length →
    let t := s.removeStrikes pick
    t.planner.queue = s.planner.queue.filter (fun e => !pick e) ∧
    ((∃ e ∈ s.planner.queue, pick e = true ∧ e.bell = b) →
      t.busyUntil b = ((s.lastFire b).toList.map (· + 1000 * (s.bell b).record.h)
        ++ (t.planner.queue.filter (·.bell == b)).map (·.fireTime + 1000 * (s.bell b).record.h)).max?) ∧
    ((∀ e ∈ s.planner.queue, pick e = true → e.bell ≠ b) → t.busyUntil b = s.busyUntil b)

/-- R132, R133: BANK_MEASUREMENT moves the level by the table of R132, the level falling at a threshold and rising
only 8 above it, and a change raises DRIVE. Out of CRITICAL the arbiter re-evaluates, as at a fire time in the state
with the new level; any other measurement does no more to a performance that rests. During the load the measurement
alone is kept. -/
def Obligations.BankMeasurementMovesTheLevel : Prop :=
  (∀ (v : Byte) (s : State), s.store.loading = false →
    let m := v.toNat
    let new : BankLevel := match s.drive.level with
      | .normal => if m < s.drive.critical then .critical
          else if m < s.drive.low then .low else .normal
      | .low => if m < s.drive.critical then .critical
          else if s.drive.low + 8 ≤ m then .normal else .low
      | .critical => if s.drive.low + 8 ≤ m then .normal
          else if s.drive.critical + 8 ≤ m then .low else .critical
    let t : State := { s with drive := { s.drive with measurement := m, level := new } }.raiseIf
      (s.drive.level != new) .drive
    (s.quiet = true → exec (.bankMeasurement v) s = .next t) ∧
    (s.drive.level = .critical → new ≠ .critical → exec (.bankMeasurement v) s = exec .fireTimeReached t) ∧
    ((s.drive.level ≠ .critical ∨ new = .critical) →
      exec (.bankMeasurement v) s = exec .planningHorizonReached t ∧
      (t.rests → exec (.bankMeasurement v) s = .next t))) ∧
  (∀ (v : Byte) (s : State), s.store.loading = true →
    exec (.bankMeasurement v) s =
      .next { s with drive := { s.drive with measurement := v.toNat } })

/-- R113, R115, R122, R124–R126: SENSOR_OPENS marks the level, and the supervised pulse as seen. SENSOR_CLOSES
brings a RETURNING hammer to RECOVERING, or to READY past its recovery time; RECOVERY_TIME makes it READY. A bell
that becomes READY makes the arbiter re-evaluate, as at a fire time in the state with the bell READY. RETURN_LIMIT
faults it NO_RETURN: BELL is raised, its planned strikes go, each charged lost to the performance at play that owns
it, its restrike bound is recomputed, and a note of this very instant still names it (R100, stage 2; log 62). What
the Score Player may then go on to do is what it does at the horizon: nothing, while the performance rests. -/
def Obligations.HammerReturns : Prop :=
  (∀ (b : Fin 64) (s : State), exec (.sensorOpens b) s = .next (s.modBell b fun x =>
    { x with
      sensorOpen := true
      cycle := x.cycle.map fun c =>
        { c with seenOpen := c.seenOpen || (x.state == .driven && c.sensor) } })) ∧
  (∀ (b : Fin 64) (c : Cycle) (s : State), (s.bell b).cycle = some c → (s.bell b).state = .returning →
    (s.time.clock < c.a + 1000 * c.h →
      let t := s.modBell b fun x =>
        { x with sensorOpen := false, state := .recovering, cycle := some { c with returnLimit := none } }
      exec (.sensorCloses b) s = exec .planningHorizonReached t ∧
      (t.rests → exec (.sensorCloses b) s = .next t)) ∧
    (c.a + 1000 * c.h ≤ s.time.clock →
      let t := s.modBell b fun x => { x with sensorOpen := false, state := .ready, cycle := none }
      exec (.sensorCloses b) s = exec .fireTimeReached t ∧
      (s.quiet = true → exec (.sensorCloses b) s = .next t))) ∧
  (∀ (b : Fin 64) (s : State), (s.bell b).state ≠ .returning →
    exec (.sensorCloses b) s = .next (s.modBell b fun x => { x with sensorOpen := false })) ∧
  (∀ (b : Fin 64) (c : Cycle) (s : State), (s.bell b).cycle = some c →
    (s.bell b).state = .recovering → c.a + 1000 * c.h ≤ s.time.clock →
    let t := s.modBell b fun x => { x with state := .ready, cycle := none }
    exec (.recoveryTime b) s = exec .fireTimeReached t ∧
    (s.quiet = true → exec (.recoveryTime b) s = .next t)) ∧
  (∀ (b : Fin 64) (c : Cycle) (d : Nat) (s : State), (s.bell b).cycle = some c →
    (s.bell b).state = .returning → c.returnLimit = some d → d ≤ s.time.clock →
    let t := ((s.modBell b fun x => { x with
      state := .faulted, lastFault := some .noReturn, cycle := none
      wentOut := s.goneMark x }).bellCleared b).raise .bell
    exec (.returnLimit b) s = exec .planningHorizonReached t ∧
    (t.rests → exec (.returnLimit b) s = .next t))

/-- R113, R115, R123, R125, R126, R128, R131: PULSE_END turns the coil off and frees its slot, a waiting lower K
taking force when the count has fallen to it, and the arbiter re-evaluates, as at a fire time. Unsupervised, or seen
open and closed again, the bell goes to RECOVERING, or READY past its recovery time, which makes the arbiter
re-evaluate once more; open, to RETURNING with its limit running; never open, it is faulted NO_LIFT: its planned
strikes go, charged lost to the performance at play, its restrike bound is recomputed, BELL is raised, and a note of
this very instant still names it, unless a full queue holds that note back (R100, stage 2; log 62). -/
def Obligations.PulseEndsByTheSensor : Prop :=
  (∀ (b : Fin 64) (c : Cycle) (s : State), (s.bell b).cycle = some c →
    (s.bell b).state = .driven → c.a + c.width ≤ s.time.clock →
    let freed := s.coilFreed
    ((c.sensor = false ∨ ((s.bell b).sensorOpen = false ∧ c.seenOpen = true)) →
      (s.time.clock < c.a + 1000 * c.h →
        exec (.pulseEnd b) s = exec .fireTimeReached (freed.modBell b fun x =>
          { x with state := .recovering, cycle := some { c with returnLimit := none } })) ∧
      (c.a + 1000 * c.h ≤ s.time.clock →
        let ready (v : State) : State := v.modBell b fun x => { x with state := .ready, cycle := none }
        ((freed.drive.freeSlots = 0 ∨ ∀ e ∈ s.planner.queue, freed.eligible e = false) →
          exec (.pulseEnd b) s = exec .fireTimeReached (ready freed)) ∧
        (s.engine.active = none → ∃ v : State, exec .fireTimeReached freed = .next v ∧
          exec (.pulseEnd b) s = exec .fireTimeReached (ready v)))) ∧
    (c.sensor = true → (s.bell b).sensorOpen = true →
      exec (.pulseEnd b) s = exec .fireTimeReached (freed.modBell b fun x =>
        { x with
          state := .returning
          cycle := some { c with returnLimit := some (s.time.clock + 1000 * c.r) } })) ∧
    (c.sensor = true → (s.bell b).sensorOpen = false → c.seenOpen = false →
      let now := some (s.time.clock, (s.bell b).record.pitch)
      let stalled : Prop := 48 ≤ s.planner.queue.length ∧ s.planner.testFilled ≠ some s.time.clock
      ∃ mark, (mark = now ∨ mark = (s.bell b).wentOut) ∧ (¬ stalled → mark = now) ∧
        (stalled → (freed.drive.freeSlots = 0 ∨ ∀ e ∈ s.planner.queue, freed.eligible e = false) →
          mark = (s.bell b).wentOut) ∧
        exec (.pulseEnd b) s = exec .fireTimeReached (((freed.modBell b fun x => { x with
          state := .faulted, lastFault := some .noLift, cycle := none
          wentOut := mark }).bellCleared b).raise .bell))) ∧
  ∀ (b : Fin 64) (c : Cycle) (s : State), s.quiet = true → (s.bell b).cycle = some c →
    (s.bell b).state = .driven → c.a + c.width ≤ s.time.clock →
    ∃ t, exec (.pulseEnd b) s = .next t ∧ t.drive.energised = s.drive.energised - 1 ∧
      (s.drive.requestedK = none → t.drive.k = s.drive.k ∧ t.drive.requestedK = none) ∧
      (∀ k, s.drive.requestedK = some k →
        (s.drive.energised - 1 ≤ k → t.drive.k = k ∧ t.drive.requestedK = none) ∧
        (k < s.drive.energised - 1 → t.drive.k = s.drive.k ∧ t.drive.requestedK = some k)) ∧
      (∀ k, k ≠ b.val → t.bell k = s.bell k) ∧
      ((c.sensor = false ∨ ((s.bell b).sensorOpen = false ∧ c.seenOpen = true)) →
        t.notices = s.notices ∧ t.bell b =
          if c.a + 1000 * c.h ≤ s.time.clock then { s.bell b with state := .ready, cycle := none }
          else { s.bell b with state := .recovering, cycle := some { c with returnLimit := none } }) ∧
      (c.sensor = true → (s.bell b).sensorOpen = true →
        t.notices = s.notices ∧ t.bell b =
          { s.bell b with
            state := .returning
            cycle := some { c with returnLimit := some (s.time.clock + 1000 * c.r) } }) ∧
      (c.sensor = true → (s.bell b).sensorOpen = false → c.seenOpen = false →
        t.notices = { s.notices with flags := { s.notices.flags with bell := true } } ∧
        t.bell b = { s.bell b with
          state := .faulted, lastFault := some .noLift, cycle := none
          wentOut := some (s.time.clock, (s.bell b).record.pitch) })

/-- R98, R105, R110, R114, R122, R127–R129: FIRE_TIME_REACHED, whatever plays and whatever else the queue holds. An
entry is eligible when its fire time is reached, its bell READY and the arbiter open; free slots are K less the
energised count, none while a lower K waits. The first eligible entry of the queue fires, those before it passed
over: its bell is DRIVEN, counts a strike and captures its cycle values at this instant; one more coil is energised;
the entry leaves; its performance, if it is the one at play, is charged fired, and late when it is now more than
20,000 µs behind its ideal fire time; last fire time and restrike bound move. The command goes on from there in the
same way, until no slot is free or no entry is eligible; only then does the Score Player go on, which is the model's
choice (log 6). With every entry eligible and no two of one bell, the entries fire in queue order until the free
slots run out, and the rest of the queue stands in its order. -/
def Obligations.ArbiterFiresInQueueOrder : Prop :=
  (∀ (e : StrikeEntry) (s : State),
    (s.eligible e = true ↔ e.fireTime ≤ s.time.clock ∧ (s.bell e.bell).state = .ready ∧ s.drive.hush = false ∧
      s.drive.ready = true ∧ s.drive.level ≠ .critical) ∧
    (s.drive.requestedK = none → s.drive.freeSlots = s.drive.k - s.drive.energised) ∧
    (s.drive.requestedK ≠ none → s.drive.freeSlots = 0)) ∧
  (∀ s : State, (s.drive.freeSlots = 0 ∨ ∀ e ∈ s.planner.queue, s.eligible e = false) →
    exec .fireTimeReached s = exec .planningHorizonReached s ∧
    (s.rests → exec .fireTimeReached s = .next s)) ∧
  (∀ (front rest : List StrikeEntry) (e : StrikeEntry) (s : State), s.planner.queue = front ++ e :: rest →
    (∀ x ∈ front, s.eligible x = false) → s.eligible e = true → 0 < s.drive.freeSlots →
    (s.afterFire e).planner.queue = front ++ rest ∧
    exec .fireTimeReached s = exec .fireTimeReached (s.afterFire e)) ∧
  ∀ s : State, s.engine.active = none → (∀ e ∈ s.planner.queue, s.eligible e = true) →
    (s.planner.queue.map StrikeEntry.bell).Nodup → s.planner.lastFire.length = s.drive.bells.length →
    ∃ t, exec .fireTimeReached s = .next t ∧
      t.planner.queue = s.planner.queue.drop s.drive.freeSlots ∧
      t.drive.energised = s.drive.energised + min s.drive.freeSlots s.planner.queue.length ∧
      (∀ e ∈ s.planner.queue.take s.drive.freeSlots,
        (t.bell e.bell).state = .driven ∧
        (t.bell e.bell).strikes = min 4294967295 ((s.bell e.bell).strikes + 1) ∧
        t.lastFire e.bell = some s.time.clock) ∧
      (∀ k, (∀ e ∈ s.planner.queue.take s.drive.freeSlots, e.bell ≠ k) → t.bell k = s.bell k) ∧
      t.engine = s.engine ∧ t.book = s.book ∧ t.notices = s.notices ∧ t.time = s.time

/-- R110, R114, R115, R130: ENTRY_DROP takes out the first entry whose ideal fire time lies more than 250,000 µs
back and charges it lost to the performance that owns it, hushed or at play; the restrike bound of its bell is
recomputed from what remains. The Score Player then goes on as at the horizon, and that is all while the performance
rests without that entry (log 55). With no performance, or another owner, nothing is charged. That of several such
entries the first of the queue is taken, and that with none it does nothing, is the model's choice (logs 3, 59). -/
def Obligations.OverdueEntryIsDropped : Prop :=
  (∀ (e : StrikeEntry) (front rest : List StrikeEntry) (s : State),
    s.planner.queue = front ++ e :: rest →
    (∀ x ∈ front, s.time.clock - (x.fireTime - x.lateness) ≤ 250000) →
    250000 < s.time.clock - (e.fireTime - e.lateness) →
    let left := s.planner.queue.filter (· ≠ e)
    let h := 1000 * (s.bell e.bell).record.h
    exec .entryDrop s = exec .planningHorizonReached
      { s.countsOf e.owner (fun n => { n with lost := min 65535 (n.lost + 1) }) with
        planner := { s.planner with
          queue := left
          busyUntil := s.planner.busyUntil.set e.bell ((s.lastFire e.bell).toList.map (· + h)
            ++ (left.filter (·.bell == e.bell)).map (·.fireTime + h)).max? } } ∧
    (∀ c, s.engine.active = some c →
      State.rests { s with planner := { s.planner with queue := s.planner.queue.filter (· ≠ e) } } →
      ∃ t, exec .entryDrop s = .next t ∧ t.planner.queue = s.planner.queue.filter (· ≠ e) ∧
        t.engine = { s.engine with active := some (if e.owner = .booking c.booking
          then { c with counts := { c.counts with lost := min 65535 (c.counts.lost + 1) } } else c) } ∧
        t.player = s.player ∧ t.drive = s.drive ∧ t.book = s.book ∧ t.notices = s.notices ∧
        t.time = s.time) ∧
    (s.engine.active = none →
      ∃ t, exec .entryDrop s = .next t ∧ t.planner.queue = s.planner.queue.filter (· ≠ e) ∧
        t.engine = s.engine ∧ t.player = s.player ∧ t.drive = s.drive ∧ t.book = s.book ∧
        t.notices = s.notices ∧ t.time = s.time)) ∧
  (∀ s : State, (∀ x ∈ s.planner.queue, s.time.clock - (x.fireTime - x.lateness) ≤ 250000) →
    exec .entryDrop s = .next s)

/-- R78–R83, R86, R88–R97, R100, R108, R110, R142, R144: PLANNING_HORIZON_REACHED with one event within 400,000 µs
and the one after it beyond. A sounding NOTE of a SCORE is planned on the bell its pitch maps to, with its own due
time and position, or is lost, a substitute and a loss each counted once, and the planning position moves on; an
entry whose fire time is not later than now is the arbiter's at once (R108, R128). That bell is the lowest-numbered
one present, of that pitch and not FAULTED, or so until a fault or SET BELL taken first at this very instant, on
which the note is then lost (R100, stage 2; log 62); with substitution ON else the one 12 above or, that failing
too, 12 below, marked substituted; else none. At a full queue it stalls, but for one note at the instant a test
hand-over filled the last place, which is lost (R83, R100; log 55). A REST, a PHRASE and a NOTE of strength 0 only
move the position. A TEMPO rebases the time origin at its tick and takes its clamped value. A last event of a
segment lets planning enter the next one, whose buffer becomes the current one, the freed one taking the segment
after; of the score, with repeats left, the next repetition begins at its tick at the performance's own tempo; and
at the end of the last one planning is done, its buffer staying HELD (log 61). So it is at the stop point, and as
DAMAGED at a segment that failed, a stop point at its first event notwithstanding (R88). With planning done and no
strike left the performance ends PLAYED, HALTED with a halt pending, or SCORE_DAMAGED. A toll is planned or lost
alike, the last one ending the planning and the repeat number being the next one's repetition. A live NOTE or REST
is taken from its queue: FEED is raised at 8 or fewer left, and the feed deadline is set. -/
def Obligations.NoteIsPlannedAtTheHorizon : Prop :=
  (∀ (s : State) (p : Int) (substitution : Bool),
    let usable (b : Nat) (q : Int) : Prop := 0 ≤ q ∧ q ≤ 127 ∧
      (((s.bell b).record.present = true ∧ ((s.bell b).record.pitch : Int) = q ∧ (s.bell b).state ≠ .faulted) ∨
        (((s.bell b).state = .off ∨ (s.bell b).state = .faulted) ∧
          ∃ pitch : Nat, (s.bell b).wentOut = some (s.time.clock, pitch) ∧ (pitch : Int) = q))
    let first (b : Nat) (q : Int) : Prop := usable b q ∧ ∀ k, k < b → ¬ usable k q
    (∀ b, first b p → s.mapPitch p substitution = (some b, false)) ∧
    ((∀ b, ¬ usable b p) →
      (substitution = false → s.mapPitch p substitution = (none, false)) ∧
      (substitution = true →
        (∀ b, first b (p + 12) → s.mapPitch p substitution = (some b, true)) ∧
        ((∀ b, ¬ usable b (p + 12)) →
          (∀ b, first b (p - 12) → s.mapPitch p substitution = (some b, true)) ∧
          ((∀ b, ¬ usable b (p - 12)) → s.mapPitch p substitution = (none, false)))))) ∧
  (∀ (c : Context) (slot pitch strength delta : Nat) (seg : Segment) (e2 : Event) (s : State),
    s.engine.active = some c → c.mode = .playing → c.melodyKind = some .score → c.melody = some slot →
    s.player.done = none → s.player.stopPoint = none → s.player.cur = .held seg →
    seg.events[c.pos.event]? = some (.note pitch strength delta) → strength ≠ 0 →
    seg.events[c.pos.event + 1]? = some e2 →
    let tick := c.pos.tick + delta
    let T := 1250000 / c.tempoNow
    let due := c.originTime + (tick - c.originTick) * T
    due ≤ s.time.clock + 400000 →
    s.time.clock + 400000 < c.originTime + (tick + e2.delta - c.originTick) * T →
    let bell := s.mapPitch ((pitch : Int) + c.transposition) c.substitution
    let made := s.entryMade ⟨.booking c.booking, bell.1, bell.2, due, strength, c.volume,
      some ⟨c.repeatNo, c.pos.segment, c.pos.event, tick, 0⟩⟩
    let noted : State := { s with
      planner := s.plannerWith made
      engine := { s.engine with active := some { c with
        counts := c.counts.charged bell.2 made.isNone
        pos := { c.pos with event := c.pos.event + 1, tick := tick }, atResume := false } } }
    (s.planner.queue.length < 48 →
      ((∀ x, made = some x → s.time.clock < x.fireTime) → exec .planningHorizonReached s = .next noted) ∧
      (∀ x, made = some x → x.fireTime ≤ s.time.clock →
        exec .planningHorizonReached s = exec .fireTimeReached noted)) ∧
    (48 ≤ s.planner.queue.length →
      (s.planner.testFilled ≠ some s.time.clock → exec .planningHorizonReached s = .next s) ∧
      (s.planner.testFilled = some s.time.clock → exec .planningHorizonReached s = .next { s with
        planner := { s.planner with testFilled := none }
        engine := { s.engine with active := some { c with
          counts := c.counts.charged bell.2 true
          pos := { c.pos with event := c.pos.event + 1, tick := tick }, atResume := false } } }))) ∧
  (∀ (c : Context) (slot : Nat) (s : State),
    s.engine.active = some c → c.mode = .playing → c.melodyKind = some .score → c.melody = some slot →
    s.player.done = none →
    let here := (c.repeatNo, c.pos.segment, c.pos.event)
    (s.player.stopPoint = some here → (∀ k, s.player.cur ≠ .failed k) →
      (¬ s.ownsNothing c.booking → exec .planningHorizonReached s = .next { s with
        player := ⟨.free, .free, some here, some .complete⟩
        store := s.store.releaseReads (fun _ => true) }) ∧
      (∀ b, s.ownsNothing c.booking → s.engine.stack = [] → s.engine.waiting = [] →
        s.booking? c.booking = some b → c.pendingHalt ≠ none →
        ∃ t, exec .planningHorizonReached s = .next t ∧ t.engine = ⟨none, [], []⟩ ∧
          t.disposed c.booking b ⟨.halted, none, b.current, c.counts⟩)) ∧
    (∀ k, s.player.cur = .failed k →
      (¬ s.ownsNothing c.booking → exec .planningHorizonReached s = .next { s with
        player := { s.player with done := some .damaged } }) ∧
      (∀ b, s.ownsNothing c.booking → s.engine.stack = [] → s.engine.waiting = [] →
        s.booking? c.booking = some b →
        ∃ t, exec .planningHorizonReached s = .next t ∧ t.engine = ⟨none, [], []⟩ ∧
          t.disposed c.booking b ⟨.scoreDamaged, none, b.current, c.counts⟩)) ∧
    (∀ seg k delta, s.player.cur = .held seg → s.player.next = .failed k →
      s.player.stopPoint = some (c.repeatNo, c.pos.segment + 1, 0) →
      c.pos.segment + 1 < (s.melody slot).segmentCount → s.planner.queue.length < 48 →
      seg.events[c.pos.event]? = some (.rest delta) → seg.events.length = c.pos.event + 1 →
      let tick := c.pos.tick + delta
      c.originTime + (tick - c.originTick) * (1250000 / c.tempoNow) ≤ s.time.clock + 400000 →
      ¬ s.ownsNothing c.booking →
      exec .planningHorizonReached s = .next { s with
        player := { s.player with done := some .damaged }
        engine := { s.engine with active := some { c with
          pos := ⟨c.pos.segment + 1, 0, tick, 0⟩, atResume := false } } })) ∧
  (∀ (c : Context) (slot delta : Nat) (seg : Segment) (s : State),
    s.engine.active = some c → c.mode = .playing → c.melodyKind = some .score → c.melody = some slot →
    s.player.done = none → s.player.stopPoint = none → s.player.cur = .held seg →
    let tick := c.pos.tick + delta
    let due := c.originTime + (tick - c.originTick) * (1250000 / c.tempoNow)
    due ≤ s.time.clock + 400000 → s.planner.queue.length < 48 →
    (∀ e e2, seg.events[c.pos.event]? = some e → seg.events[c.pos.event + 1]? = some e2 →
      (e = .rest delta ∨ e = .phrase delta ∨ ∃ pitch, e = .note pitch 0 delta) →
      s.time.clock + 400000 <
        c.originTime + (tick + e2.delta - c.originTick) * (1250000 / c.tempoNow) →
      exec .planningHorizonReached s = .next { s with
        engine := { s.engine with active := some { c with
          pos := { c.pos with event := c.pos.event + 1, tick := tick }, atResume := false } } }) ∧
    (∀ v e2, seg.events[c.pos.event]? = some (.tempo v delta) → seg.events[c.pos.event + 1]? = some e2 →
      s.time.clock + 400000 < due + e2.delta * (1250000 / max 20 (min 240 v)) →
      exec .planningHorizonReached s = .next { s with
        engine := { s.engine with active := some { c with
          originTime := due, originTick := tick, tempoNow := max 20 (min 240 v)
          pos := { c.pos with event := c.pos.event + 1, tick := tick }, atResume := false } } }) ∧
    (seg.events[c.pos.event]? = some (.rest delta) → seg.events.length = c.pos.event + 1 →
      (c.pos.segment + 1 < (s.melody slot).segmentCount →
        s.player.next = .reading (c.pos.segment + 1) → s.store.reads.length < 8 →
        let after := if c.pos.segment + 2 < (s.melody slot).segmentCount then some (c.pos.segment + 2)
          else if c.repeatNo < c.repeats ∧ c.pendingHalt ≠ some .atEnd then some 0 else none
        (∀ f, after = some f → f ∉ c.failed) →
        ∃ t, exec .planningHorizonReached s = .next t ∧
          t.engine = { s.engine with active := some { c with
            pos := ⟨c.pos.segment + 1, 0, tick, 0⟩, atResume := false } } ∧
          t.player = ⟨.reading (c.pos.segment + 1),
            match after with | some f => .reading f | none => .free, none, none⟩ ∧
          t.store.reads = s.store.reads ++
            (match after with | some f => [⟨slot, f, .buffer false⟩] | none => []) ∧
          t.planner = s.planner ∧ t.book = s.book ∧ t.notices = s.notices ∧ t.time = s.time) ∧
      (∀ k, c.pos.segment + 1 < (s.melody slot).segmentCount → s.player.next = .failed k →
        ¬ s.ownsNothing c.booking →
        exec .planningHorizonReached s = .next { s with
          player := { s.player with done := some .damaged }
          engine := { s.engine with active := some { c with
            pos := ⟨c.pos.segment + 1, 0, tick, 0⟩, atResume := false } } }) ∧
      (∀ first, (s.melody slot).segmentCount = 1 → c.pos.segment = 0 → c.repeatNo < c.repeats →
        c.pendingHalt ≠ some .atEnd → seg.events[0]? = some first →
        s.time.clock + 400000 < due + first.delta * (1250000 / c.tempo) →
        exec .planningHorizonReached s = .next { s with
          engine := { s.engine with active := some { c with
            repeatNo := c.repeatNo + 1, repStart := tick, pos := ⟨0, 0, tick, 0⟩, atResume := false
            originTime := due, originTick := tick, tempoNow := c.tempo } } }) ∧
      ((s.melody slot).segmentCount ≤ c.pos.segment + 1 →
        (c.repeats ≤ c.repeatNo ∨ c.pendingHalt = some .atEnd) →
        (¬ s.ownsNothing c.booking →
          exec .planningHorizonReached s = .next { s with
            player := { s.player with done := some .complete }
            engine := { s.engine with active := some { c with
              pos := { c.pos with event := c.pos.event + 1, tick := tick }, atResume := false } } }) ∧
        (∀ b, s.ownsNothing c.booking → s.engine.stack = [] → s.engine.waiting = [] →
          s.booking? c.booking = some b →
          ∃ t, exec .planningHorizonReached s = .next t ∧ t.engine = ⟨none, [], []⟩ ∧
            t.disposed c.booking b
              ⟨if c.pendingHalt = none then .played else .halted, none, b.current, c.counts⟩)))) ∧
  (∀ (c : Context) (slot pitch strength interval : Nat) (mode : CountMode) (h : MelodyHeader) (s : State),
    s.engine.active = some c → c.mode = .playing → c.melodyKind = some .toll → c.melody = some slot →
    s.player.done = none → (s.melody slot).known? = some h →
    h.shape = .toll pitch strength interval mode →
    let k := c.pos.number
    let due := c.originTime + (k - c.originTick) * (interval * 1000)
    let last := c.tollCount * c.lastRepeat
    let bell := s.mapPitch ((pitch : Int) + c.transposition) c.substitution
    let made := s.entryMade ⟨.booking c.booking, bell.1, bell.2, due, strength, c.volume,
      some ⟨0, 0, 0, 0, k⟩⟩
    due ≤ s.time.clock + 400000 → s.planner.queue.length < 48 →
    let later : Prop := ∀ x, made = some x → s.time.clock < x.fireTime
    (k < last →
      s.time.clock + 400000 < c.originTime + (k + 1 - c.originTick) * (interval * 1000) →
      let tolled : State := { s with
        planner := s.plannerWith made
        engine := { s.engine with active := some { c with
          counts := c.counts.charged bell.2 made.isNone
          pos := { c.pos with number := k + 1 }
          repeatNo := k / c.tollCount + 1 } } }
      (later → exec .planningHorizonReached s = .next tolled) ∧
      (¬ later → exec .planningHorizonReached s = exec .fireTimeReached tolled)) ∧
    (last ≤ k →
      let tolled : State := { s with
        planner := s.plannerWith made
        player := { s.player with done := some .complete }
        engine := { s.engine with active := some { c with
          counts := c.counts.charged bell.2 made.isNone
          pos := { c.pos with number := k + 1 } } } }
      (later → (made ≠ none ∨ ¬ s.ownsNothing c.booking) → exec .planningHorizonReached s = .next tolled) ∧
      (¬ later → exec .planningHorizonReached s = exec .fireTimeReached tolled))) ∧
  (∀ (c : Context) (l : LiveFeed) (e : Event) (rest : List Event) (s : State),
    s.engine.active = some c → c.mode = .playing → c.melodyKind = none → s.player.done = none →
    s.live = some l → l.mode = .opened → l.queue = e :: rest →
    let tick := c.pos.tick + e.delta
    let T := 1250000 / c.tempoNow
    let due := c.originTime + (tick - c.originTick) * T
    let taken : State := { s with
      live := some { l with
        queue := rest, idle := if rest = [] then ⟨0, some s.time.clock⟩ else l.idle }
      engine := { s.engine with active := some { c with
        pos := { c.pos with tick := tick, number := c.pos.number + 1 }
        feedDeadline := some (due + 48 * T) } } }
    due ≤ s.time.clock + 400000 → s.planner.queue.length < 48 →
    (∀ e2, rest.head? = some e2 →
      s.time.clock + 400000 < c.originTime + (tick + e2.delta - c.originTick) * T) →
    (∀ delta, e = .rest delta →
      exec .planningHorizonReached s = .next (taken.raiseIf (rest.length ≤ 8) .feed)) ∧
    (∀ pitch strength delta, e = .note pitch strength delta → strength ≠ 0 →
      let bell := s.mapPitch ((pitch : Int) + c.transposition) c.substitution
      let made := s.entryMade ⟨.booking c.booking, bell.1, bell.2, due, strength, c.volume,
        some ⟨0, 0, 0, 0, c.pos.number + 1⟩⟩
      let noted : State := (({ taken with planner := s.plannerWith made } : State).modActive fun c =>
        { c with counts := c.counts.charged bell.2 made.isNone }).raiseIf (rest.length ≤ 8) .feed
      ((∀ x, made = some x → s.time.clock < x.fireTime) → exec .planningHorizonReached s = .next noted) ∧
      (∀ x, made = some x → x.fireTime ≤ s.time.clock →
        exec .planningHorizonReached s = exec .fireTimeReached noted)))

/-! ## Notices -/

/-- R188–R191: READ_NOTICES reports the flags and clears them, so the line is released.
SET_NOTICE_MASK replaces the seven enables and answers them. A raise sets its own flag and no other, and
the line is asserted exactly while a flag is set whose enable is on. -/
def Obligations.NoticesAreStickyUntilRead : Prop :=
  (∀ (p : Port) (s : State), s.takes p 0x1C 0 = true →
    ∃ t, exec (.readNotices p []) s = .next t ∧
      t = { s.answered p 0x1C .done s.encNoticeReport with
        notices := { s.notices with flags := .none } } ∧ t.notices.line = false) ∧
  (∀ (p : Port) (body : List Byte) (m : NoticeBits) (s : State),
    s.takes p 0x1D body.length = true → parseMask body = some m →
    exec (.setNoticeMask p body) s = .next { s.answered p 0x1D .done (encEnables m) with
      notices := { s.notices with enables := m } }) ∧
  (∀ (n k : Notice) (s : State),
    (s.raise n).notices.flags.get k = (s.notices.flags.get k || decide (k = n)) ∧
    (s.raise n).notices.enables = s.notices.enables) ∧
  (∀ x : Notices, x.line = true ↔ ∃ k, x.flags.get k = true ∧ x.enables.get k = true)
end

