-- ==== Sys2Proof/Laws/State.lean ====
section
/-! SUPPORT. What each update of the state leaves as it was, one lemma per field per update. -/

namespace Sys2Proof.Machine

variable (s : State)

/-! `State.raise` changes only notices. -/

@[simp] theorem raise_time (n : Notice) : (s.raise n).time = s.time := rfl
@[simp] theorem raise_book (n : Notice) : (s.raise n).book = s.book := rfl
@[simp] theorem raise_engine (n : Notice) : (s.raise n).engine = s.engine := rfl
@[simp] theorem raise_player (n : Notice) : (s.raise n).player = s.player := rfl
@[simp] theorem raise_planner (n : Notice) : (s.raise n).planner = s.planner := rfl
@[simp] theorem raise_drive (n : Notice) : (s.raise n).drive = s.drive := rfl
@[simp] theorem raise_live (n : Notice) : (s.raise n).live = s.live := rfl
@[simp] theorem raise_library (n : Notice) : (s.raise n).library = s.library := rfl
@[simp] theorem raise_store (n : Notice) : (s.raise n).store = s.store := rfl
@[simp] theorem raise_links (n : Notice) : (s.raise n).links = s.links := rfl
@[simp] theorem raise_freeCount (n : Notice) : (s.raise n).freeCount = s.freeCount := rfl
@[simp] theorem raise_pending (n : Notice) : (s.raise n).pending = s.pending := rfl

/-! `State.raiseIf` changes only notices. -/

@[simp] theorem raiseIf_time (c : Bool) (n : Notice) : (s.raiseIf c n).time = s.time := by unfold State.raiseIf; split <;> rfl
@[simp] theorem raiseIf_book (c : Bool) (n : Notice) : (s.raiseIf c n).book = s.book := by unfold State.raiseIf; split <;> rfl
@[simp] theorem raiseIf_engine (c : Bool) (n : Notice) : (s.raiseIf c n).engine = s.engine := by unfold State.raiseIf; split <;> rfl
@[simp] theorem raiseIf_player (c : Bool) (n : Notice) : (s.raiseIf c n).player = s.player := by unfold State.raiseIf; split <;> rfl
@[simp] theorem raiseIf_planner (c : Bool) (n : Notice) : (s.raiseIf c n).planner = s.planner := by unfold State.raiseIf; split <;> rfl
@[simp] theorem raiseIf_drive (c : Bool) (n : Notice) : (s.raiseIf c n).drive = s.drive := by unfold State.raiseIf; split <;> rfl
@[simp] theorem raiseIf_live (c : Bool) (n : Notice) : (s.raiseIf c n).live = s.live := by unfold State.raiseIf; split <;> rfl
@[simp] theorem raiseIf_library (c : Bool) (n : Notice) : (s.raiseIf c n).library = s.library := by unfold State.raiseIf; split <;> rfl
@[simp] theorem raiseIf_store (c : Bool) (n : Notice) : (s.raiseIf c n).store = s.store := by unfold State.raiseIf; split <;> rfl
@[simp] theorem raiseIf_links (c : Bool) (n : Notice) : (s.raiseIf c n).links = s.links := by unfold State.raiseIf; split <;> rfl
@[simp] theorem raiseIf_freeCount (c : Bool) (n : Notice) : (s.raiseIf c n).freeCount = s.freeCount := by unfold State.raiseIf; split <;> rfl
@[simp] theorem raiseIf_pending (c : Bool) (n : Notice) : (s.raiseIf c n).pending = s.pending := by unfold State.raiseIf; split <;> rfl

/-! `State.setSlot` changes only book. -/

@[simp] theorem setSlot_time (n : Nat) (v : Slot) : (s.setSlot n v).time = s.time := rfl
@[simp] theorem setSlot_engine (n : Nat) (v : Slot) : (s.setSlot n v).engine = s.engine := rfl
@[simp] theorem setSlot_player (n : Nat) (v : Slot) : (s.setSlot n v).player = s.player := rfl
@[simp] theorem setSlot_planner (n : Nat) (v : Slot) : (s.setSlot n v).planner = s.planner := rfl
@[simp] theorem setSlot_drive (n : Nat) (v : Slot) : (s.setSlot n v).drive = s.drive := rfl
@[simp] theorem setSlot_live (n : Nat) (v : Slot) : (s.setSlot n v).live = s.live := rfl
@[simp] theorem setSlot_library (n : Nat) (v : Slot) : (s.setSlot n v).library = s.library := rfl
@[simp] theorem setSlot_store (n : Nat) (v : Slot) : (s.setSlot n v).store = s.store := rfl
@[simp] theorem setSlot_links (n : Nat) (v : Slot) : (s.setSlot n v).links = s.links := rfl
@[simp] theorem setSlot_notices (n : Nat) (v : Slot) : (s.setSlot n v).notices = s.notices := rfl
@[simp] theorem setSlot_freeCount (n : Nat) (v : Slot) : (s.setSlot n v).freeCount = s.freeCount := rfl
@[simp] theorem setSlot_pending (n : Nat) (v : Slot) : (s.setSlot n v).pending = s.pending := rfl

/-! `State.setBooking` changes only book. -/

@[simp] theorem setBooking_time (n : Nat) (b : Booking) : (s.setBooking n b).time = s.time := rfl
@[simp] theorem setBooking_engine (n : Nat) (b : Booking) : (s.setBooking n b).engine = s.engine := rfl
@[simp] theorem setBooking_player (n : Nat) (b : Booking) : (s.setBooking n b).player = s.player := rfl
@[simp] theorem setBooking_planner (n : Nat) (b : Booking) : (s.setBooking n b).planner = s.planner := rfl
@[simp] theorem setBooking_drive (n : Nat) (b : Booking) : (s.setBooking n b).drive = s.drive := rfl
@[simp] theorem setBooking_live (n : Nat) (b : Booking) : (s.setBooking n b).live = s.live := rfl
@[simp] theorem setBooking_library (n : Nat) (b : Booking) : (s.setBooking n b).library = s.library := rfl
@[simp] theorem setBooking_store (n : Nat) (b : Booking) : (s.setBooking n b).store = s.store := rfl
@[simp] theorem setBooking_links (n : Nat) (b : Booking) : (s.setBooking n b).links = s.links := rfl
@[simp] theorem setBooking_notices (n : Nat) (b : Booking) : (s.setBooking n b).notices = s.notices := rfl
@[simp] theorem setBooking_freeCount (n : Nat) (b : Booking) : (s.setBooking n b).freeCount = s.freeCount := rfl
@[simp] theorem setBooking_pending (n : Nat) (b : Booking) : (s.setBooking n b).pending = s.pending := rfl

/-! `State.modBell` changes only drive. -/

@[simp] theorem modBell_time (b : Nat) (f : Bell → Bell) : (s.modBell b f).time = s.time := rfl
@[simp] theorem modBell_book (b : Nat) (f : Bell → Bell) : (s.modBell b f).book = s.book := rfl
@[simp] theorem modBell_engine (b : Nat) (f : Bell → Bell) : (s.modBell b f).engine = s.engine := rfl
@[simp] theorem modBell_player (b : Nat) (f : Bell → Bell) : (s.modBell b f).player = s.player := rfl
@[simp] theorem modBell_planner (b : Nat) (f : Bell → Bell) : (s.modBell b f).planner = s.planner := rfl
@[simp] theorem modBell_live (b : Nat) (f : Bell → Bell) : (s.modBell b f).live = s.live := rfl
@[simp] theorem modBell_library (b : Nat) (f : Bell → Bell) : (s.modBell b f).library = s.library := rfl
@[simp] theorem modBell_store (b : Nat) (f : Bell → Bell) : (s.modBell b f).store = s.store := rfl
@[simp] theorem modBell_links (b : Nat) (f : Bell → Bell) : (s.modBell b f).links = s.links := rfl
@[simp] theorem modBell_notices (b : Nat) (f : Bell → Bell) : (s.modBell b f).notices = s.notices := rfl
@[simp] theorem modBell_freeCount (b : Nat) (f : Bell → Bell) : (s.modBell b f).freeCount = s.freeCount := rfl
@[simp] theorem modBell_pending (b : Nat) (f : Bell → Bell) : (s.modBell b f).pending = s.pending := rfl

/-! `State.modMelody` changes only library. -/

@[simp] theorem modMelody_time (m : Nat) (f : MelodySlot → MelodySlot) : (s.modMelody m f).time = s.time := rfl
@[simp] theorem modMelody_book (m : Nat) (f : MelodySlot → MelodySlot) : (s.modMelody m f).book = s.book := rfl
@[simp] theorem modMelody_engine (m : Nat) (f : MelodySlot → MelodySlot) : (s.modMelody m f).engine = s.engine := rfl
@[simp] theorem modMelody_player (m : Nat) (f : MelodySlot → MelodySlot) : (s.modMelody m f).player = s.player := rfl
@[simp] theorem modMelody_planner (m : Nat) (f : MelodySlot → MelodySlot) : (s.modMelody m f).planner = s.planner := rfl
@[simp] theorem modMelody_drive (m : Nat) (f : MelodySlot → MelodySlot) : (s.modMelody m f).drive = s.drive := rfl
@[simp] theorem modMelody_live (m : Nat) (f : MelodySlot → MelodySlot) : (s.modMelody m f).live = s.live := rfl
@[simp] theorem modMelody_store (m : Nat) (f : MelodySlot → MelodySlot) : (s.modMelody m f).store = s.store := rfl
@[simp] theorem modMelody_links (m : Nat) (f : MelodySlot → MelodySlot) : (s.modMelody m f).links = s.links := rfl
@[simp] theorem modMelody_notices (m : Nat) (f : MelodySlot → MelodySlot) : (s.modMelody m f).notices = s.notices := rfl
@[simp] theorem modMelody_freeCount (m : Nat) (f : MelodySlot → MelodySlot) : (s.modMelody m f).freeCount = s.freeCount := rfl
@[simp] theorem modMelody_pending (m : Nat) (f : MelodySlot → MelodySlot) : (s.modMelody m f).pending = s.pending := rfl

/-! `State.modActive` changes only engine. -/

@[simp] theorem modActive_time (f : Context → Context) : (s.modActive f).time = s.time := rfl
@[simp] theorem modActive_book (f : Context → Context) : (s.modActive f).book = s.book := rfl
@[simp] theorem modActive_player (f : Context → Context) : (s.modActive f).player = s.player := rfl
@[simp] theorem modActive_planner (f : Context → Context) : (s.modActive f).planner = s.planner := rfl
@[simp] theorem modActive_drive (f : Context → Context) : (s.modActive f).drive = s.drive := rfl
@[simp] theorem modActive_live (f : Context → Context) : (s.modActive f).live = s.live := rfl
@[simp] theorem modActive_library (f : Context → Context) : (s.modActive f).library = s.library := rfl
@[simp] theorem modActive_store (f : Context → Context) : (s.modActive f).store = s.store := rfl
@[simp] theorem modActive_links (f : Context → Context) : (s.modActive f).links = s.links := rfl
@[simp] theorem modActive_notices (f : Context → Context) : (s.modActive f).notices = s.notices := rfl
@[simp] theorem modActive_freeCount (f : Context → Context) : (s.modActive f).freeCount = s.freeCount := rfl
@[simp] theorem modActive_pending (f : Context → Context) : (s.modActive f).pending = s.pending := rfl

/-! `State.charge` changes only engine. -/

@[simp] theorem charge_time (o : Owner) (k : Charge) : (s.charge o k).time = s.time := by cases o <;> rfl
@[simp] theorem charge_book (o : Owner) (k : Charge) : (s.charge o k).book = s.book := by cases o <;> rfl
@[simp] theorem charge_player (o : Owner) (k : Charge) : (s.charge o k).player = s.player := by cases o <;> rfl
@[simp] theorem charge_planner (o : Owner) (k : Charge) : (s.charge o k).planner = s.planner := by cases o <;> rfl
@[simp] theorem charge_drive (o : Owner) (k : Charge) : (s.charge o k).drive = s.drive := by cases o <;> rfl
@[simp] theorem charge_live (o : Owner) (k : Charge) : (s.charge o k).live = s.live := by cases o <;> rfl
@[simp] theorem charge_library (o : Owner) (k : Charge) : (s.charge o k).library = s.library := by cases o <;> rfl
@[simp] theorem charge_store (o : Owner) (k : Charge) : (s.charge o k).store = s.store := by cases o <;> rfl
@[simp] theorem charge_links (o : Owner) (k : Charge) : (s.charge o k).links = s.links := by cases o <;> rfl
@[simp] theorem charge_notices (o : Owner) (k : Charge) : (s.charge o k).notices = s.notices := by cases o <;> rfl
@[simp] theorem charge_freeCount (o : Owner) (k : Charge) : (s.charge o k).freeCount = s.freeCount := by cases o <;> rfl
@[simp] theorem charge_pending (o : Owner) (k : Charge) : (s.charge o k).pending = s.pending := by cases o <;> rfl

/-! `State.modPort` changes only links. -/

@[simp] theorem modPort_time (p : Port) (f : PortState → PortState) : (s.modPort p f).time = s.time := rfl
@[simp] theorem modPort_book (p : Port) (f : PortState → PortState) : (s.modPort p f).book = s.book := rfl
@[simp] theorem modPort_engine (p : Port) (f : PortState → PortState) : (s.modPort p f).engine = s.engine := rfl
@[simp] theorem modPort_player (p : Port) (f : PortState → PortState) : (s.modPort p f).player = s.player := rfl
@[simp] theorem modPort_planner (p : Port) (f : PortState → PortState) : (s.modPort p f).planner = s.planner := rfl
@[simp] theorem modPort_drive (p : Port) (f : PortState → PortState) : (s.modPort p f).drive = s.drive := rfl
@[simp] theorem modPort_live (p : Port) (f : PortState → PortState) : (s.modPort p f).live = s.live := rfl
@[simp] theorem modPort_library (p : Port) (f : PortState → PortState) : (s.modPort p f).library = s.library := rfl
@[simp] theorem modPort_store (p : Port) (f : PortState → PortState) : (s.modPort p f).store = s.store := rfl
@[simp] theorem modPort_notices (p : Port) (f : PortState → PortState) : (s.modPort p f).notices = s.notices := rfl
@[simp] theorem modPort_freeCount (p : Port) (f : PortState → PortState) : (s.modPort p f).freeCount = s.freeCount := rfl
@[simp] theorem modPort_pending (p : Port) (f : PortState → PortState) : (s.modPort p f).pending = s.pending := rfl

/-! `State.respond` changes only links. -/

@[simp] theorem respond_time (p : Port) (r : Byte) (a : AnswerCode) (b : List Byte) : (s.respond p r a b).time = s.time := by unfold State.respond; split <;> rfl
@[simp] theorem respond_book (p : Port) (r : Byte) (a : AnswerCode) (b : List Byte) : (s.respond p r a b).book = s.book := by unfold State.respond; split <;> rfl
@[simp] theorem respond_engine (p : Port) (r : Byte) (a : AnswerCode) (b : List Byte) : (s.respond p r a b).engine = s.engine := by unfold State.respond; split <;> rfl
@[simp] theorem respond_player (p : Port) (r : Byte) (a : AnswerCode) (b : List Byte) : (s.respond p r a b).player = s.player := by unfold State.respond; split <;> rfl
@[simp] theorem respond_planner (p : Port) (r : Byte) (a : AnswerCode) (b : List Byte) : (s.respond p r a b).planner = s.planner := by unfold State.respond; split <;> rfl
@[simp] theorem respond_drive (p : Port) (r : Byte) (a : AnswerCode) (b : List Byte) : (s.respond p r a b).drive = s.drive := by unfold State.respond; split <;> rfl
@[simp] theorem respond_live (p : Port) (r : Byte) (a : AnswerCode) (b : List Byte) : (s.respond p r a b).live = s.live := by unfold State.respond; split <;> rfl
@[simp] theorem respond_library (p : Port) (r : Byte) (a : AnswerCode) (b : List Byte) : (s.respond p r a b).library = s.library := by unfold State.respond; split <;> rfl
@[simp] theorem respond_store (p : Port) (r : Byte) (a : AnswerCode) (b : List Byte) : (s.respond p r a b).store = s.store := by unfold State.respond; split <;> rfl
@[simp] theorem respond_notices (p : Port) (r : Byte) (a : AnswerCode) (b : List Byte) : (s.respond p r a b).notices = s.notices := by unfold State.respond; split <;> rfl
@[simp] theorem respond_freeCount (p : Port) (r : Byte) (a : AnswerCode) (b : List Byte) : (s.respond p r a b).freeCount = s.freeCount := by unfold State.respond; split <;> rfl
@[simp] theorem respond_pending (p : Port) (r : Byte) (a : AnswerCode) (b : List Byte) : (s.respond p r a b).pending = s.pending := by unfold State.respond; split <;> rfl

/-! `State.setBusy` changes only planner. -/

@[simp] theorem setBusy_time (b : Nat) (v : Option Nat) : (s.setBusy b v).time = s.time := rfl
@[simp] theorem setBusy_book (b : Nat) (v : Option Nat) : (s.setBusy b v).book = s.book := rfl
@[simp] theorem setBusy_engine (b : Nat) (v : Option Nat) : (s.setBusy b v).engine = s.engine := rfl
@[simp] theorem setBusy_player (b : Nat) (v : Option Nat) : (s.setBusy b v).player = s.player := rfl
@[simp] theorem setBusy_drive (b : Nat) (v : Option Nat) : (s.setBusy b v).drive = s.drive := rfl
@[simp] theorem setBusy_live (b : Nat) (v : Option Nat) : (s.setBusy b v).live = s.live := rfl
@[simp] theorem setBusy_library (b : Nat) (v : Option Nat) : (s.setBusy b v).library = s.library := rfl
@[simp] theorem setBusy_store (b : Nat) (v : Option Nat) : (s.setBusy b v).store = s.store := rfl
@[simp] theorem setBusy_links (b : Nat) (v : Option Nat) : (s.setBusy b v).links = s.links := rfl
@[simp] theorem setBusy_notices (b : Nat) (v : Option Nat) : (s.setBusy b v).notices = s.notices := rfl
@[simp] theorem setBusy_freeCount (b : Nat) (v : Option Nat) : (s.setBusy b v).freeCount = s.freeCount := rfl
@[simp] theorem setBusy_pending (b : Nat) (v : Option Nat) : (s.setBusy b v).pending = s.pending := rfl

/-! `State.setTestFilled` changes only planner. -/

@[simp] theorem setTestFilled_time (v : Option Nat) : (s.setTestFilled v).time = s.time := rfl
@[simp] theorem setTestFilled_book (v : Option Nat) : (s.setTestFilled v).book = s.book := rfl
@[simp] theorem setTestFilled_engine (v : Option Nat) : (s.setTestFilled v).engine = s.engine := rfl
@[simp] theorem setTestFilled_player (v : Option Nat) : (s.setTestFilled v).player = s.player := rfl
@[simp] theorem setTestFilled_drive (v : Option Nat) : (s.setTestFilled v).drive = s.drive := rfl
@[simp] theorem setTestFilled_live (v : Option Nat) : (s.setTestFilled v).live = s.live := rfl
@[simp] theorem setTestFilled_library (v : Option Nat) : (s.setTestFilled v).library = s.library := rfl
@[simp] theorem setTestFilled_store (v : Option Nat) : (s.setTestFilled v).store = s.store := rfl
@[simp] theorem setTestFilled_links (v : Option Nat) : (s.setTestFilled v).links = s.links := rfl
@[simp] theorem setTestFilled_notices (v : Option Nat) : (s.setTestFilled v).notices = s.notices := rfl
@[simp] theorem setTestFilled_freeCount (v : Option Nat) : (s.setTestFilled v).freeCount = s.freeCount := rfl
@[simp] theorem setTestFilled_pending (v : Option Nat) : (s.setTestFilled v).pending = s.pending := rfl
@[simp] theorem setTestFilled_planner_queue (v : Option Nat) : (s.setTestFilled v).planner.queue = s.planner.queue := rfl
@[simp] theorem setTestFilled_planner_busyUntil (v : Option Nat) : (s.setTestFilled v).planner.busyUntil = s.planner.busyUntil := rfl
@[simp] theorem setTestFilled_planner_lastFire (v : Option Nat) : (s.setTestFilled v).planner.lastFire = s.planner.lastFire := rfl
@[simp] theorem setTestFilled_planner_testFilled (v : Option Nat) : (s.setTestFilled v).planner.testFilled = v := rfl

/-! `State.insertStrike` changes only planner. -/

@[simp] theorem insertStrike_time (e : StrikeEntry) : (s.insertStrike e).time = s.time := rfl
@[simp] theorem insertStrike_book (e : StrikeEntry) : (s.insertStrike e).book = s.book := rfl
@[simp] theorem insertStrike_engine (e : StrikeEntry) : (s.insertStrike e).engine = s.engine := rfl
@[simp] theorem insertStrike_player (e : StrikeEntry) : (s.insertStrike e).player = s.player := rfl
@[simp] theorem insertStrike_drive (e : StrikeEntry) : (s.insertStrike e).drive = s.drive := rfl
@[simp] theorem insertStrike_live (e : StrikeEntry) : (s.insertStrike e).live = s.live := rfl
@[simp] theorem insertStrike_library (e : StrikeEntry) : (s.insertStrike e).library = s.library := rfl
@[simp] theorem insertStrike_store (e : StrikeEntry) : (s.insertStrike e).store = s.store := rfl
@[simp] theorem insertStrike_links (e : StrikeEntry) : (s.insertStrike e).links = s.links := rfl
@[simp] theorem insertStrike_notices (e : StrikeEntry) : (s.insertStrike e).notices = s.notices := rfl
@[simp] theorem insertStrike_freeCount (e : StrikeEntry) : (s.insertStrike e).freeCount = s.freeCount := rfl
@[simp] theorem insertStrike_pending (e : StrikeEntry) : (s.insertStrike e).pending = s.pending := rfl

/-! `State.leaveWaiting` changes only engine. -/

@[simp] theorem leaveWaiting_time (n : Nat) : (s.leaveWaiting n).time = s.time := rfl
@[simp] theorem leaveWaiting_book (n : Nat) : (s.leaveWaiting n).book = s.book := rfl
@[simp] theorem leaveWaiting_player (n : Nat) : (s.leaveWaiting n).player = s.player := rfl
@[simp] theorem leaveWaiting_planner (n : Nat) : (s.leaveWaiting n).planner = s.planner := rfl
@[simp] theorem leaveWaiting_drive (n : Nat) : (s.leaveWaiting n).drive = s.drive := rfl
@[simp] theorem leaveWaiting_live (n : Nat) : (s.leaveWaiting n).live = s.live := rfl
@[simp] theorem leaveWaiting_library (n : Nat) : (s.leaveWaiting n).library = s.library := rfl
@[simp] theorem leaveWaiting_store (n : Nat) : (s.leaveWaiting n).store = s.store := rfl
@[simp] theorem leaveWaiting_links (n : Nat) : (s.leaveWaiting n).links = s.links := rfl
@[simp] theorem leaveWaiting_notices (n : Nat) : (s.leaveWaiting n).notices = s.notices := rfl
@[simp] theorem leaveWaiting_freeCount (n : Nat) : (s.leaveWaiting n).freeCount = s.freeCount := rfl
@[simp] theorem leaveWaiting_pending (n : Nat) : (s.leaveWaiting n).pending = s.pending := rfl

/-! `State.sortWaiting` changes only engine. -/

@[simp] theorem sortWaiting_time : (s.sortWaiting).time = s.time := rfl
@[simp] theorem sortWaiting_book : (s.sortWaiting).book = s.book := rfl
@[simp] theorem sortWaiting_player : (s.sortWaiting).player = s.player := rfl
@[simp] theorem sortWaiting_planner : (s.sortWaiting).planner = s.planner := rfl
@[simp] theorem sortWaiting_drive : (s.sortWaiting).drive = s.drive := rfl
@[simp] theorem sortWaiting_live : (s.sortWaiting).live = s.live := rfl
@[simp] theorem sortWaiting_library : (s.sortWaiting).library = s.library := rfl
@[simp] theorem sortWaiting_store : (s.sortWaiting).store = s.store := rfl
@[simp] theorem sortWaiting_links : (s.sortWaiting).links = s.links := rfl
@[simp] theorem sortWaiting_notices : (s.sortWaiting).notices = s.notices := rfl
@[simp] theorem sortWaiting_freeCount : (s.sortWaiting).freeCount = s.freeCount := rfl
@[simp] theorem sortWaiting_pending : (s.sortWaiting).pending = s.pending := rfl

/-! `State.joinWaiting` changes only engine. -/

@[simp] theorem joinWaiting_time (ns : List Nat) : (s.joinWaiting ns).time = s.time := rfl
@[simp] theorem joinWaiting_book (ns : List Nat) : (s.joinWaiting ns).book = s.book := rfl
@[simp] theorem joinWaiting_player (ns : List Nat) : (s.joinWaiting ns).player = s.player := rfl
@[simp] theorem joinWaiting_planner (ns : List Nat) : (s.joinWaiting ns).planner = s.planner := rfl
@[simp] theorem joinWaiting_drive (ns : List Nat) : (s.joinWaiting ns).drive = s.drive := rfl
@[simp] theorem joinWaiting_live (ns : List Nat) : (s.joinWaiting ns).live = s.live := rfl
@[simp] theorem joinWaiting_library (ns : List Nat) : (s.joinWaiting ns).library = s.library := rfl
@[simp] theorem joinWaiting_store (ns : List Nat) : (s.joinWaiting ns).store = s.store := rfl
@[simp] theorem joinWaiting_links (ns : List Nat) : (s.joinWaiting ns).links = s.links := rfl
@[simp] theorem joinWaiting_notices (ns : List Nat) : (s.joinWaiting ns).notices = s.notices := rfl
@[simp] theorem joinWaiting_freeCount (ns : List Nat) : (s.joinWaiting ns).freeCount = s.freeCount := rfl
@[simp] theorem joinWaiting_pending (ns : List Nat) : (s.joinWaiting ns).pending = s.pending := rfl

/-! `State.planningDone` changes only player. -/

@[simp] theorem planningDone_time (d : PlanningDone) : (s.planningDone d).time = s.time := rfl
@[simp] theorem planningDone_book (d : PlanningDone) : (s.planningDone d).book = s.book := rfl
@[simp] theorem planningDone_engine (d : PlanningDone) : (s.planningDone d).engine = s.engine := rfl
@[simp] theorem planningDone_planner (d : PlanningDone) : (s.planningDone d).planner = s.planner := rfl
@[simp] theorem planningDone_drive (d : PlanningDone) : (s.planningDone d).drive = s.drive := rfl
@[simp] theorem planningDone_live (d : PlanningDone) : (s.planningDone d).live = s.live := rfl
@[simp] theorem planningDone_library (d : PlanningDone) : (s.planningDone d).library = s.library := rfl
@[simp] theorem planningDone_store (d : PlanningDone) : (s.planningDone d).store = s.store := rfl
@[simp] theorem planningDone_links (d : PlanningDone) : (s.planningDone d).links = s.links := rfl
@[simp] theorem planningDone_notices (d : PlanningDone) : (s.planningDone d).notices = s.notices := rfl
@[simp] theorem planningDone_freeCount (d : PlanningDone) : (s.planningDone d).freeCount = s.freeCount := rfl
@[simp] theorem planningDone_pending (d : PlanningDone) : (s.planningDone d).pending = s.pending := rfl

/-! `State.releaseBuffers` changes only player and store. -/

@[simp] theorem releaseBuffers_time : (s.releaseBuffers).time = s.time := rfl
@[simp] theorem releaseBuffers_book : (s.releaseBuffers).book = s.book := rfl
@[simp] theorem releaseBuffers_engine : (s.releaseBuffers).engine = s.engine := rfl
@[simp] theorem releaseBuffers_planner : (s.releaseBuffers).planner = s.planner := rfl
@[simp] theorem releaseBuffers_drive : (s.releaseBuffers).drive = s.drive := rfl
@[simp] theorem releaseBuffers_live : (s.releaseBuffers).live = s.live := rfl
@[simp] theorem releaseBuffers_library : (s.releaseBuffers).library = s.library := rfl
@[simp] theorem releaseBuffers_links : (s.releaseBuffers).links = s.links := rfl
@[simp] theorem releaseBuffers_notices : (s.releaseBuffers).notices = s.notices := rfl
@[simp] theorem releaseBuffers_freeCount : (s.releaseBuffers).freeCount = s.freeCount := rfl
@[simp] theorem releaseBuffers_pending : (s.releaseBuffers).pending = s.pending := rfl

/-! `State.letGo` changes only player and store. -/

@[simp] theorem letGo_time : (s.letGo).time = s.time := rfl
@[simp] theorem letGo_book : (s.letGo).book = s.book := rfl
@[simp] theorem letGo_engine : (s.letGo).engine = s.engine := rfl
@[simp] theorem letGo_planner : (s.letGo).planner = s.planner := rfl
@[simp] theorem letGo_drive : (s.letGo).drive = s.drive := rfl
@[simp] theorem letGo_live : (s.letGo).live = s.live := rfl
@[simp] theorem letGo_library : (s.letGo).library = s.library := rfl
@[simp] theorem letGo_links : (s.letGo).links = s.links := rfl
@[simp] theorem letGo_notices : (s.letGo).notices = s.notices := rfl
@[simp] theorem letGo_freeCount : (s.letGo).freeCount = s.freeCount := rfl
@[simp] theorem letGo_pending : (s.letGo).pending = s.pending := rfl

/-! `State.requestSegment` changes only store. -/

@[simp] theorem requestSegment_time (m i : Nat) : (s.requestSegment m i).time = s.time := rfl
@[simp] theorem requestSegment_book (m i : Nat) : (s.requestSegment m i).book = s.book := rfl
@[simp] theorem requestSegment_engine (m i : Nat) : (s.requestSegment m i).engine = s.engine := rfl
@[simp] theorem requestSegment_player (m i : Nat) : (s.requestSegment m i).player = s.player := rfl
@[simp] theorem requestSegment_planner (m i : Nat) : (s.requestSegment m i).planner = s.planner := rfl
@[simp] theorem requestSegment_drive (m i : Nat) : (s.requestSegment m i).drive = s.drive := rfl
@[simp] theorem requestSegment_live (m i : Nat) : (s.requestSegment m i).live = s.live := rfl
@[simp] theorem requestSegment_library (m i : Nat) : (s.requestSegment m i).library = s.library := rfl
@[simp] theorem requestSegment_links (m i : Nat) : (s.requestSegment m i).links = s.links := rfl
@[simp] theorem requestSegment_notices (m i : Nat) : (s.requestSegment m i).notices = s.notices := rfl
@[simp] theorem requestSegment_freeCount (m i : Nat) : (s.requestSegment m i).freeCount = s.freeCount := rfl
@[simp] theorem requestSegment_pending (m i : Nat) : (s.requestSegment m i).pending = s.pending := rfl

/-! `State.removeBooking` changes only book and live. -/

@[simp] theorem removeBooking_time (n : Nat) : (s.removeBooking n).time = s.time := rfl
@[simp] theorem removeBooking_engine (n : Nat) : (s.removeBooking n).engine = s.engine := rfl
@[simp] theorem removeBooking_player (n : Nat) : (s.removeBooking n).player = s.player := rfl
@[simp] theorem removeBooking_planner (n : Nat) : (s.removeBooking n).planner = s.planner := rfl
@[simp] theorem removeBooking_drive (n : Nat) : (s.removeBooking n).drive = s.drive := rfl
@[simp] theorem removeBooking_library (n : Nat) : (s.removeBooking n).library = s.library := rfl
@[simp] theorem removeBooking_store (n : Nat) : (s.removeBooking n).store = s.store := rfl
@[simp] theorem removeBooking_links (n : Nat) : (s.removeBooking n).links = s.links := rfl
@[simp] theorem removeBooking_notices (n : Nat) : (s.removeBooking n).notices = s.notices := rfl
@[simp] theorem removeBooking_freeCount (n : Nat) : (s.removeBooking n).freeCount = s.freeCount := rfl
@[simp] theorem removeBooking_pending (n : Nat) : (s.removeBooking n).pending = s.pending := rfl

/-! `State.setBookingState` changes only book. -/

@[simp] theorem setBookingState_time (n : Nat) (v : BookingState) : (s.setBookingState n v).time = s.time := by unfold State.setBookingState; split <;> rfl
@[simp] theorem setBookingState_engine (n : Nat) (v : BookingState) : (s.setBookingState n v).engine = s.engine := by unfold State.setBookingState; split <;> rfl
@[simp] theorem setBookingState_player (n : Nat) (v : BookingState) : (s.setBookingState n v).player = s.player := by unfold State.setBookingState; split <;> rfl
@[simp] theorem setBookingState_planner (n : Nat) (v : BookingState) : (s.setBookingState n v).planner = s.planner := by unfold State.setBookingState; split <;> rfl
@[simp] theorem setBookingState_drive (n : Nat) (v : BookingState) : (s.setBookingState n v).drive = s.drive := by unfold State.setBookingState; split <;> rfl
@[simp] theorem setBookingState_live (n : Nat) (v : BookingState) : (s.setBookingState n v).live = s.live := by unfold State.setBookingState; split <;> rfl
@[simp] theorem setBookingState_library (n : Nat) (v : BookingState) : (s.setBookingState n v).library = s.library := by unfold State.setBookingState; split <;> rfl
@[simp] theorem setBookingState_store (n : Nat) (v : BookingState) : (s.setBookingState n v).store = s.store := by unfold State.setBookingState; split <;> rfl
@[simp] theorem setBookingState_links (n : Nat) (v : BookingState) : (s.setBookingState n v).links = s.links := by unfold State.setBookingState; split <;> rfl
@[simp] theorem setBookingState_notices (n : Nat) (v : BookingState) : (s.setBookingState n v).notices = s.notices := by unfold State.setBookingState; split <;> rfl
@[simp] theorem setBookingState_freeCount (n : Nat) (v : BookingState) : (s.setBookingState n v).freeCount = s.freeCount := by unfold State.setBookingState; split <;> rfl
@[simp] theorem setBookingState_pending (n : Nat) (v : BookingState) : (s.setBookingState n v).pending = s.pending := by unfold State.setBookingState; split <;> rfl

/-! `State.takeUpLive` changes only engine and live. -/

@[simp] theorem takeUpLive_time : (s.takeUpLive).time = s.time := rfl
@[simp] theorem takeUpLive_book : (s.takeUpLive).book = s.book := rfl
@[simp] theorem takeUpLive_player : (s.takeUpLive).player = s.player := rfl
@[simp] theorem takeUpLive_planner : (s.takeUpLive).planner = s.planner := rfl
@[simp] theorem takeUpLive_drive : (s.takeUpLive).drive = s.drive := rfl
@[simp] theorem takeUpLive_library : (s.takeUpLive).library = s.library := rfl
@[simp] theorem takeUpLive_store : (s.takeUpLive).store = s.store := rfl
@[simp] theorem takeUpLive_links : (s.takeUpLive).links = s.links := rfl
@[simp] theorem takeUpLive_notices : (s.takeUpLive).notices = s.notices := rfl
@[simp] theorem takeUpLive_freeCount : (s.takeUpLive).freeCount = s.freeCount := rfl
@[simp] theorem takeUpLive_pending : (s.takeUpLive).pending = s.pending := rfl

/-! `State.coilOff` changes only drive. -/

@[simp] theorem coilOff_time : (s.coilOff).time = s.time := rfl
@[simp] theorem coilOff_book : (s.coilOff).book = s.book := rfl
@[simp] theorem coilOff_engine : (s.coilOff).engine = s.engine := rfl
@[simp] theorem coilOff_player : (s.coilOff).player = s.player := rfl
@[simp] theorem coilOff_planner : (s.coilOff).planner = s.planner := rfl
@[simp] theorem coilOff_live : (s.coilOff).live = s.live := rfl
@[simp] theorem coilOff_library : (s.coilOff).library = s.library := rfl
@[simp] theorem coilOff_store : (s.coilOff).store = s.store := rfl
@[simp] theorem coilOff_links : (s.coilOff).links = s.links := rfl
@[simp] theorem coilOff_notices : (s.coilOff).notices = s.notices := rfl
@[simp] theorem coilOff_freeCount : (s.coilOff).freeCount = s.freeCount := rfl
@[simp] theorem coilOff_pending : (s.coilOff).pending = s.pending := rfl

/-! `State.setHush` changes only drive. -/

@[simp] theorem setHush_time (v : Bool) : (s.setHush v).time = s.time := rfl
@[simp] theorem setHush_book (v : Bool) : (s.setHush v).book = s.book := rfl
@[simp] theorem setHush_engine (v : Bool) : (s.setHush v).engine = s.engine := rfl
@[simp] theorem setHush_player (v : Bool) : (s.setHush v).player = s.player := rfl
@[simp] theorem setHush_planner (v : Bool) : (s.setHush v).planner = s.planner := rfl
@[simp] theorem setHush_live (v : Bool) : (s.setHush v).live = s.live := rfl
@[simp] theorem setHush_library (v : Bool) : (s.setHush v).library = s.library := rfl
@[simp] theorem setHush_store (v : Bool) : (s.setHush v).store = s.store := rfl
@[simp] theorem setHush_links (v : Bool) : (s.setHush v).links = s.links := rfl
@[simp] theorem setHush_notices (v : Bool) : (s.setHush v).notices = s.notices := rfl
@[simp] theorem setHush_freeCount (v : Bool) : (s.setHush v).freeCount = s.freeCount := rfl
@[simp] theorem setHush_pending (v : Bool) : (s.setHush v).pending = s.pending := rfl

/-! `State.setReady` changes only drive. -/

@[simp] theorem setReady_time (v : Bool) : (s.setReady v).time = s.time := rfl
@[simp] theorem setReady_book (v : Bool) : (s.setReady v).book = s.book := rfl
@[simp] theorem setReady_engine (v : Bool) : (s.setReady v).engine = s.engine := rfl
@[simp] theorem setReady_player (v : Bool) : (s.setReady v).player = s.player := rfl
@[simp] theorem setReady_planner (v : Bool) : (s.setReady v).planner = s.planner := rfl
@[simp] theorem setReady_live (v : Bool) : (s.setReady v).live = s.live := rfl
@[simp] theorem setReady_library (v : Bool) : (s.setReady v).library = s.library := rfl
@[simp] theorem setReady_store (v : Bool) : (s.setReady v).store = s.store := rfl
@[simp] theorem setReady_links (v : Bool) : (s.setReady v).links = s.links := rfl
@[simp] theorem setReady_notices (v : Bool) : (s.setReady v).notices = s.notices := rfl
@[simp] theorem setReady_freeCount (v : Bool) : (s.setReady v).freeCount = s.freeCount := rfl
@[simp] theorem setReady_pending (v : Bool) : (s.setReady v).pending = s.pending := rfl

/-! `State.setMeasurement` changes only drive. -/

@[simp] theorem setMeasurement_time (v : Nat) : (s.setMeasurement v).time = s.time := rfl
@[simp] theorem setMeasurement_book (v : Nat) : (s.setMeasurement v).book = s.book := rfl
@[simp] theorem setMeasurement_engine (v : Nat) : (s.setMeasurement v).engine = s.engine := rfl
@[simp] theorem setMeasurement_player (v : Nat) : (s.setMeasurement v).player = s.player := rfl
@[simp] theorem setMeasurement_planner (v : Nat) : (s.setMeasurement v).planner = s.planner := rfl
@[simp] theorem setMeasurement_live (v : Nat) : (s.setMeasurement v).live = s.live := rfl
@[simp] theorem setMeasurement_library (v : Nat) : (s.setMeasurement v).library = s.library := rfl
@[simp] theorem setMeasurement_store (v : Nat) : (s.setMeasurement v).store = s.store := rfl
@[simp] theorem setMeasurement_links (v : Nat) : (s.setMeasurement v).links = s.links := rfl
@[simp] theorem setMeasurement_notices (v : Nat) : (s.setMeasurement v).notices = s.notices := rfl
@[simp] theorem setMeasurement_freeCount (v : Nat) : (s.setMeasurement v).freeCount = s.freeCount := rfl
@[simp] theorem setMeasurement_pending (v : Nat) : (s.setMeasurement v).pending = s.pending := rfl

/-! `State.countError` changes only links and notices. -/

@[simp] theorem countError_time (p : Port) : (s.countError p).time = s.time := rfl
@[simp] theorem countError_book (p : Port) : (s.countError p).book = s.book := rfl
@[simp] theorem countError_engine (p : Port) : (s.countError p).engine = s.engine := rfl
@[simp] theorem countError_player (p : Port) : (s.countError p).player = s.player := rfl
@[simp] theorem countError_planner (p : Port) : (s.countError p).planner = s.planner := rfl
@[simp] theorem countError_drive (p : Port) : (s.countError p).drive = s.drive := rfl
@[simp] theorem countError_live (p : Port) : (s.countError p).live = s.live := rfl
@[simp] theorem countError_library (p : Port) : (s.countError p).library = s.library := rfl
@[simp] theorem countError_store (p : Port) : (s.countError p).store = s.store := rfl
@[simp] theorem countError_freeCount (p : Port) : (s.countError p).freeCount = s.freeCount := rfl
@[simp] theorem countError_pending (p : Port) : (s.countError p).pending = s.pending := rfl

/-! `State.keepBytes` changes only links. -/

@[simp] theorem keepBytes_time (p : Port) (bs : List Byte) : (s.keepBytes p bs).time = s.time := rfl
@[simp] theorem keepBytes_book (p : Port) (bs : List Byte) : (s.keepBytes p bs).book = s.book := rfl
@[simp] theorem keepBytes_engine (p : Port) (bs : List Byte) : (s.keepBytes p bs).engine = s.engine := rfl
@[simp] theorem keepBytes_player (p : Port) (bs : List Byte) : (s.keepBytes p bs).player = s.player := rfl
@[simp] theorem keepBytes_planner (p : Port) (bs : List Byte) : (s.keepBytes p bs).planner = s.planner := rfl
@[simp] theorem keepBytes_drive (p : Port) (bs : List Byte) : (s.keepBytes p bs).drive = s.drive := rfl
@[simp] theorem keepBytes_live (p : Port) (bs : List Byte) : (s.keepBytes p bs).live = s.live := rfl
@[simp] theorem keepBytes_library (p : Port) (bs : List Byte) : (s.keepBytes p bs).library = s.library := rfl
@[simp] theorem keepBytes_store (p : Port) (bs : List Byte) : (s.keepBytes p bs).store = s.store := rfl
@[simp] theorem keepBytes_notices (p : Port) (bs : List Byte) : (s.keepBytes p bs).notices = s.notices := rfl
@[simp] theorem keepBytes_freeCount (p : Port) (bs : List Byte) : (s.keepBytes p bs).freeCount = s.freeCount := rfl
@[simp] theorem keepBytes_pending (p : Port) (bs : List Byte) : (s.keepBytes p bs).pending = s.pending := rfl

/-! `State.acceptJob` changes only store. -/

@[simp] theorem acceptJob_time (j : StoreJob) (p : Port) : (s.acceptJob j p).time = s.time := rfl
@[simp] theorem acceptJob_book (j : StoreJob) (p : Port) : (s.acceptJob j p).book = s.book := rfl
@[simp] theorem acceptJob_engine (j : StoreJob) (p : Port) : (s.acceptJob j p).engine = s.engine := rfl
@[simp] theorem acceptJob_player (j : StoreJob) (p : Port) : (s.acceptJob j p).player = s.player := rfl
@[simp] theorem acceptJob_planner (j : StoreJob) (p : Port) : (s.acceptJob j p).planner = s.planner := rfl
@[simp] theorem acceptJob_drive (j : StoreJob) (p : Port) : (s.acceptJob j p).drive = s.drive := rfl
@[simp] theorem acceptJob_live (j : StoreJob) (p : Port) : (s.acceptJob j p).live = s.live := rfl
@[simp] theorem acceptJob_library (j : StoreJob) (p : Port) : (s.acceptJob j p).library = s.library := rfl
@[simp] theorem acceptJob_links (j : StoreJob) (p : Port) : (s.acceptJob j p).links = s.links := rfl
@[simp] theorem acceptJob_notices (j : StoreJob) (p : Port) : (s.acceptJob j p).notices = s.notices := rfl
@[simp] theorem acceptJob_freeCount (j : StoreJob) (p : Port) : (s.acceptJob j p).freeCount = s.freeCount := rfl
@[simp] theorem acceptJob_pending (j : StoreJob) (p : Port) : (s.acceptJob j p).pending = s.pending := rfl

/-! `State.storeIdle` changes only store. -/

@[simp] theorem storeIdle_time : (s.storeIdle).time = s.time := rfl
@[simp] theorem storeIdle_book : (s.storeIdle).book = s.book := rfl
@[simp] theorem storeIdle_engine : (s.storeIdle).engine = s.engine := rfl
@[simp] theorem storeIdle_player : (s.storeIdle).player = s.player := rfl
@[simp] theorem storeIdle_planner : (s.storeIdle).planner = s.planner := rfl
@[simp] theorem storeIdle_drive : (s.storeIdle).drive = s.drive := rfl
@[simp] theorem storeIdle_live : (s.storeIdle).live = s.live := rfl
@[simp] theorem storeIdle_library : (s.storeIdle).library = s.library := rfl
@[simp] theorem storeIdle_links : (s.storeIdle).links = s.links := rfl
@[simp] theorem storeIdle_notices : (s.storeIdle).notices = s.notices := rfl
@[simp] theorem storeIdle_freeCount : (s.storeIdle).freeCount = s.freeCount := rfl
@[simp] theorem storeIdle_pending : (s.storeIdle).pending = s.pending := rfl

/-! `State.runPeriod` changes only time. -/

@[simp] theorem runPeriod_book : (s.runPeriod).book = s.book := rfl
@[simp] theorem runPeriod_engine : (s.runPeriod).engine = s.engine := rfl
@[simp] theorem runPeriod_player : (s.runPeriod).player = s.player := rfl
@[simp] theorem runPeriod_planner : (s.runPeriod).planner = s.planner := rfl
@[simp] theorem runPeriod_drive : (s.runPeriod).drive = s.drive := rfl
@[simp] theorem runPeriod_live : (s.runPeriod).live = s.live := rfl
@[simp] theorem runPeriod_library : (s.runPeriod).library = s.library := rfl
@[simp] theorem runPeriod_store : (s.runPeriod).store = s.store := rfl
@[simp] theorem runPeriod_links : (s.runPeriod).links = s.links := rfl
@[simp] theorem runPeriod_notices : (s.runPeriod).notices = s.notices := rfl
@[simp] theorem runPeriod_freeCount : (s.runPeriod).freeCount = s.freeCount := rfl
@[simp] theorem runPeriod_pending : (s.runPeriod).pending = s.pending := rfl

/-! `State.answered` changes only links. -/

@[simp] theorem answered_time (p : Port) (r : Byte) (a : AnswerCode) (b : List Byte) : (s.answered p r a b).time = s.time := rfl
@[simp] theorem answered_book (p : Port) (r : Byte) (a : AnswerCode) (b : List Byte) : (s.answered p r a b).book = s.book := rfl
@[simp] theorem answered_engine (p : Port) (r : Byte) (a : AnswerCode) (b : List Byte) : (s.answered p r a b).engine = s.engine := rfl
@[simp] theorem answered_player (p : Port) (r : Byte) (a : AnswerCode) (b : List Byte) : (s.answered p r a b).player = s.player := rfl
@[simp] theorem answered_planner (p : Port) (r : Byte) (a : AnswerCode) (b : List Byte) : (s.answered p r a b).planner = s.planner := rfl
@[simp] theorem answered_drive (p : Port) (r : Byte) (a : AnswerCode) (b : List Byte) : (s.answered p r a b).drive = s.drive := rfl
@[simp] theorem answered_live (p : Port) (r : Byte) (a : AnswerCode) (b : List Byte) : (s.answered p r a b).live = s.live := rfl
@[simp] theorem answered_library (p : Port) (r : Byte) (a : AnswerCode) (b : List Byte) : (s.answered p r a b).library = s.library := rfl
@[simp] theorem answered_store (p : Port) (r : Byte) (a : AnswerCode) (b : List Byte) : (s.answered p r a b).store = s.store := rfl
@[simp] theorem answered_notices (p : Port) (r : Byte) (a : AnswerCode) (b : List Byte) : (s.answered p r a b).notices = s.notices := rfl
@[simp] theorem answered_freeCount (p : Port) (r : Byte) (a : AnswerCode) (b : List Byte) : (s.answered p r a b).freeCount = s.freeCount := rfl
@[simp] theorem answered_pending (p : Port) (r : Byte) (a : AnswerCode) (b : List Byte) : (s.answered p r a b).pending = s.pending := rfl

/-! `State.taken` changes only links. -/

@[simp] theorem taken_time (p : Port) : (s.taken p).time = s.time := rfl
@[simp] theorem taken_book (p : Port) : (s.taken p).book = s.book := rfl
@[simp] theorem taken_engine (p : Port) : (s.taken p).engine = s.engine := rfl
@[simp] theorem taken_player (p : Port) : (s.taken p).player = s.player := rfl
@[simp] theorem taken_planner (p : Port) : (s.taken p).planner = s.planner := rfl
@[simp] theorem taken_drive (p : Port) : (s.taken p).drive = s.drive := rfl
@[simp] theorem taken_live (p : Port) : (s.taken p).live = s.live := rfl
@[simp] theorem taken_library (p : Port) : (s.taken p).library = s.library := rfl
@[simp] theorem taken_store (p : Port) : (s.taken p).store = s.store := rfl
@[simp] theorem taken_notices (p : Port) : (s.taken p).notices = s.notices := rfl
@[simp] theorem taken_freeCount (p : Port) : (s.taken p).freeCount = s.freeCount := rfl
@[simp] theorem taken_pending (p : Port) : (s.taken p).pending = s.pending := rfl

/-! ## Contexts -/

@[simp] theorem Context.moveTo_booking (pos : PlanPos) (c : Context) : (c.moveTo pos).booking = c.booking := rfl
@[simp] theorem Context.moveTo_rank (pos : PlanPos) (c : Context) : (c.moveTo pos).rank = c.rank := rfl
@[simp] theorem Context.moveTo_cls (pos : PlanPos) (c : Context) : (c.moveTo pos).cls = c.cls := rfl
@[simp] theorem Context.moveTo_melody (pos : PlanPos) (c : Context) : (c.moveTo pos).melody = c.melody := rfl
@[simp] theorem Context.moveTo_melodyKind (pos : PlanPos) (c : Context) : (c.moveTo pos).melodyKind = c.melodyKind := rfl
@[simp] theorem Context.moveTo_counts (pos : PlanPos) (c : Context) : (c.moveTo pos).counts = c.counts := rfl
@[simp] theorem Context.moveTo_repeats (pos : PlanPos) (c : Context) : (c.moveTo pos).repeats = c.repeats := rfl
@[simp] theorem Context.moveTo_tollCount (pos : PlanPos) (c : Context) : (c.moveTo pos).tollCount = c.tollCount := rfl
@[simp] theorem Context.moveTo_failed (pos : PlanPos) (c : Context) : (c.moveTo pos).failed = c.failed := rfl
@[simp] theorem Context.moveTo_repStart (pos : PlanPos) (c : Context) : (c.moveTo pos).repStart = c.repStart := rfl
@[simp] theorem Context.moveTo_volume (pos : PlanPos) (c : Context) : (c.moveTo pos).volume = c.volume := rfl
@[simp] theorem Context.moveTo_transposition (pos : PlanPos) (c : Context) : (c.moveTo pos).transposition = c.transposition := rfl
@[simp] theorem Context.moveTo_substitution (pos : PlanPos) (c : Context) : (c.moveTo pos).substitution = c.substitution := rfl
@[simp] theorem Context.moveTo_tempo (pos : PlanPos) (c : Context) : (c.moveTo pos).tempo = c.tempo := rfl
@[simp] theorem Context.moveTo_resume (pos : PlanPos) (c : Context) : (c.moveTo pos).resume = c.resume := rfl
@[simp] theorem Context.moveTo_pos (pos : PlanPos) (c : Context) : (c.moveTo pos).pos = pos := rfl
@[simp] theorem Context.moveTo_atResume (pos : PlanPos) (c : Context) : (c.moveTo pos).atResume = false := rfl
@[simp] theorem Context.moveTo_pendingHalt (pos : PlanPos) (c : Context) : (c.moveTo pos).pendingHalt = c.pendingHalt := rfl
@[simp] theorem Context.moveTo_repeatNo (pos : PlanPos) (c : Context) : (c.moveTo pos).repeatNo = c.repeatNo := rfl
@[simp] theorem Context.moveTo_lastRepeat (pos : PlanPos) (c : Context) : (c.moveTo pos).lastRepeat = c.lastRepeat := rfl
@[simp] theorem Context.moveTo_mode (pos : PlanPos) (c : Context) : (c.moveTo pos).mode = c.mode := rfl

@[simp] theorem Context.storeHalt_booking (h : PendingHalt) (c : Context) : (c.storeHalt h).booking = c.booking := rfl
@[simp] theorem Context.storeHalt_rank (h : PendingHalt) (c : Context) : (c.storeHalt h).rank = c.rank := rfl
@[simp] theorem Context.storeHalt_cls (h : PendingHalt) (c : Context) : (c.storeHalt h).cls = c.cls := rfl
@[simp] theorem Context.storeHalt_melody (h : PendingHalt) (c : Context) : (c.storeHalt h).melody = c.melody := rfl
@[simp] theorem Context.storeHalt_melodyKind (h : PendingHalt) (c : Context) : (c.storeHalt h).melodyKind = c.melodyKind := rfl
@[simp] theorem Context.storeHalt_counts (h : PendingHalt) (c : Context) : (c.storeHalt h).counts = c.counts := rfl
@[simp] theorem Context.storeHalt_repeats (h : PendingHalt) (c : Context) : (c.storeHalt h).repeats = c.repeats := rfl
@[simp] theorem Context.storeHalt_tollCount (h : PendingHalt) (c : Context) : (c.storeHalt h).tollCount = c.tollCount := rfl
@[simp] theorem Context.storeHalt_failed (h : PendingHalt) (c : Context) : (c.storeHalt h).failed = c.failed := rfl
@[simp] theorem Context.storeHalt_repStart (h : PendingHalt) (c : Context) : (c.storeHalt h).repStart = c.repStart := rfl
@[simp] theorem Context.storeHalt_volume (h : PendingHalt) (c : Context) : (c.storeHalt h).volume = c.volume := rfl
@[simp] theorem Context.storeHalt_transposition (h : PendingHalt) (c : Context) : (c.storeHalt h).transposition = c.transposition := rfl
@[simp] theorem Context.storeHalt_substitution (h : PendingHalt) (c : Context) : (c.storeHalt h).substitution = c.substitution := rfl
@[simp] theorem Context.storeHalt_tempo (h : PendingHalt) (c : Context) : (c.storeHalt h).tempo = c.tempo := rfl
@[simp] theorem Context.storeHalt_resume (h : PendingHalt) (c : Context) : (c.storeHalt h).resume = c.resume := rfl
@[simp] theorem Context.storeHalt_pos (h : PendingHalt) (c : Context) : (c.storeHalt h).pos = c.pos := rfl
@[simp] theorem Context.storeHalt_atResume (h : PendingHalt) (c : Context) : (c.storeHalt h).atResume = c.atResume := rfl
@[simp] theorem Context.storeHalt_mode (h : PendingHalt) (c : Context) : (c.storeHalt h).mode = c.mode := rfl
@[simp] theorem Context.storeHalt_repeatNo (h : PendingHalt) (c : Context) : (c.storeHalt h).repeatNo = c.repeatNo := rfl
@[simp] theorem Context.storeHalt_pendingHalt (h : PendingHalt) (c : Context) : (c.storeHalt h).pendingHalt = some (soonerHalt c.pendingHalt h) := rfl

@[simp] theorem Context.fromResume_booking (now : Nat) (c : Context) : (c.fromResume now).booking = c.booking := rfl
@[simp] theorem Context.fromResume_rank (now : Nat) (c : Context) : (c.fromResume now).rank = c.rank := rfl
@[simp] theorem Context.fromResume_cls (now : Nat) (c : Context) : (c.fromResume now).cls = c.cls := rfl
@[simp] theorem Context.fromResume_melody (now : Nat) (c : Context) : (c.fromResume now).melody = c.melody := rfl
@[simp] theorem Context.fromResume_melodyKind (now : Nat) (c : Context) : (c.fromResume now).melodyKind = c.melodyKind := rfl
@[simp] theorem Context.fromResume_counts (now : Nat) (c : Context) : (c.fromResume now).counts = c.counts := rfl
@[simp] theorem Context.fromResume_repeats (now : Nat) (c : Context) : (c.fromResume now).repeats = c.repeats := rfl
@[simp] theorem Context.fromResume_tollCount (now : Nat) (c : Context) : (c.fromResume now).tollCount = c.tollCount := rfl
@[simp] theorem Context.fromResume_failed (now : Nat) (c : Context) : (c.fromResume now).failed = c.failed := rfl
@[simp] theorem Context.fromResume_repStart (now : Nat) (c : Context) : (c.fromResume now).repStart = c.repStart := rfl
@[simp] theorem Context.fromResume_volume (now : Nat) (c : Context) : (c.fromResume now).volume = c.volume := rfl
@[simp] theorem Context.fromResume_transposition (now : Nat) (c : Context) : (c.fromResume now).transposition = c.transposition := rfl
@[simp] theorem Context.fromResume_substitution (now : Nat) (c : Context) : (c.fromResume now).substitution = c.substitution := rfl
@[simp] theorem Context.fromResume_tempo (now : Nat) (c : Context) : (c.fromResume now).tempo = c.tempo := rfl
@[simp] theorem Context.fromResume_resume (now : Nat) (c : Context) : (c.fromResume now).resume = c.resume := rfl
@[simp] theorem Context.fromResume_pos (now : Nat) (c : Context) : (c.fromResume now).pos = c.resume.pos := rfl
@[simp] theorem Context.fromResume_atResume (now : Nat) (c : Context) : (c.fromResume now).atResume = true := rfl
@[simp] theorem Context.fromResume_mode (now : Nat) (c : Context) : (c.fromResume now).mode = .playing := rfl
@[simp] theorem Context.fromResume_pendingHalt (now : Nat) (c : Context) : (c.fromResume now).pendingHalt = c.pendingHalt := rfl
@[simp] theorem Context.fromResume_repeatNo (now : Nat) (c : Context) : (c.fromResume now).repeatNo = c.repeatNo := rfl
@[simp] theorem Context.fromResume_lastRepeat (now : Nat) (c : Context) : (c.fromResume now).lastRepeat = c.lastRepeat := rfl
@[simp] theorem Context.fromResume_originTick (now : Nat) (c : Context) : (c.fromResume now).originTick = c.resume.tick := rfl
@[simp] theorem Context.fromResume_tempoNow (now : Nat) (c : Context) : (c.fromResume now).tempoNow = c.resume.tempo := rfl

/-- R90: where no stop point is set, none is met. -/
theorem stopHere_of_none (s : State) (c : Context) (h : s.player.stopPoint = none) : s.stopHere c = none := by
  simp [State.stopHere, h]

/-- R61, R69: a SCORE that has reached nothing since it was taken up keeps its resume point. -/
theorem resumePoint_of_atResume (s : State) (c : Context) (removed : Option ScorePos)
    (hk : c.melodyKind = some .score) (hm : c.melody ≠ none) (h : c.atResume = true) :
    s.resumePoint c removed = c.resume := by
  cases hs : c.melody with
  | none => exact absurd hs hm
  | some slot => simp [State.resumePoint, hk, hs, h]

end Sys2Proof.Machine
end

