-- ==== Sys2Proof/Laws/Kept.lean ====
section
/-! SUPPORT. What a performance can never touch: the relation `Kept` between a state and what the
performance side of the part (planner, arbiter, player, engine, booking book) makes of it. -/

namespace Sys2Proof.Machine

/-- The stream queue holds no more than it may. -/
def streamBounded (l : Option LiveFeed) : Prop := ∀ x, l = some x → x.queue.length ≤ Config.streamQueueMax

/-- What every operation of the performance side keeps. -/
structure Kept (s t : State) : Prop where
  time : t.time = s.time
  library : t.library = s.library
  links : t.links = s.links
  places : t.store.places = s.store.places
  op : t.store.op = s.store.op
  storeState : t.store.state = s.store.state
  loading : t.store.loading = s.store.loading
  discards : t.store.discards = s.store.discards
  enables : t.notices.enables = s.notices.enables
  cause : t.notices.cause = s.notices.cause
  freeCount : t.freeCount = s.freeCount
  pending : t.pending = s.pending
  k : t.drive.k = s.drive.k
  hush : t.drive.hush = s.drive.hush
  ready : t.drive.ready = s.drive.ready
  measurement : t.drive.measurement = s.drive.measurement
  level : t.drive.level = s.drive.level
  limit : s.drive.energised ≤ s.drive.k → t.drive.energised ≤ t.drive.k
  silent : s.drive.arbiterOpen = false → t.drive = s.drive
  queue : s.planner.queue.length ≤ Config.strikeQueueMax → t.planner.queue.length ≤ Config.strikeQueueMax
  orphans : s.book.orphans.length ≤ Config.orphanMax → t.book.orphans.length ≤ Config.orphanMax
  stream : streamBounded s.live → streamBounded t.live

/-- Doing nothing keeps everything. -/
theorem Kept.refl (s : State) : Kept s s :=
  ⟨rfl, rfl, rfl, rfl, rfl, rfl, rfl, rfl, rfl, rfl, rfl, rfl, rfl, rfl, rfl, rfl, rfl, id, fun _ => rfl,
    id, id, id⟩

/-- One operation after another. -/
theorem Kept.trans {s t u : State} (h : Kept s t) (g : Kept t u) : Kept s u where
  time := g.time.trans h.time
  library := g.library.trans h.library
  links := g.links.trans h.links
  places := g.places.trans h.places
  op := g.op.trans h.op
  storeState := g.storeState.trans h.storeState
  loading := g.loading.trans h.loading
  discards := g.discards.trans h.discards
  enables := g.enables.trans h.enables
  cause := g.cause.trans h.cause
  freeCount := g.freeCount.trans h.freeCount
  pending := g.pending.trans h.pending
  k := g.k.trans h.k
  hush := g.hush.trans h.hush
  ready := g.ready.trans h.ready
  measurement := g.measurement.trans h.measurement
  level := g.level.trans h.level
  limit := fun x => g.limit (h.limit x)
  silent := fun x => (g.silent (by rw [h.silent x]; exact x)).trans (h.silent x)
  queue := fun x => g.queue (h.queue x)
  orphans := fun x => g.orphans (h.orphans x)
  stream := fun x => g.stream (h.stream x)

/-- A fold of operations that keep everything keeps everything. -/
theorem Kept.foldl {α : Type} (f : State → α → State) (h : ∀ s a, Kept s (f s a)) (l : List α) :
    ∀ s, Kept s (l.foldl f s) := by
  induction l with
  | nil => exact fun s => Kept.refl s
  | cons a l ih => exact fun s => (h s a).trans (ih (f s a))

/-- Operations on the engine, the player and the tables alone. -/
theorem Kept.ofTables {s t : State} (time : t.time = s.time) (library : t.library = s.library)
    (links : t.links = s.links) (store : t.store = s.store) (enables : t.notices.enables = s.notices.enables)
    (cause : t.notices.cause = s.notices.cause) (freeCount : t.freeCount = s.freeCount)
    (pending : t.pending = s.pending) (drive : t.drive = s.drive)
    (queue : s.planner.queue.length ≤ Config.strikeQueueMax →
      t.planner.queue.length ≤ Config.strikeQueueMax)
    (orphans : s.book.orphans.length ≤ Config.orphanMax → t.book.orphans.length ≤ Config.orphanMax)
    (stream : streamBounded s.live → streamBounded t.live) : Kept s t where
  time := time
  library := library
  links := links
  places := by rw [store]
  op := by rw [store]
  storeState := by rw [store]
  loading := by rw [store]
  discards := by rw [store]
  enables := enables
  cause := cause
  freeCount := freeCount
  pending := pending
  k := by rw [drive]
  hush := by rw [drive]
  ready := by rw [drive]
  measurement := by rw [drive]
  level := by rw [drive]
  limit := by rw [drive]; exact id
  silent := fun _ => drive
  queue := queue
  orphans := orphans
  stream := stream

/-! ## Small operations -/

theorem raise_kept (n : Notice) (s : State) : Kept s (s.raise n) := by
  refine .ofTables rfl rfl rfl rfl ?_ rfl rfl rfl rfl id id id
  rfl

theorem raiseIf_kept (c : Bool) (n : Notice) (s : State) : Kept s (s.raiseIf c n) := by
  unfold State.raiseIf; split
  · exact raise_kept n s
  · exact .refl s

theorem modActive_kept (f : Context → Context) (s : State) : Kept s (s.modActive f) :=
  .ofTables rfl rfl rfl rfl rfl rfl rfl rfl rfl id id id

theorem charge_kept (o : Owner) (k : Charge) (s : State) : Kept s (s.charge o k) := by
  cases o
  · exact modActive_kept _ s
  · exact .refl s

theorem setBooking_kept (n : Nat) (b : Booking) (s : State) : Kept s (s.setBooking n b) :=
  .ofTables rfl rfl rfl rfl rfl rfl rfl rfl rfl id id id

theorem setBookingState_kept (n : Nat) (v : BookingState) (s : State) : Kept s (s.setBookingState n v) := by
  unfold State.setBookingState; split
  · exact .refl s
  · exact setBooking_kept _ _ s

theorem leaveWaiting_kept (n : Nat) (s : State) : Kept s (s.leaveWaiting n) :=
  .ofTables rfl rfl rfl rfl rfl rfl rfl rfl rfl id id id

theorem sortWaiting_kept (s : State) : Kept s s.sortWaiting :=
  .ofTables rfl rfl rfl rfl rfl rfl rfl rfl rfl id id id

theorem joinWaiting_kept (ns : List Nat) (s : State) : Kept s (s.joinWaiting ns) :=
  .ofTables rfl rfl rfl rfl rfl rfl rfl rfl rfl id id id

theorem planningDone_kept (d : PlanningDone) (s : State) : Kept s (s.planningDone d) :=
  .ofTables rfl rfl rfl rfl rfl rfl rfl rfl rfl id id id

theorem setBusy_kept (b : Nat) (v : Option Nat) (s : State) : Kept s (s.setBusy b v) :=
  .ofTables rfl rfl rfl rfl rfl rfl rfl rfl rfl id id id

theorem recomputeBusy_kept (b : Nat) (s : State) : Kept s (s.recomputeBusy b) := setBusy_kept _ _ s

theorem setTestFilled_kept (v : Option Nat) (s : State) : Kept s (s.setTestFilled v) :=
  .ofTables rfl rfl rfl rfl rfl rfl rfl rfl rfl id id id

/-- The Score Player's dealings with the read queue. -/
theorem releaseBuffers_kept (s : State) : Kept s s.releaseBuffers := by
  constructor <;> first | rfl | exact id | exact fun _ => rfl

theorem letGo_kept (s : State) : Kept s s.letGo := by
  constructor <;> first | rfl | exact id | exact fun _ => rfl

/-- Making room in the read queue touches nothing else of the store. -/
theorem makeRoom_eq (st : Store) : ∃ reads, st.makeRoom = { st with reads := reads } := by
  unfold Store.makeRoom
  split
  · exact ⟨_, rfl⟩
  · split
    · split
      · exact ⟨_, rfl⟩
      · exact ⟨_, rfl⟩
    · exact ⟨_, rfl⟩

/-- A read request touches the read queue and the suspend alone. -/
theorem requestRead_eq (st : Store) (r : ReadRequest) :
    ∃ reads suspending, st.requestRead r = { st with reads := reads, suspending := suspending } := by
  obtain ⟨reads, h⟩ := makeRoom_eq st
  unfold Store.requestRead
  rw [h]
  exact ⟨_, _, rfl⟩

theorem requestSegment_kept (m i : Nat) (s : State) : Kept s (s.requestSegment m i) := by
  obtain ⟨reads, suspending, h⟩ := requestRead_eq s.store ⟨m, i, .buffer false⟩
  unfold State.requestSegment
  rw [h]
  constructor <;> first | rfl | exact id | exact fun _ => rfl

/-- A change of the player alone. -/
theorem player_kept (p : Player) (s : State) : Kept s { s with player := p } :=
  .ofTables rfl rfl rfl rfl rfl rfl rfl rfl rfl id id id

/-- A change of the engine alone. -/
theorem engine_kept (e : Engine) (s : State) : Kept s { s with engine := e } :=
  .ofTables rfl rfl rfl rfl rfl rfl rfl rfl rfl id id id

/-- A change of the live feed that leaves the stream queue bounded. -/
theorem live_kept (l : Option LiveFeed) (s : State) (h : streamBounded s.live → streamBounded l) :
    Kept s { s with live := l } :=
  .ofTables rfl rfl rfl rfl rfl rfl rfl rfl rfl id id h

/-- A feed changed by a function that does not lengthen its queue stays bounded. -/
theorem streamBounded_map {l : Option LiveFeed} (f : LiveFeed → LiveFeed)
    (hf : ∀ x, (f x).queue.length ≤ x.queue.length) (h : streamBounded l) : streamBounded (l.map f) := by
  intro x hx
  cases l with
  | none => cases hx
  | some y =>
    cases hx
    exact (hf y).trans (h y rfl)

/-- No feed is bounded. -/
theorem streamBounded_none : streamBounded none := fun _ h => nomatch h

/-! ## The strike queue (R98, R111–R115) -/

theorem insertEntry_length (e : StrikeEntry) (l : List StrikeEntry) :
    (insertEntry e l).length = l.length + 1 := by
  induction l with
  | nil => rfl
  | cons x xs ih =>
    unfold insertEntry
    split
    · rfl
    · simp [ih]

theorem removeStrikes_kept (pick : StrikeEntry → Bool) (s : State) : Kept s (s.removeStrikes pick) := by
  unfold State.removeStrikes
  refine Kept.trans (t := { s with planner := { s.planner with queue := s.planner.queue.filter (fun e => !pick e) } })
    (.ofTables rfl rfl rfl rfl rfl rfl rfl rfl rfl ?_ id id) ?_
  · exact fun h => (List.length_filter_le _ _).trans h
  · exact Kept.foldl _ (fun s (e : StrikeEntry) => recomputeBusy_kept e.bell s) _ _

theorem removeBell_kept (b : Nat) (s : State) : Kept s (s.removeBell b) := by
  unfold State.removeBell
  exact ((Kept.foldl _ (fun s (e : StrikeEntry) => charge_kept e.owner .lost s) _ s).trans
    (removeStrikes_kept _ _)).trans (recomputeBusy_kept b _)

theorem removeOwner_kept (n : Nat) (s : State) : Kept s (s.removeOwner n) := removeStrikes_kept _ s

theorem removeOwnerLost_kept (n : Nat) (s : State) : Kept s (s.removeOwnerLost n) := by
  unfold State.removeOwnerLost
  exact (Kept.foldl _ (fun s (e : StrikeEntry) => charge_kept e.owner .lost s) _ s).trans
    (removeOwner_kept n _)

theorem removeAllStrikes_kept (s : State) : Kept s s.removeAllStrikes := removeStrikes_kept _ s

theorem dropEntry_kept (e : StrikeEntry) (s : State) : Kept s (s.dropEntry e) :=
  (charge_kept e.owner .lost s).trans (removeStrikes_kept _ _)

theorem insertStrike_kept (e : StrikeEntry) (s : State) (h : s.queueFull = false) :
    Kept s (s.insertStrike e) := by
  refine .ofTables rfl rfl rfl rfl rfl rfl rfl rfl rfl ?_ id id
  intro _
  have hlt : s.planner.queue.length < Config.strikeQueueMax := by
    simpa [State.queueFull] using h
  show (insertEntry e s.planner.queue).length ≤ _
  rw [insertEntry_length]
  omega

theorem charge_queueFull (o : Owner) (k : Charge) (s : State) : (s.charge o k).queueFull = s.queueFull := by
  simp [State.queueFull]

/-- R83: with room in the queue nothing stalls. -/
theorem stalled_of_room (s : State) (h : s.queueFull = false) : s.stalled = false := by
  simp [State.stalled, h]

/-- R100: a hand-over either charges or plans. -/
theorem handOver_kept (h : HandOver) (s : State) : Kept s (s.handOver h).1 := by
  have h1 : Kept s (if h.substituted then s.charge h.owner .substituted else s) := by
    split
    · exact charge_kept _ _ s
    · exact .refl s
  unfold State.handOver
  generalize (if h.substituted then s.charge h.owner .substituted else s) = s1 at h1 ⊢
  dsimp only
  split
  · exact h1.trans (charge_kept _ _ _)
  · split
    · exact h1.trans (charge_kept _ _ _)
    · rename_i hfull
      split
      · exact h1.trans (charge_kept _ _ _)
      · refine h1.trans (insertStrike_kept _ _ ?_)
        simp only [Bool.or_eq_true, not_or, Bool.not_eq_true] at hfull
        exact hfull.2

/-! ## The arbiter (R127–R129) -/

theorem reportFire_kept (e : StrikeEntry) (a : Nat) (s : State) : Kept s (s.reportFire e a) := by
  have h1 := charge_kept e.owner .fired s
  have h2 : Kept (s.charge e.owner .fired)
      (if e.late then (s.charge e.owner .fired).charge e.owner .late else s.charge e.owner .fired) := by
    split
    · exact charge_kept _ _ _
    · exact .refl _
  unfold State.reportFire
  exact (h1.trans h2).trans (.ofTables rfl rfl rfl rfl rfl rfl rfl rfl rfl id id id)

/-- R127, R128: a fire takes a free slot of an open arbiter. -/
theorem fireIfEligible_kept (s : State) (e : StrikeEntry) : Kept s (s.fireIfEligible e) := by
  unfold State.fireIfEligible
  split
  · rename_i h
    obtain ⟨hslot, hel⟩ := h
    have hopen : s.drive.arbiterOpen = true := by
      simp only [State.eligible, Bool.and_eq_true] at hel
      exact hel.2
    unfold State.fire
    refine Kept.trans (t := { s.modBell e.bell (·.fire s.now e.width) with
        drive := { (s.modBell e.bell (·.fire s.now e.width)).drive with energised := s.drive.energised + 1 }
        planner := { s.planner with queue := s.planner.queue.erase e } }) ?_ (reportFire_kept _ _ _)
    constructor <;> try rfl
    · intro _
      show s.drive.energised + 1 ≤ s.drive.k
      unfold Drive.freeSlots at hslot
      split at hslot
      · omega
      · omega
    · intro hh
      rw [hh] at hopen
      cases hopen
    · intro hq
      exact (List.length_erase_le ..).trans hq
    · exact id
    · exact id
  · exact .refl s

theorem arbiter_kept (s : State) : Kept s s.arbiter := Kept.foldl _ fireIfEligible_kept _ s

theorem plan_kept (h : HandOver) (s : State) : Kept s (s.plan h).1 := by
  unfold State.plan
  dsimp only
  split
  · exact handOver_kept h s
  · split
    · exact (handOver_kept h s).trans (arbiter_kept _)
    · exact handOver_kept h s

/-! ## The Score Player (R82–R97, R142) -/

theorem prefetch_kept (c : Context) (m i : Nat) (s : State) : Kept s (s.prefetch c m i) := by
  unfold State.prefetch
  split
  · exact .refl s
  · split
    · exact .refl s
    · split
      · exact player_kept _ s
      · exact (player_kept _ s).trans (requestSegment_kept _ _ _)

theorem startReads_kept (c : Context) (m : Nat) (s : State) : Kept s (s.startReads c m) := by
  unfold State.startReads
  split
  · exact (player_kept _ s).trans (planningDone_kept _ _)
  · exact ((player_kept _ s).trans (requestSegment_kept _ _ _)).trans (prefetch_kept _ _ _ _)

theorem enterSegment_kept (c : Context) (m i : Nat) (s : State) : Kept s (s.enterSegment c m i) := by
  unfold State.enterSegment
  split
  · exact planningDone_kept _ s
  all_goals
    split
    · exact .refl s
    · exact (player_kept _ s).trans (prefetch_kept _ _ _ _)

theorem advance_kept (m tick n : Nat) (s : State) : Kept s (s.advance m tick n) := by
  unfold State.advance
  split
  · exact .refl s
  · split
    · exact modActive_kept _ s
    · split
      · exact (modActive_kept _ s).trans (enterSegment_kept _ _ _ _)
      · split
        · dsimp only
          split
          · exact modActive_kept _ s
          · exact (modActive_kept _ s).trans (enterSegment_kept _ _ _ _)
        · exact (modActive_kept _ s).trans (planningDone_kept _ _)

theorem planNote_kept (h : HandOver) (s : State) : Kept s (s.planNote h) :=
  (setTestFilled_kept none s).trans (plan_kept h _)

theorem planTest_kept (h : HandOver) (s : State) : Kept s (s.planTest h).1 := by
  unfold State.planTest
  dsimp only
  split
  · exact (plan_kept h s).trans (setTestFilled_kept _ _)
  · exact plan_kept h s

theorem actEvent_kept (c : Context) (e : Event) (tick due : Nat) (pos : ScorePos) (s : State) :
    Kept s (s.actEvent c e tick due pos) := by
  unfold State.actEvent
  split
  · split
    · exact .refl s
    · exact planNote_kept _ s
  · exact .refl s
  · exact modActive_kept _ s
  · exact .refl s

theorem stopHere_kept (s t : State) (c : Context) (h : s.stopHere c = some t) : Kept s t := by
  unfold State.stopHere at h
  split at h
  · cases h
    exact (releaseBuffers_kept s).trans (planningDone_kept _ _)
  · cases h

theorem reachScore_kept (s t : State) (c : Context) (h : s.reachScore c = some t) : Kept s t := by
  unfold State.reachScore at h
  split at h
  · cases h
  · split at h
    · cases h
      exact planningDone_kept _ s
    · exact stopHere_kept s t c h
    · exact stopHere_kept s t c h
    · exact stopHere_kept s t c h
    · split at h
      · cases h
        exact stopHere_kept s _ c ‹_›
      · split at h
        · cases h
        · dsimp only at h
          split at h
          · cases h
          · cases h
            exact (actEvent_kept _ _ _ _ _ s).trans (advance_kept _ _ _ _)

theorem advanceToll_kept (s : State) : Kept s s.advanceToll := by
  unfold State.advanceToll
  split
  · exact .refl s
  · dsimp only
    split
    · exact (modActive_kept _ s).trans (planningDone_kept _ _)
    · exact modActive_kept _ s

theorem reachToll_kept (s t : State) (c : Context) (h : s.reachToll c = some t) : Kept s t := by
  unfold State.reachToll at h
  split at h
  · cases h
  · dsimp only at h
    split at h
    · cases h
    · cases h
      exact (planNote_kept _ s).trans (advanceToll_kept _)

theorem takeHead_kept (s : State) (l : LiveFeed) (e : Event) (rest : List Event) (hl : s.live = some l)
    (hq : l.queue = e :: rest) : Kept s (s.takeHead rest) := by
  unfold State.takeHead
  refine (live_kept _ s ?_).trans (raiseIf_kept _ _ _)
  intro h x hx
  rw [hl] at hx
  cases hx
  have := h l hl
  rw [hq] at this
  simp only [List.length_cons] at this
  show rest.length ≤ _
  omega

theorem reachLive_kept (s t : State) (c : Context) (h : s.reachLive c = some t) : Kept s t := by
  unfold State.reachLive at h
  split at h
  · cases h
  · rename_i l hl
    split at h
    · cases h
    · rename_i e rest hq
      dsimp only at h
      split at h
      · cases h
      · cases h
        exact ((takeHead_kept s l e rest hl hq).trans (actEvent_kept _ _ _ _ _ _)).trans (modActive_kept _ _)

theorem reachOne_kept (s t : State) (h : s.reachOne = some t) : Kept s t := by
  unfold State.reachOne at h
  split at h
  · cases h
  · split at h
    · cases h
    · split at h
      · exact reachScore_kept _ _ _ h
      · exact reachToll_kept _ _ _ h
      · exact reachLive_kept _ _ _ h

theorem reachLoop_kept (n : Nat) : ∀ s, Kept s (reachLoop n s) := by
  induction n with
  | zero => exact Kept.refl
  | succ n ih =>
    intro s
    unfold reachLoop
    split
    · exact .refl s
    · rename_i t h
      exact (reachOne_kept s t h).trans (ih t)

theorem reachAll_kept (s : State) : Kept s s.reachAll := reachLoop_kept _ s

/-! ## Disposals (R30–R32) -/

theorem removeBooking_kept (n : Nat) (s : State) : Kept s (s.removeBooking n) := by
  refine .ofTables rfl rfl rfl rfl rfl rfl rfl rfl rfl id id ?_
  intro h
  unfold State.removeBooking
  dsimp only
  split
  · exact streamBounded_none
  · exact h

theorem orphan_length (b : Book) (o : Orphan) : (b.orphan o).orphans.length ≤ Config.orphanMax := by
  simp only [Book.orphan, List.length_append, List.length_drop, List.length_singleton, Config.orphanMax]
  omega

theorem orphan_kept (o : Orphan) (s : State) : Kept s { s with book := s.book.orphan o } :=
  .ofTables rfl rfl rfl rfl rfl rfl rfl rfl rfl id (fun _ => orphan_length _ _) id

theorem dispose_kept (n : Nat) (k : OutcomeKind) (c : Option OutcomeCause) (x : StrikeCounts) (w : Bool)
    (s : State) : Kept s (s.dispose n k c x w) := by
  unfold State.dispose
  split
  · exact .refl s
  · dsimp only
    split
    · exact ((raise_kept .outcome s).trans (orphan_kept _ _)).trans (removeBooking_kept n _)
    · exact (raise_kept _ s).trans (setBooking_kept _ _ _)

/-! ## The Precedence Engine (R48–R70) -/

theorem takeUpLive_kept (s : State) : Kept s s.takeUpLive := by
  unfold State.takeUpLive
  exact (modActive_kept _ s).trans (live_kept _ _ fun h => streamBounded_map _ (fun _ => le_refl _) h)

theorem takeUp_kept (s : State) : Kept s s.takeUp := by
  unfold State.takeUp
  split
  · exact .refl s
  · dsimp only
    split
    · exact ((player_kept _ s).trans (player_kept _ _)).trans (startReads_kept _ _ _)
    · split
      · exact (player_kept _ s).trans (planningDone_kept _ _)
      · exact player_kept _ s
    · exact (player_kept _ s).trans (takeUpLive_kept _)

theorem refuse_kept (n : Nat) (k : OutcomeKind) (s : State) : Kept s (s.refuse n k) :=
  (leaveWaiting_kept n s).trans (dispose_kept ..)

theorem start_kept (n : Nat) (s : State) : Kept s (s.start n) := by
  unfold State.start
  split
  · exact leaveWaiting_kept n s
  · exact (((leaveWaiting_kept n s).trans (engine_kept _ _)).trans (setBooking_kept _ _ _)).trans (takeUp_kept _)

theorem suspendActive_kept (s : State) : Kept s s.suspendActive := by
  unfold State.suspendActive
  split
  · exact .refl s
  · exact (((removeOwner_kept _ s).trans (letGo_kept _)).trans (engine_kept _ _)).trans (setBookingState_kept _ _ _)

theorem endActive_kept (k : OutcomeKind) (c : Option OutcomeCause) (w : Bool) (s : State) :
    Kept s (s.endActive k c w) := by
  unfold State.endActive
  split
  · exact .refl s
  · exact (((removeOwner_kept _ s).trans (letGo_kept _)).trans (engine_kept _ _)).trans (dispose_kept ..)

theorem endStacked_kept (c : Context) (k : OutcomeKind) (x : Option OutcomeCause) (w : Bool) (s : State) :
    Kept s (s.endStacked c k x w) := (engine_kept _ s).trans (dispose_kept ..)

theorem displace_kept (s : State) : Kept s s.displace := by
  unfold State.displace
  split
  · exact .refl s
  · split
    · exact .refl s
    · exact endStacked_kept ..

theorem resumeTop_kept (s : State) : Kept s s.resumeTop := by
  unfold State.resumeTop
  split
  · exact .refl s
  · exact ((engine_kept _ s).trans (setBookingState_kept _ _ _)).trans (takeUp_kept _)

theorem clearFor_kept (d : Decision) (s : State) : Kept s (s.clearFor d) := by
  cases d
  · exact .refl s
  · exact (displace_kept s).trans (suspendActive_kept _)
  · exact endActive_kept ..

theorem settleStart_kept (a : Agenda) (s : State) : Kept s (s.settleStart a).1 := by
  unfold State.settleStart
  split
  · exact endActive_kept ..
  · exact .refl s

theorem choose_kept (s : State) : Kept s s.choose.1 := by
  unfold State.choose
  split
  · split
    · exact .refl s
    · exact (resumeTop_kept s).trans (settleStart_kept _ _)
  · split
    · exact leaveWaiting_kept _ s
    · split
      · split
        · exact refuse_kept ..
        · exact (start_kept _ s).trans (settleStart_kept _ _)
      · exact (resumeTop_kept s).trans (settleStart_kept _ _)

theorem judgeAt_kept (k : Nat) (s : State) : Kept s (s.judgeAt k).1 := by
  unfold State.judgeAt
  split
  · exact .refl s
  · split
    · exact leaveWaiting_kept _ s
    · split
      · split
        · split
          · exact refuse_kept ..
          · exact (start_kept _ s).trans (settleStart_kept _ _)
        · exact .refl s
      · split
        · exact .refl s
        · split
          · exact refuse_kept ..
          · exact ((clearFor_kept _ s).trans (start_kept _ _)).trans (settleStart_kept _ _)

theorem agendaStep_kept (a : Agenda) (s : State) : Kept s (s.agendaStep a).1 := by
  cases a
  · simp only [State.agendaStep]
    split
    · exact .refl s
    · exact choose_kept s
  · exact judgeAt_kept _ s

theorem engineLoop_kept (n : Nat) : ∀ a s, Kept s (engineLoop n a s) := by
  induction n with
  | zero => exact fun _ s => .refl s
  | succ n ih =>
    intro a s
    have h := agendaStep_kept a s
    unfold engineLoop
    split
    · rename_i t ht
      rw [ht] at h
      exact h
    · rename_i t a' ht
      rw [ht] at h
      exact h.trans (ih a' t)

theorem resumeChoice_kept (s : State) : Kept s s.resumeChoice := by
  unfold State.resumeChoice
  split
  · exact .refl s
  · exact engineLoop_kept _ _ s

theorem reconsider_kept (s : State) : Kept s s.reconsider := by
  unfold State.reconsider
  split
  · exact .refl s
  · exact engineLoop_kept _ _ s

theorem handGroup_kept (ns : List Nat) (s : State) : Kept s (s.handGroup ns) := by
  unfold State.handGroup
  split
  · exact .refl s
  · exact (joinWaiting_kept ns s).trans (reconsider_kept _)

theorem settle_kept (s : State) : Kept s s.settle := by
  unfold State.settle
  dsimp only
  split
  · exact reachAll_kept s
  · exact ((reachAll_kept s).trans (endActive_kept ..)).trans (resumeChoice_kept _)

theorem withdrawNow_kept (n : Nat) (s : State) : Kept s (s.withdrawNow n) := by
  unfold State.withdrawNow
  split
  · exact .refl s
  · split
    · exact removeBooking_kept n s
    · exact removeBooking_kept n s
    · exact removeBooking_kept n s
    · exact (leaveWaiting_kept n s).trans (removeBooking_kept n _)
    · exact (endActive_kept ..).trans (resumeChoice_kept _)
    · split
      · exact .refl s
      · exact endStacked_kept ..

/-! ## Halts, HUSH, drive loss -/

theorem haltStackedNow_kept (named : Context → Bool) (s : State) : Kept s (s.haltStackedNow named) :=
  Kept.foldl _ (fun s c => endStacked_kept c .halted none false s) _ s

theorem haltNow_kept (t : HaltTarget) (s : State) : Kept s (s.haltNow t) := by
  unfold State.haltNow
  split
  · exact ((endActive_kept ..).trans (haltStackedNow_kept _ _)).trans (resumeChoice_kept _)
  · exact haltStackedNow_kept _ s

theorem cancelRepeats_kept (c : Context) (s : State) : Kept s (s.cancelRepeats c) := by
  unfold State.cancelRepeats
  split
  · split
    · exact .refl s
    · split
      · constructor <;> first | rfl | exact id | exact fun _ => rfl
      · exact .refl s
  · split
    · exact planningDone_kept _ s
    · exact .refl s
  · exact .refl s

theorem stopAtPhrase_kept (c : Context) (s : State) : Kept s (s.stopAtPhrase c) := by
  unfold State.stopAtPhrase
  split
  · exact .refl s
  · split
    · exact player_kept _ s
    · exact planningDone_kept _ s
    · exact .refl s

theorem liveHalt_length (h : PendingHalt) (l : LiveFeed) : (l.halt h).queue.length ≤ l.queue.length := by
  unfold LiveFeed.halt
  split
  · exact Nat.zero_le _
  · split <;> exact le_refl _

/-- R67, R147: a feed that AT_END has reached does not end PLAYED, whatever closed it (log 22). -/
theorem halt_atEnd_ending (l : LiveFeed) : (l.halt .atEnd).ending ≠ some .played := by
  cases hm : l.mode <;> simp [LiveFeed.halt, LiveFeed.ending, hm]

theorem applyHalt_kept (c : Context) (h : PendingHalt) (s : State) : Kept s (s.applyHalt c h) := by
  unfold State.applyHalt
  split
  · exact live_kept _ s fun hb => streamBounded_map _ (liveHalt_length h) hb
  · split
    · exact .refl s
    · split
      · exact stopAtPhrase_kept c s
      · exact cancelRepeats_kept c s

theorem haltLater_kept (t : HaltTarget) (h : PendingHalt) (s : State) : Kept s (s.haltLater t h) := by
  unfold State.haltLater
  dsimp only
  have h1 : Kept s (s.haltStackedLater (t.names false) h) := engine_kept _ s
  split
  · refine h1.trans (Kept.trans ?_ (settle_kept _))
    unfold State.haltActiveLater
    split
    · exact .refl _
    · split
      · exact .refl _
      · exact (modActive_kept _ _).trans (applyHalt_kept ..)
  · exact h1

theorem halt_kept (t : HaltTarget) (c : HaltCondition) (s : State) : Kept s (s.halt t c) := by
  cases c
  · exact haltNow_kept t s
  · exact haltLater_kept t _ s
  · exact haltLater_kept t _ s

theorem hushActive_kept (s : State) : Kept s s.hushActive := by
  unfold State.hushActive
  split
  · exact .refl s
  · split
    · exact .refl s
    · dsimp only
      have h1 : ∀ b : Bool, ∀ n, Kept s (if b then s.removeOwnerLost n else s.removeOwner n) := by
        intro b n
        split
        · exact removeOwnerLost_kept n s
        · exact removeOwner_kept n s
      refine (((h1 _ _).trans (letGo_kept _)).trans (modActive_kept _ _)).trans (live_kept _ _ fun h => ?_)
      refine streamBounded_map _ (fun x => ?_) h
      split <;> exact le_refl _

theorem restartActive_kept (s : State) : Kept s s.restartActive := by
  unfold State.restartActive
  split
  · exact .refl s
  · exact (modActive_kept _ s).trans (takeUp_kept _)

theorem releaseEngine_kept (s : State) : Kept s s.releaseEngine := by
  unfold State.releaseEngine
  split
  · exact resumeChoice_kept s
  · rename_i c _
    dsimp only
    have h1 : Kept s (if (c.mode == .hushed) = true then s.restartActive else s) := by
      split
      · exact restartActive_kept s
      · exact .refl s
    split
    · exact (h1.trans (endActive_kept ..)).trans (resumeChoice_kept _)
    · exact h1.trans (reconsider_kept _)

theorem loseDrive_kept (s : State) : Kept s s.loseDrive := by
  unfold State.loseDrive
  split
  · exact .refl s
  · exact ((endActive_kept ..).trans
      (Kept.foldl _ (fun s c => endStacked_kept c .driveLost none false s) _ _)).trans (removeAllStrikes_kept _)

/-! ## The Booking Book's reports (R23–R37) -/

theorem dueNow_kept (n : Nat) (s : State) : Kept s (s.dueNow n).1 := by
  unfold State.dueNow
  split
  · exact .refl s
  · split
    · split
      · exact setBooking_kept _ _ s
      · exact (setBooking_kept _ _ s).trans (raise_kept _ _)
      · exact (setBooking_kept _ _ s).trans (raise_kept _ _)
      · exact (setBooking_kept _ _ s).trans (raise_kept _ _)
      · exact .refl s
      · exact .refl s
    · exact .refl s

theorem dueAtOnce_kept (n : Nat) (s : State) : Kept s (s.dueAtOnce n) := by
  have h := dueNow_kept n s
  unfold State.dueAtOnce
  split
  · rename_i t ht
    rw [ht] at h
    exact h.trans (handGroup_kept _ _)
  · rename_i t ht
    rw [ht] at h
    split
    · exact h.trans (sortWaiting_kept _)
    · exact h

theorem createBooking_kept (n : Nat) (r : BookingRecord) (s : State) : Kept s (s.createBooking n r) :=
  (setBooking_kept _ _ s).trans (dueAtOnce_kept _ _)

theorem amendBooking_kept (n : Nat) (r : BookingRecord) (s : State) : Kept s (s.amendBooking n r) := by
  unfold State.amendBooking
  split
  · exact .refl s
  · have h1 : ∀ b, Kept s ((s.setBooking n b).dueAtOnce n) :=
      fun b => (setBooking_kept _ _ s).trans (dueAtOnce_kept _ _)
    dsimp only
    split
    · exact (h1 _).trans (reconsider_kept _)
    · exact h1 _

theorem createImmediate_kept (n : Nat) (r : BookingRecord) (s : State) : Kept s (s.createImmediate n r) :=
  (setBooking_kept _ _ s).trans (handGroup_kept _ _)

/-- A pass keeps what each of its steps keeps. -/
theorem pass_kept (f : Nat → Booking → State → State × Bool) (hf : ∀ n b s, Kept s (f n b s).1) (s : State) :
    Kept s (s.pass f).1 := by
  unfold State.pass
  suffices h : ∀ (l : List Nat) (p : Pass), Kept p.1 (l.foldl (Pass.one f) p).1 from h slotNumbers (s, [])
  intro l
  induction l with
  | nil => exact fun p => .refl _
  | cons n l ih =>
    intro p
    refine Kept.trans ?_ (ih _)
    unfold Pass.one
    split
    · exact .refl _
    · rename_i b _
      have h := hf n b p.1
      split
      · rename_i t ht
        rw [ht] at h
        exact h
      · rename_i t ht
        rw [ht] at h
        exact h

theorem report_kept (f : Nat → Booking → State → State × Bool) (hf : ∀ n b s, Kept s (f n b s).1)
    (s : State) : Kept s (s.report f) := by
  unfold State.report
  split
  · exact .refl s
  · exact ((pass_kept f hf s).trans (sortWaiting_kept _)).trans (handGroup_kept _ _)

theorem disposeWaiting_kept (n : Nat) (c : OutcomeCause) (s : State) : Kept s (s.disposeWaiting n c) :=
  dispose_kept ..

theorem fallDueAt_kept (n : Nat) (b : Booking) (s : State) : Kept s (s.fallDueAt n b).1 := by
  unfold State.fallDueAt
  split
  · exact setBooking_kept _ _ s
  · exact .refl s

theorem fallDueIfArmed_kept (n : Nat) (s : State) : Kept s (s.fallDueIfArmed n).1 := by
  unfold State.fallDueIfArmed
  split
  · exact .refl s
  · split
    · exact fallDueAt_kept _ _ s
    · exact .refl s

theorem boundaryOne_kept (n : Nat) (b : Booking) (s : State) : Kept s (s.boundaryOne n b).1 := by
  unfold State.boundaryOne
  split
  · exact fallDueAt_kept _ _ s
  · dsimp only
    split
    · exact ((leaveWaiting_kept n s).trans (disposeWaiting_kept ..)).trans (fallDueIfArmed_kept _ _)
    · split
      · exact (setBooking_kept _ _ s).trans (raise_kept _ _)
      · exact setBooking_kept _ _ s
  · split
    · exact (setBooking_kept _ _ s).trans (raise_kept _ _)
    · exact .refl s
  · split
    · exact (setBooking_kept _ _ s).trans (raise_kept _ _)
    · exact .refl s
  · exact .refl s
  · exact .refl s

theorem secondBoundary_kept (s : State) : Kept s s.secondBoundary := report_kept _ boundaryOne_kept s

theorem setReportOne_kept (n : Nat) (b : Booking) (s : State) : Kept s (s.setReportOne n b).1 := by
  unfold State.setReportOne
  split
  · exact .refl s
  · exact (setBooking_kept _ _ s).trans (dueNow_kept _ _)

theorem calendarSet_kept (s : State) : Kept s s.calendarSet := report_kept _ setReportOne_kept s

theorem stepArmed_kept (n : Nat) (l : List Nat) (b : Booking) (s : State) : Kept s (s.stepArmed n l b).1 := by
  unfold State.stepArmed
  split
  · exact setBooking_kept _ _ s
  · dsimp only
    split
    · exact setBooking_kept _ _ s
    · exact (setBooking_kept _ _ s).trans (raise_kept _ _)

theorem forwardOne_kept (t0 n : Nat) (b : Booking) (s : State) : Kept s (State.forwardOne t0 n b s).1 := by
  unfold State.forwardOne
  split
  · exact stepArmed_kept ..
  · unfold State.stepWaiting
    dsimp only
    split
    · have h1 := (leaveWaiting_kept n s).trans (disposeWaiting_kept n .timeStep _)
      split
      · exact h1
      · exact h1.trans (stepArmed_kept ..)
    · exact setBooking_kept _ _ s
  · unfold State.stepSounding
    dsimp only
    split
    · exact setBooking_kept _ _ s
    · exact (setBooking_kept _ _ s).trans (raise_kept _ _)
  · unfold State.stepSounding
    dsimp only
    split
    · exact setBooking_kept _ _ s
    · exact (setBooking_kept _ _ s).trans (raise_kept _ _)
  · exact .refl s
  · exact .refl s

theorem backwardOne_kept (n : Nat) (b : Booking) (s : State) : Kept s (s.backwardOne n b).1 := by
  unfold State.backwardOne
  split
  · exact (setBooking_kept _ _ s).trans (dueNow_kept _ _)
  · exact (setBooking_kept _ _ s).trans (dueNow_kept _ _)
  · exact (setBooking_kept _ _ s).trans (dueNow_kept _ _)
  · exact (setBooking_kept _ _ s).trans (dueNow_kept _ _)
  · exact .refl s
  · exact .refl s

theorem stepReport_kept (t0 : Nat) (s : State) : Kept s (s.stepReport t0) := by
  unfold State.stepReport
  refine report_kept _ (fun n b u => ?_) s
  split
  · exact forwardOne_kept t0 n b u
  · exact backwardOne_kept n b u

theorem unsetOne_kept (n : Nat) (b : Booking) (s : State) : Kept s (s.unsetOne n b).1 := by
  unfold State.unsetOne
  split
  · exact (leaveWaiting_kept n s).trans (disposeWaiting_kept ..)
  all_goals exact setBooking_kept _ _ s

theorem unsetReport_kept (s : State) : Kept s s.unsetReport := report_kept _ unsetOne_kept s

end Sys2Proof.Machine
end

