-- ==== Sys2Proof/Laws/PerInstr.lean ====
section
/-! SUPPORT. Statements made of every command, one lemma per command. -/

namespace Sys2Proof.Laws.WireForm

open Sys2Proof.Machine

/-- A well-formed command that is a request carries the body its frame carries, that body fits a frame,
and its code is of the catalogue unless it is the request of unknown code (R179, R184, section 12.2). -/
def Statement (i : Instr) : Prop :=
  i.wellFormed = true → ∀ p code body, i.request? = some (p, code, body) →
    i.body? = some body ∧ body.length ≤ Config.bodyMax
      ∧ (knownCode code = true ∨ i = .unknownRequest p code body)

/-- A command that is no request. -/
theorem of_none (i : Instr) (h : i.request? = none) : Statement i := by
  intro _ p code body hr
  rw [h] at hr
  cases hr

/-- A request whose code is of the catalogue. -/
theorem of_known (i : Instr) (p : Port) (code : Byte) (body : List Byte)
    (h : i.request? = some (p, code, body)) (hb : i.body? = some body) (hk : knownCode code = true) :
    Statement i := by
  intro hw p' code' body' hr
  rw [h] at hr
  cases hr
  refine ⟨hb, ?_, .inl hk⟩
  simp only [Instr.wellFormed, hb, Bool.and_eq_true] at hw
  simpa [bodyFits] using hw.1

theorem powerOn (pins : Pins) (straps : Straps) (abortedAtCopyB : Bool) : Statement (.powerOn pins straps abortedAtCopyB) := of_none _ rfl

theorem towerReset (straps : Straps) (abortedAtCopyB : Bool) : Statement (.towerReset straps abortedAtCopyB) := of_none _ rfl

theorem loadComplete : Statement (.loadComplete) := of_none _ rfl

theorem referencePulse : Statement (.referencePulse) := of_none _ rfl

theorem pulseTimeout : Statement (.pulseTimeout) := of_none _ rfl

theorem normalAdvance : Statement (.normalAdvance) := of_none _ rfl

theorem setTime (port : Port) (body : List Byte) : Statement (.setTime port body) :=
  of_known _ port _ body rfl rfl (by decide)

theorem broadcastSetTime (body : List Byte) : Statement (.broadcastSetTime body) := of_none _ rfl

theorem readTime (port : Port) (body : List Byte) : Statement (.readTime port body) :=
  of_known _ port _ body rfl rfl (by decide)

theorem book (port : Port) (body : List Byte) : Statement (.book port body) :=
  of_known _ port _ body rfl rfl (by decide)

theorem amend (port : Port) (body : List Byte) : Statement (.amend port body) :=
  of_known _ port _ body rfl rfl (by decide)

theorem withdraw (port : Port) (body : List Byte) : Statement (.withdraw port body) :=
  of_known _ port _ body rfl rfl (by decide)

theorem lookUp (port : Port) (body : List Byte) : Statement (.lookUp port body) :=
  of_known _ port _ body rfl rfl (by decide)

theorem setCursor (port : Port) (body : List Byte) : Statement (.setCursor port body) :=
  of_known _ port _ body rfl rfl (by decide)

theorem browse (port : Port) (body : List Byte) : Statement (.browse port body) :=
  of_known _ port _ body rfl rfl (by decide)

theorem nextDue (port : Port) (body : List Byte) : Statement (.nextDue port body) :=
  of_known _ port _ body rfl rfl (by decide)

theorem readOutcomes (port : Port) (body : List Byte) : Statement (.readOutcomes port body) :=
  of_known _ port _ body rfl rfl (by decide)

theorem playNow (port : Port) (body : List Byte) : Statement (.playNow port body) :=
  of_known _ port _ body rfl rfl (by decide)

theorem halt (port : Port) (body : List Byte) : Statement (.halt port body) :=
  of_known _ port _ body rfl rfl (by decide)

theorem performanceStatus (port : Port) (body : List Byte) : Statement (.performanceStatus port body) :=
  of_known _ port _ body rfl rfl (by decide)

theorem liveOpen (port : Port) (body : List Byte) : Statement (.liveOpen port body) :=
  of_known _ port _ body rfl rfl (by decide)

theorem liveNotes (port : Port) (body : List Byte) : Statement (.liveNotes port body) :=
  of_known _ port _ body rfl rfl (by decide)

theorem liveClose (port : Port) (body : List Byte) : Statement (.liveClose port body) :=
  of_known _ port _ body rfl rfl (by decide)

theorem defineMelody (port : Port) (body : List Byte) : Statement (.defineMelody port body) :=
  of_known _ port _ body rfl rfl (by decide)

theorem storeSegment (port : Port) (body : List Byte) : Statement (.storeSegment port body) :=
  of_known _ port _ body rfl rfl (by decide)

theorem readSegment (port : Port) (body : List Byte) : Statement (.readSegment port body) :=
  of_known _ port _ body rfl rfl (by decide)

theorem eraseMelody (port : Port) (body : List Byte) : Statement (.eraseMelody port body) :=
  of_known _ port _ body rfl rfl (by decide)

theorem melodyInfo (port : Port) (body : List Byte) : Statement (.melodyInfo port body) :=
  of_known _ port _ body rfl rfl (by decide)

theorem setBell (port : Port) (body : List Byte) : Statement (.setBell port body) :=
  of_known _ port _ body rfl rfl (by decide)

theorem bellStatus (port : Port) (body : List Byte) : Statement (.bellStatus port body) :=
  of_known _ port _ body rfl rfl (by decide)

theorem restoreBell (port : Port) (body : List Byte) : Statement (.restoreBell port body) :=
  of_known _ port _ body rfl rfl (by decide)

theorem testStrike (port : Port) (body : List Byte) : Statement (.testStrike port body) :=
  of_known _ port _ body rfl rfl (by decide)

theorem setDrive (port : Port) (body : List Byte) : Statement (.setDrive port body) :=
  of_known _ port _ body rfl rfl (by decide)

theorem setProtection (port : Port) (body : List Byte) : Statement (.setProtection port body) :=
  of_known _ port _ body rfl rfl (by decide)

theorem readNotices (port : Port) (body : List Byte) : Statement (.readNotices port body) :=
  of_known _ port _ body rfl rfl (by decide)

theorem setNoticeMask (port : Port) (body : List Byte) : Statement (.setNoticeMask port body) :=
  of_known _ port _ body rfl rfl (by decide)

theorem reset (port : Port) (body : List Byte) : Statement (.reset port body) :=
  of_known _ port _ body rfl rfl (by decide)

theorem resetTakesEffect (straps : Straps) (abortedAtCopyB : Bool) : Statement (.resetTakesEffect straps abortedAtCopyB) := of_none _ rfl

theorem unknownRequest (port : Port) (code : Byte) (body : List Byte) : Statement (.unknownRequest port code body) := by
  intro hw p' code' body' hr
  cases hr
  simp only [Instr.wellFormed, Instr.body?, Bool.and_eq_true] at hw
  exact ⟨rfl, by simpa [bodyFits] using hw.1, .inr rfl⟩

theorem frameDiscard (port : Port) (bytes : List Byte) : Statement (.frameDiscard port bytes) := of_none _ rfl

theorem foreignFrame (port : Port) (bytes : List Byte) : Statement (.foreignFrame port bytes) := of_none _ rfl

theorem frameGapTimeout (port : Port) (bytes : List Byte) : Statement (.frameGapTimeout port bytes) := of_none _ rfl

theorem answerTransmitStart (port : Port) : Statement (.answerTransmitStart port) := of_none _ rfl

theorem answerSent (port : Port) : Statement (.answerSent port) := of_none _ rfl

theorem keyChange (on : Bool) : Statement (.keyChange on) := of_none _ rfl

theorem hushAssert : Statement (.hushAssert) := of_none _ rfl

theorem hushRelease : Statement (.hushRelease) := of_none _ rfl

theorem driveReadyFall : Statement (.driveReadyFall) := of_none _ rfl

theorem driveReadyRise : Statement (.driveReadyRise) := of_none _ rfl

theorem bankMeasurement (value : Byte) : Statement (.bankMeasurement value) := of_none _ rfl

theorem sensorOpens (bell : Fin 64) : Statement (.sensorOpens bell) := of_none _ rfl

theorem sensorCloses (bell : Fin 64) : Statement (.sensorCloses bell) := of_none _ rfl

theorem fireTimeReached : Statement (.fireTimeReached) := of_none _ rfl

theorem pulseEnd (bell : Fin 64) : Statement (.pulseEnd bell) := of_none _ rfl

theorem returnLimit (bell : Fin 64) : Statement (.returnLimit bell) := of_none _ rfl

theorem recoveryTime (bell : Fin 64) : Statement (.recoveryTime bell) := of_none _ rfl

theorem entryDrop : Statement (.entryDrop) := of_none _ rfl

theorem planningHorizonReached : Statement (.planningHorizonReached) := of_none _ rfl

theorem feedDeadline : Statement (.feedDeadline) := of_none _ rfl

theorem idleLimit : Statement (.idleLimit) := of_none _ rfl

theorem storeCompletion (result : Completion) : Statement (.storeCompletion result) := of_none _ rfl

theorem suspendEnd : Statement (.suspendEnd) := of_none _ rfl

theorem segmentReadCompletion (noise : List Byte) : Statement (.segmentReadCompletion noise) := of_none _ rfl

end Sys2Proof.Laws.WireForm
end

