-- ==== Sys2Proof/Laws/Requests.lean ====
section
/-! SUPPORT. What the shared operations do where nothing is in their way: a request that reaches its owner,
an answer, an arbiter with no entry, an engine with nothing to judge, a player with nothing to reach. -/

namespace Sys2Proof.Machine

/-! ## Ports and answers -/

/-- Two changes of one port. -/
theorem modPort_modPort (p : Port) (f g : PortState → PortState) (s : State) :
    (s.modPort p f).modPort p g = s.modPort p fun q => g (f q) := by
  cases p <;> rfl

/-- A changed port. -/
theorem port_modPort (p : Port) (f : PortState → PortState) (s : State) :
    (s.modPort p f).port p = f (s.port p) := by
  cases p <;> rfl

/-- A change that leaves the port as it is. -/
theorem modPort_same (p : Port) (f : PortState → PortState) (s : State) (h : f (s.port p) = s.port p) :
    s.modPort p f = s := by
  cases p <;> simp only [State.port, Links.port] at h <;> simp [State.modPort, Links.modPort, h]

@[simp] theorem resetPending_modPort (p : Port) (f : PortState → PortState) (s : State) :
    (s.modPort p f).links.resetPending = s.links.resetPending := by
  cases p <;> rfl

@[simp] theorem address_modPort (p : Port) (f : PortState → PortState) (s : State) :
    (s.modPort p f).links.address = s.links.address := by
  cases p <;> rfl

/-- R183: an answer becomes ready while no RESET is pending. -/
theorem respond_eq (p : Port) (code : Byte) (a : AnswerCode) (body : List Byte) (s : State)
    (h : s.links.resetPending = false) :
    s.respond p code a body = s.modPort p fun q => { q with ready := q.ready ++ [⟨a, code, body⟩] } := by
  simp [State.respond, h]

/-- R182: a port that is not deaf hears with no RESET pending. -/
theorem resetPending_of_hears (p : Port) (s : State) (h : s.deaf p = false) :
    s.links.resetPending = false := by
  simp only [State.deaf, Bool.or_eq_false_iff] at h
  exact h.1

/-- What `portFree` says. -/
theorem portFree_iff (s : State) (p : Port) :
    s.portFree p = true ↔ s.deaf p = false ∧ (s.port p).rx = [] ∧ (s.port p).busySlot = false
      ∧ (s.port p).outstanding = false := by
  simp [State.portFree, and_assoc]

/-- What `takes` says. -/
theorem takes_iff (s : State) (p : Port) (code : Byte) (len : Nat) :
    s.takes p code len = true ↔ s.portFree p = true ∧ s.gate p code len = none := by
  simp [State.takes]

theorem resetPending_of_takes {s : State} {p : Port} {code : Byte} {len : Nat}
    (h : s.takes p code len = true) : s.links.resetPending = false :=
  resetPending_of_hears p s ((portFree_iff ..).1 ((takes_iff ..).1 h).1).1

/-- R178, R186: a request that is taken on a port has reached it, and no RESET is pending. -/
theorem deaf_eq_false {s : State} {p : Port} :
    s.deaf p = false ↔ s.links.resetPending = false ∧ s.unreached p = false := by
  simp [State.deaf]

/-- R179: a gap leaves a pending RESET and the reach of a port as they were. -/
theorem gap_links (p : Port) (s : State) :
    (s.gap p).links.resetPending = s.links.resetPending ∧ (s.gap p).unreached p = s.unreached p
      ∧ ((s.gap p).port p).rx = [] := by
  unfold State.gap
  split
  · rename_i hr
    exact ⟨rfl, rfl, by simpa using hr⟩
  · split <;> cases p <;> exact ⟨rfl, rfl, rfl⟩

/-- R179: with nothing in reception a gap ends nothing. -/
theorem gap_of_empty (p : Port) (s : State) (h : (s.port p).rx = []) : s.gap p = s := by
  simp [State.gap, h]

/-- A hunting port with its flag set is the port taken. -/
theorem taken_eq {s : State} {p : Port} (h : (s.port p).rx = []) :
    s.modPort p (fun q => { q with outstanding := true }) = s.taken p := by
  cases p <;> simp only [State.port, Links.port] at h <;>
    simp [State.modPort, Links.modPort, State.taken, h]

/-- A taken request is answered at once. -/
theorem respond_taken {s : State} {p : Port} (code : Byte) (a : AnswerCode) (body : List Byte)
    (h : s.links.resetPending = false) :
    (s.taken p).respond p code a body = s.answered p code a body := by
  rw [respond_eq _ _ _ _ _ (by simpa [State.taken] using h)]
  simp only [State.taken, modPort_modPort]
  rfl

/-- R180, R182: a request on a free port sets its flag and meets the Link Interface's checks. -/
theorem takeRequest_free {s : State} {p : Port} (h : s.portFree p = true) (code : Byte) (body : List Byte)
    (serve : State → State) :
    s.takeRequest p code body serve =
      match s.gate p code body.length with
      | some a => (s.taken p).respond p code a []
      | none => serve (s.taken p) := by
  obtain ⟨h1, h2, h3, h4⟩ := (portFree_iff ..).1 h
  obtain ⟨h5, h6⟩ := deaf_eq_false.1 h1
  simp only [State.takeRequest, h5, h6, gap_of_empty p s h2, h3, h4, Bool.false_eq_true, if_false, taken_eq h2]
  rfl

/-- R180: a request row while bytes wait: the gap before it ends them first. -/
theorem takeRequest_gap {s : State} {p : Port} (h : s.unreached p = false) (code : Byte) (body : List Byte)
    (serve : State → State) :
    s.takeRequest p code body serve = (s.gap p).takeRequest p code body serve := by
  obtain ⟨_, hu, hr⟩ := gap_links p s
  conv => rhs; unfold State.takeRequest
  rw [hu, gap_of_empty p _ hr]
  simp only [State.takeRequest, h, Bool.false_eq_true, if_false]

/-- R184: the Link Interface's checks do not read the ports. -/
theorem gate_modPort (p q : Port) (f : PortState → PortState) (code : Byte) (len : Nat) (s : State) :
    (s.modPort q f).gate p code len = s.gate p code len := rfl

/-- R182, R184: a request that reaches its owner. -/
theorem takeRequest_takes {s : State} {p : Port} {code : Byte} {body : List Byte}
    (h : s.takes p code body.length = true) (serve : State → State) :
    s.takeRequest p code body serve = serve (s.taken p) := by
  obtain ⟨h1, h2⟩ := (takes_iff ..).1 h
  rw [takeRequest_free h1, h2]

/-- R184: a request that fails a check of the Link Interface. -/
theorem takeRequest_gate {s : State} {p : Port} {code : Byte} {body : List Byte} {a : AnswerCode}
    (h : s.portFree p = true) (hg : s.gate p code body.length = some a) (serve : State → State) :
    s.takeRequest p code body serve = s.answered p code a [] := by
  rw [takeRequest_free h, hg]
  exact respond_taken code a [] (resetPending_of_hears p s ((portFree_iff ..).1 h).1)

/-- R178: a request that does not reach its port. -/
theorem takeRequest_unreached {s : State} {p : Port} {code : Byte} {body : List Byte} (h : s.unreached p = true)
    (serve : State → State) : s.takeRequest p code body serve = s := by
  simp [State.takeRequest, h]

/-- R186: a request while a RESET is pending ends what waits before it, and is dropped. -/
theorem takeRequest_pending {s : State} {p : Port} {code : Byte} {body : List Byte}
    (h : s.links.resetPending = true) (hu : s.unreached p = false) (serve : State → State) :
    s.takeRequest p code body serve = s.gap p := by
  simp [State.takeRequest, hu, (gap_links p s).1, h]

/-- R182: a request on a port that has one outstanding and its busy slot empty. -/
theorem takeRequest_busy {s : State} {p : Port} {code : Byte} {body : List Byte} (h1 : s.deaf p = false)
    (h2 : (s.port p).rx = []) (h3 : (s.port p).busySlot = false) (h4 : (s.port p).outstanding = true)
    (serve : State → State) : s.takeRequest p code body serve = s.answerBusy p code := by
  obtain ⟨h5, h6⟩ := deaf_eq_false.1 h1
  simp [State.takeRequest, h5, h6, gap_of_empty p s h2, h3, h4]

/-- R180: a request that finds the busy slot occupied, whether its port's flag is set or not. -/
theorem takeRequest_slot {s : State} {p : Port} {code : Byte} {body : List Byte} (h1 : s.deaf p = false)
    (h2 : (s.port p).rx = []) (h3 : (s.port p).busySlot = true) (serve : State → State) :
    s.takeRequest p code body serve = s.countError p := by
  obtain ⟨h5, h6⟩ := deaf_eq_false.1 h1
  simp [State.takeRequest, h5, h6, gap_of_empty p s h2, h3]

/-- A taken request whose store operation is accepted. -/
theorem acceptJob_taken (s : State) (p : Port) (job : StoreJob) :
    (s.taken p).acceptJob job p = s.accepted p job := rfl

/-! ## Nothing to fire, to reach or to judge -/

/-- R128: an empty queue has nothing to fire. -/
theorem arbiter_nil (s : State) (h : s.planner.queue = []) : s.arbiter = s := by
  simp [State.arbiter, h]

/-- R82: the player reaches nothing. -/
theorem reachAll_of_none (s : State) (h : s.reachOne = none) : s.reachAll = s := by
  simp [State.reachAll, reachFuel, reachLoop, h]

/-- R82, R89: nothing to reach and nothing at its end. -/
theorem settle_of_none (s : State) (h : s.reachOne = none) (he : s.endDue = none) : s.settle = s := by
  simp [State.settle, reachAll_of_none s h, he]

/-- With no active context the player does nothing. -/
theorem settle_of_inactive (s : State) (h : s.engine.active = none) : s.settle = s :=
  settle_of_none s (by simp [State.reachOne, h]) (by simp [State.endDue, h])

/-- R68: a hushed context plans nothing and does not end. -/
theorem settle_of_hushed (s : State) (c : Context) (h : s.engine.active = some c) (hm : c.mode = .hushed) :
    s.settle = s :=
  settle_of_none s (by simp [State.reachOne, h, hm]) (by simp [State.endDue, h, hm])

/-- R82, R83: an event that is held back is not reached. -/
theorem beyond_of_heldBack {s : State} {due : Nat} (h : s.heldBack due) (hs : s.stalled = false) :
    s.inHorizon due = false := by
  rcases h with h | ⟨h1, h2⟩
  · exact decide_eq_false (Nat.not_le.2 h)
  · simp [State.stalled, State.queueFull, Config.strikeQueueMax, State.now, h1, h2] at hs

/-- R83, R89, R143: whether a context has an entry in the queue. -/
theorem hasEntries_of_owns {s : State} {n : Nat} (h : ¬ s.ownsNothing n) : s.hasEntries n = true := by
  simpa [State.ownsNothing, State.hasEntries, StrikeEntry.ownedBy] using h

/-- R95: what `tollOf` says. -/
theorem tollOf_some {s : State} {c : Context} {x : Nat × Nat × Nat} (h : s.tollOf c = some x) :
    ∃ slot, c.melody = some slot ∧ ∃ d, (s.melody slot).known? = some d ∧
      ∃ pitch strength interval mode, d.shape = .toll pitch strength interval mode ∧
        (pitch, strength, interval) = x := by
  unfold State.tollOf at h
  split at h
  · cases h
  · rename_i slot hm
    split at h
    · cases h
    · rename_i d hk
      split at h
      · rename_i p st i mode hs
        exact ⟨slot, hm, d, hk, p, st, i, mode, hs, Option.some.inj h⟩
      · cases h

/-- R82, R89: a performance at play that rests has nothing to reach and is not at its end. -/
theorem settle_of_rests (s : State) (h : s.rests) : s.settle = s := by
  cases ha : s.engine.active with
  | none => exact settle_of_inactive s ha
  | some c =>
    cases hm : c.mode with
    | hushed => exact settle_of_hushed s c ha hm
    | playing =>
      obtain ⟨hdone, hscore, htoll, hlive⟩ := h c ha hm
      cases hk : c.melodyKind with
      | none =>
        refine settle_of_none s ?_ ?_
        · simp only [State.reachOne, ha, hm, hk, State.reachLive]
          cases hl : s.live with
          | none => simp
          | some l =>
            cases hq : l.queue with
            | nil => simp [hq]
            | cons e rest =>
              by_cases hst : l.mode = .stopped
              · simp [hq, hst]
              · simpa [hq, Context.dueAt, tickLength] using
                  fun _ _ => beyond_of_heldBack ((hlive hk l hl).2 hst e (by simp [hq]))
        · cases hl : s.live with
          | none => simp [State.endDue, ha, hk, hl]
          | some l =>
            rcases (hlive hk l hl).1 with h1 | ⟨h1, h2⟩ | h1
            · simp [State.endDue, ha, hk, hl, LiveFeed.ending, h1]
            · simp [State.endDue, ha, hk, hl, LiveFeed.ending, h1, h2]
            · simp [State.endDue, ha, hasEntries_of_owns h1]
      | some k =>
        cases hd : s.player.done with
        | some d =>
          have he := hasEntries_of_owns (hdone (by simp [hk]) (by simp [hd]))
          exact settle_of_none s (by simp [State.reachOne, ha, hd]) (by simp [State.endDue, ha, he])
        | none =>
          refine settle_of_none s ?_ (by simp [State.endDue, ha, hk, hd])
          cases k with
          | score =>
            obtain ⟨hs, hf, he⟩ := hscore hk hd
            simp only [State.reachOne, ha, hm, hd, hk, State.reachScore, State.stopHere, hs, if_false]
            cases c.melody with
            | none => simp
            | some slot =>
              cases hc : s.player.cur with
              | free => simp
              | reading _ => simp
              | retrying _ => simp
              | failed n => exact absurd hc (hf n)
              | held g =>
                cases hx : g.events[c.pos.event]? with
                | none => simp [hx]
                | some e => simpa [hx, Context.dueAt, tickLength] using beyond_of_heldBack (he g e hc hx)
          | toll =>
            cases hto : s.tollOf c with
            | none => simp [State.reachOne, ha, hm, hd, hk, State.reachToll, hto]
            | some x =>
              obtain ⟨slot, h1, hd2, h2, p, st, i, mode, h3, rfl⟩ := tollOf_some hto
              simpa [State.reachOne, ha, hm, hd, hk, State.reachToll, hto, Context.tollDue] using
                beyond_of_heldBack (htoll hk hd slot hd2 p st i mode h1 h2 h3)

/-- R52: no booking waits, so none is judged. -/
theorem reconsider_of_empty (s : State) (h : s.engine.waiting = []) : s.reconsider = s := by
  simp [State.reconsider, engineFuel, engineLoop, State.agendaStep, State.judgeAt, h]

/-- R61: nothing waits and nothing is suspended. -/
theorem resumeChoice_of_empty (s : State) (hw : s.engine.waiting = []) (hs : s.engine.stack = []) :
    s.resumeChoice = s := by
  cases ha : s.engine.active <;>
    simp [State.resumeChoice, engineFuel, engineLoop, State.agendaStep, State.choose, State.judgeAt, hw, hs, ha]

/-- What `quiet` says. -/
theorem quiet_iff (s : State) : s.quiet = true ↔
    s.engine.active = none ∧ s.engine.stack = [] ∧ s.engine.waiting = [] ∧ s.planner.queue = [] := by
  simp [State.quiet, State.engineIdle, and_assoc]

end Sys2Proof.Machine
end

