-- ==== Sys2Proof/Laws/Strikes.lean ====
section
/-! SUPPORT. What the arbiter, a coil's release, the removal of a bell's entries, a bell going out of use and the
receive buffer do, each said once: the forms of Safety.lean that the claims use. -/

namespace Sys2Proof.Machine

/-! ## The receive buffer (R179) -/

/-- An incomplete frame lacks a byte of the longest. -/
theorem scan_incomplete {bs : List Byte} (h : scan bs = .incomplete) : bs.length < Config.bodyMax + 7 := by
  have hb : Config.bodyMax = 1040 := rfl
  unfold scan at h
  split at h
  · simp
  · unfold scanRequest scanAnswer at h
    dsimp only at h
    repeat' split at h
    all_goals first
      | omega
      | cases h

/-- R179: what stays of bytes that hold no complete frame is less than the longest frame. -/
theorem kept_length (bs : List Byte) (h : ∀ n, scan bs ≠ .request n ∧ scan bs ≠ .passing n) :
    (kept bs).length < Config.bodyMax + 7 := by
  have hb : Config.bodyMax = 1040 := rfl
  unfold kept
  split
  · simp
  · rw [List.length_take]; omega
  · rw [List.length_take]; omega
  · exact scan_incomplete ‹_›
  · exact absurd ‹_› (h _).1
  · exact absurd ‹_› (h _).2

/-- Whatever bytes arrive, the receive buffer of an open port never holds a whole frame. -/
theorem frames_rx (p : Port) (n : Nat) (bs : List Byte) (s : State) :
    ((State.frames p n bs s).port p).rx.length < Config.bodyMax + 7 := by
  induction n generalizing bs s with
  | zero =>
    rw [State.frames, State.keepBytes, port_modPort]
    exact Nat.zero_lt_succ _
  | succ n ih =>
    rw [State.frames]
    split
    all_goals first
      | exact ih _ _
      | (rename_i hs
         rw [State.keepBytes, port_modPort]
         exact kept_length bs fun k => by rw [hs]; exact ⟨nofun, nofun⟩)

/-! ## A bell that has just gone out of use (R91, R100) -/

/-- R100, stage 2: the mark of a bell that goes out of use now. -/
theorem outMark_eq (s : State) (x : Bell) : s.outMark x = s.goneMark x := by
  unfold State.outMark State.goneMark State.stalled State.queueFull Bell.usable State.now Config.strikeQueueMax
  cases x.state <;> by_cases h1 : 48 ≤ s.planner.queue.length <;>
    by_cases h2 : s.planner.testFilled = some s.time.clock <;> simp [h1, h2]

/-- R91, R100, stage 2: the bells a note of a pitch names. -/
theorem named_iff (b : Bell) (now : Nat) (p : Int) :
    b.named now p = true ↔ (b.record.present = true ∧ (b.record.pitch : Int) = p ∧ b.state ≠ .faulted) ∨
      ((b.state = .off ∨ b.state = .faulted) ∧ ∃ pitch : Nat, b.wentOut = some (now, pitch) ∧ (pitch : Int) = p) := by
  unfold Bell.named Bell.goneNow Bell.usableFor Bell.usable
  rcases b.wentOut with _ | ⟨t, q⟩ <;> cases b.state <;> simp [and_assoc]

/-- R100, stage 2: a note whose bell is OFF or FAULTED when its hand-over is taken is lost. -/
theorem handOver_out_of_use (s : State) (h : HandOver) (b : Nat) (hb : h.bell = some b)
    (hu : (s.bell b).state = .off ∨ (s.bell b).state = .faulted) :
    s.handOver h = ((if h.substituted then s.charge h.owner .substituted else s).charge h.owner .lost, none) := by
  have hd : (if h.substituted then s.charge h.owner .substituted else s).bell b = s.bell b := by
    split <;> simp only [State.bell, charge_drive]
  have hb' : (s.bell b).usable = false := by rcases hu with hu | hu <;> simp [Bell.usable, hu]
  simp [State.handOver, hb, hd, hb']

/-! ## Strikes (R105, R110, R113, R115, R129, R131) -/

/-- R131: a coil that turns off. -/
theorem coilOff_eq (s : State) : s.coilOff = s.coilFreed := by
  unfold State.coilOff State.coilFreed Drive.settleK
  cases hk : s.drive.requestedK with
  | none => simp [hk]
  | some k =>
    simp only [hk]
    split <;> rfl

/-- The later of a restrike bound and a time. -/
theorem laterOf_some (x : Option Nat) (t : Nat) : laterOf x (some t) = some (max (x.getD 0) t) := by
  cases x <;> simp [laterOf]

/-- R110: a charge reaches the performance at play that owns it, and nothing else. -/
theorem charge_eq (o : Owner) (k : Charge) (s : State) : s.charge o k = s.countsOf o (·.add k) := by
  cases o with
  | test =>
    have h : (s.countsOf .test (·.add k)).engine.active = s.engine.active := by
      simp [State.countsOf, State.modActive]
    show s = { s with engine := { s.engine with active := (s.countsOf .test (·.add k)).engine.active } }
    rw [h]
  | booking n =>
    refine congrArg (s.modActive ·) (funext fun c => ?_)
    by_cases h : c.booking = n
    · simp [h]
    · have h' : n ≠ c.booking := fun x => h x.symm
      simp [h, h']

/-- Two charges of one owner. -/
theorem countsOf_countsOf (o : Owner) (f g : StrikeCounts → StrikeCounts) (s : State) :
    (s.countsOf o f).countsOf o g = s.countsOf o (fun n => g (f n)) := by
  unfold State.countsOf State.modActive
  cases h : s.engine.active with
  | none => simp
  | some c => by_cases ho : o = .booking c.booking <;> simp [ho]

/-- A fire leaves the record of its bell, so its restrike interval. -/
theorem record_fire (s : State) (b k a width : Nat) :
    ((s.modBell b (·.fire a width)).bell k).record = (s.bell k).record := by
  unfold State.bell State.modBell
  simp only [List.getD_eq_getElem?_getD, List.getElem?_modify]
  cases s.drive.bells[k]? with
  | none => rfl
  | some x => by_cases h : b = k <;> simp [h, Bell.fire]

/-- R114: what a fire reported to the planner does: fired and late are charged, last fire time and restrike bound
move. -/
theorem reportFire_eq (e : StrikeEntry) (a h : Nat) (s : State) (hh : (s.bell e.bell).record.h = h) :
    s.reportFire e a = { s.countsOf e.owner (fun n => { n with
        fired := min 65535 (n.fired + 1), late := if e.late then min 65535 (n.late + 1) else n.late }) with
      planner := { s.planner with
        lastFire := s.planner.lastFire.set e.bell (some a)
        busyUntil := s.planner.busyUntil.set e.bell
          (some (max ((s.busyUntil e.bell).getD 0) (a + 1000 * h))) } } := by
  subst hh
  unfold State.reportFire
  simp only [charge_eq, laterOf_some]
  cases e.late with
  | false => rfl
  | true =>
    simp only [if_true, countsOf_countsOf]
    rfl

/-- R129: an entry fires. -/
theorem fire_eq (e : StrikeEntry) (s : State) : s.fire e = s.afterFire e := by
  unfold State.fire
  dsimp only
  refine (reportFire_eq (e.firedAt s.now) s.now (s.bell e.bell).record.h _ ?_).trans rfl
  exact congrArg BellRecord.h (record_fire s e.bell e.bell s.now e.width)

/-- A context that loses each of these entries that is its own, one after another. -/
theorem context_lost (gone : List StrikeEntry) (c : Context) :
    gone.foldl (fun c e => if e.owner = .booking c.booking then { c with counts := c.counts.add .lost } else c) c =
      (let own := (gone.filter fun e => e.owner = .booking c.booking).length
       if own = 0 then c else { c with counts := { c.counts with lost := min 65535 (c.counts.lost + own) } }) := by
  induction gone generalizing c with
  | nil => simp
  | cons e rest ih =>
    rw [List.foldl_cons, ih]
    by_cases h : e.owner = .booking c.booking
    · have hm (n : Nat) : min 65535 (min 65535 (c.counts.lost + 1) + n) = min 65535 (c.counts.lost + (n + 1)) := by omega
      simp only [h, if_true, List.filter_cons, decide_true, List.length_cons, StrikeCounts.add, sat16]
      by_cases h0 : (rest.filter fun e => e.owner = .booking c.booking).length = 0
      · simp only [h0, if_true]
        simp
      · simp only [h0, if_false, hm]
        simp
    · simp [h]

/-- R110: the losses of several entries reach the performance at play. -/
theorem charge_lost (gone : List StrikeEntry) (s : State) :
    gone.foldl (fun s e => s.charge e.owner .lost) s = s.modActive fun c =>
      gone.foldl (fun c e => if e.owner = .booking c.booking then { c with counts := c.counts.add .lost } else c) c := by
  induction gone generalizing s with
  | nil => exact (by simp [State.modActive] : s = s.modActive fun c => c)
  | cons e rest ih =>
    rw [List.foldl_cons, ih, charge_eq]
    simp only [State.countsOf, State.modActive, Option.map_map]
    rfl

/-- R115: with no entry of a bell left its restrike bound is the last fire time plus H. -/
theorem recomputeBusy_cleared (b : Nat) (s : State) (h : s.planner.queue.filter (·.bell == b) = []) :
    s.recomputeBusy b = s.setBusy b ((s.lastFire b).map (· + 1000 * (s.bell b).record.h)) := by
  unfold State.recomputeBusy State.remainingBusy
  rw [h]
  rfl

/-- Setting the bound again changes nothing. -/
theorem setBusy_setBusy (b : Nat) (v w : Option Nat) (s : State) : (s.setBusy b v).setBusy b w = s.setBusy b w := by
  simp [State.setBusy]

/-- R115: however often it is recomputed. -/
theorem recomputeBusy_fold (b : Nat) (gone : List StrikeEntry) (hg : ∀ e ∈ gone, e.bell = b) (s : State)
    (h : s.planner.queue.filter (·.bell == b) = []) :
    (gone.foldl (fun s e => s.recomputeBusy e.bell) s).recomputeBusy b =
      s.setBusy b ((s.lastFire b).map (· + 1000 * (s.bell b).record.h)) := by
  induction gone generalizing s with
  | nil => exact recomputeBusy_cleared b s h
  | cons e rest ih =>
    rw [List.foldl_cons, hg e (List.mem_cons_self ..), recomputeBusy_cleared b s h]
    refine (ih (fun x hx => hg x (List.mem_cons_of_mem _ hx)) (s.setBusy b _) h).trans ?_
    exact setBusy_setBusy ..

/-- R113, R115: the entries of a bell leave. -/
theorem removeBell_eq (b : Nat) (s : State) : s.removeBell b = s.bellCleared b := by
  unfold State.removeBell State.removeStrikes
  dsimp only
  rw [charge_lost]
  refine (recomputeBusy_fold b _ ?_ _ ?_).trans ?_
  · intro e he
    simpa using (List.mem_filter.1 he).2
  · simp [List.filter_filter]
  · simp only [context_lost]
    rfl

end Sys2Proof.Machine
end

