-- ==== Sys2Proof/Tests/Slice0.lean ====
section
/-! SUPPORT. Tests: the well-formedness checks refuse ill-formed commands, worked figures of the manual, and
for every statement with hypotheses states and operands that meet them, clause by clause. -/

namespace Sys2Proof.Tests

-- One test at a time: every test waits for the kernel, and each one waiting would hold a thread.
set_option Elab.async false

open Sys2Proof.Machine

/-! ## Well-formedness -/

/-- A body one byte longer than a frame carries is refused (R179). -/
theorem test_long_body_refused : (Instr.readTime .main (List.replicate 1041 0)).wellFormed = false := by decide +kernel

/-- The longest body is not. -/
theorem test_longest_body_accepted : (Instr.readTime .main (List.replicate 1040 0)).wellFormed = true := by decide +kernel

/-- A request of unknown code does not carry a code of the catalogue (R184). -/
theorem test_known_code_refused : (Instr.unknownRequest .main 0x1E []).wellFormed = false := by decide

theorem test_unknown_code_accepted : (Instr.unknownRequest .main 0x1F []).wellFormed = true := by decide

/-! ## Figures of the manual -/

/-- R153: the CRC of "123456789". -/
theorem test_crc_of_digits :
    crc16 [0x31, 0x32, 0x33, 0x34, 0x35, 0x36, 0x37, 0x38, 0x39] = 10673 := by decide +kernel

/-- R79's table of tick lengths. -/
theorem test_tick_lengths : [20, 60, 100, 120, 240].map tickLength = [62500, 20833, 12500, 10416, 5208] := by decide

/-- R101's table of effective strengths, bank NORMAL and LOW, Emin 4. -/
theorem test_effective_strengths :
    [(20, 16), (20, 20), (31, 24), (2, 1), (1, 24)].map
      (fun x => (effectiveStrength x.1 x.2 4 .normal, effectiveStrength x.1 x.2 4 .low))
      = [(20, 15), (25, 18), (31, 23), (4, 4), (4, 4)] := by decide

/-- R20: 2000-01-01 is a Saturday; so is 2024-06-01. -/
theorem test_weekdays : weekday 0 = 5 ∧ (dayOfDate 2024 6 1).map weekday = some 5 := by decide

/-- R11: 29 February exists in 2000 and 2096 and not in 2099. -/
theorem test_leap_days :
    dayOfDate 2000 2 29 = some 59 ∧ (dayOfDate 2096 2 29).isSome = true ∧ dayOfDate 2099 2 29 = none := by decide

/-- The calendar runs to 2099-12-31. -/
theorem test_last_day : dayOfDate 2099 12 31 = some 36524 ∧ dateOfDay 36524 = (2099, 12, 31) := by decide

/-! ## States -/

/-- The state an outcome carries. -/
def after : Host.Outcome State Fault Refusal → State
  | .next s => s
  | .fault _ => State.reset
  | .refused _ => State.reset

/-- A bell of 60 with a sensor, flight 80–50 ms, pulse 2–4 ms, restrike 200 ms, return limit 150 ms. -/
def steel : BellRecord := ⟨true, 60, true, 4, 800, 500, 20, 40, 200, 150⟩

def bell : Bell := { Bell.initial false with record := steel, state := .ready }

/-- Loaded, DRIVE READY high, every bell READY, main address 5. -/
def idle : State := { State.reset with
  store := { State.reset.store with loading := false }
  links := .initial ⟨5, true⟩
  drive := { State.reset.drive with ready := true, bells := List.replicate 64 bell } }

def withDrive (f : Drive → Drive) (s : State) : State := { s with drive := f s.drive }

def withStore (f : Store → Store) (s : State) : State := { s with store := f s.store }

def withLibrary (f : Library → Library) (s : State) : State := { s with library := f s.library }

def withTime (f : TowerTime → TowerTime) (s : State) : State := { s with time := f s.time }

def withBell (f : Bell → Bell) (s : State) : State := s.modBell 0 f

def hushed : State := withDrive (fun d => { d with hush := true }) idle

/-- NOTE 60 strength 20 at tick 0, then a REST of 2,000 ticks. -/
def events : List Event := [.note 60 20 0, .rest 2000]

/-- Their bytes (section 12.3). -/
def eventBytes : List Byte := [1, 60, 0xA0, 0, 2, 0, 0x07, 0xD0]

/-- A buffer that holds a segment of slot 3, its length code and CRC 0. -/
def bufferOf (index : Nat) (es : List Event) : Buffer := .held ⟨3, index, 0, es.length, 0, es⟩

/-- The segment of slot 3, index 0, length code 0, event count 2. -/
def songBytes : List Byte :=
  [3, 0, 0, 0, 2] ++ be 2 (crc16 ([3, 0, 0, 0, 2] ++ eventBytes)).toNat ++ eventBytes

def song : MelodyHeader := ⟨[65], some 120, .score 1⟩

def songSlot : MelodySlot :=
  { MelodySlot.initial with
    state := .complete, header := .known song, positions := .present :: List.replicate 15 .absent }

/-- The song in slot 3, another header DEFINED in slot 4. -/
def melodious : State :=
  withStore (fun st => { st with places := { st.places with
    segments := setAt2 st.places.segments 3 0 (.programmed songBytes) } })
  (withLibrary (fun l => { l with
    slots := (l.slots.set 3 songSlot).set 4 { MelodySlot.initial with state := .defined, header := .known song } })
    idle)

/-- PLAY NOW: melody 3, rank 1, INTERRUPT, own tempo, volume 16, one repetition. -/
def playBody : List Byte := [3, 1, 0, 0xFF, 0, 16, 1, 0]

def playRecord : BookingRecord := immediateRecord .now (some 3) .interrupt 1 none 0 16 1 false

/-- The song plays as booking 1. -/
def playing : State := after (exec (.playNow .main playBody) melodious)

/-- Its context. -/
def context : Context := (melodious.newContext 1 (.freshImmediate playRecord melodious.time))

/-- Its first segment is held and the first note within the horizon. -/
def held : State := { withTime (fun t => { t with clock := 100000 }) playing with
  player := ⟨bufferOf 0 events, .free, none, none⟩ }

/-- The song plays hushed, its clock at 100,000. -/
def silenced : State := after (exec .hushAssert held)

/-- BOOK of a TEMPORARY DAILY booking at 10:00:00, melody 3, WAIT, rank 1, patience 60 s. -/
def dailyBody : List Byte :=
  [1] ++ absentBytes 4 ++ [10, 0, 0, 0] ++ absentBytes 10 ++ [3, 2, 1, 0, 60, 0xFF, 0, 16, 1, 1, 1, 1]
    ++ List.replicate 9 0

/-- The same, KEPT. -/
def keptBody : List Byte := (dailyBody.set 29 0)

def dailyRecord : BookingRecord :=
  { immediateRecord .daily (some 3) .wait 1 none 0 16 1 true with
    time := some ⟨some 10, 0, 0⟩, patience := 60 }

/-- A DAILY booking in slot 1, its next occurrence in the second that follows second 100. -/
def booking : Booking := { Booking.fresh dailyRecord TowerTime.powerOn with next := some 101 }

/-- Slot 1 holds a booking, the time is FREE at second 100. -/
def booked (b : Booking) : State :=
  { withTime (fun t => { t with state := .free, second := 100, sub := 1000000 }) hushed with
    book := hushed.book.setSlot 1 (.occupied b) }

/-! ## The step and the clock -/

theorem witness_front_command :
    { idle with pending := [.hushAssert, .hushRelease] }.pending = [.hushAssert, .hushRelease] := rfl

theorem witness_empty_queue : State.reset.pending = [] := rfl

theorem witness_clocks :
    TowerTime.powerOn.clock = 0 ∧ TowerTime.powerOn.clockFrac = 0 ∧ TowerTime.powerOn.slew = 0
      ∧ -2000 ≤ TowerTime.powerOn.correction ∧ TowerTime.powerOn.correction ≤ 2000 := by decide

/-- Three µs of slew, one count before the next is applied, either way. -/
def slewing (slew : Int) (acc : Nat) : TowerTime :=
  { TowerTime.powerOn with slew := slew, slewAcc := acc, subFrac := 9999999 }

theorem witness_slew : (slewing 3 498).slewAcc < (if 0 ≤ (slewing 3 498).slew then 499 else 501)
    ∧ (slewing (-3) 500).slewAcc < (if 0 ≤ (slewing (-3) 500).slew then 499 else 501)
    ∧ (slewing 3 498).subFrac < 10000000 ∧ (slewing 3 498).correction = 0 := by decide

/-- R2: the slew is one µs in 500 of local time: 499 counted and one added, 501 counted and one taken away. -/
theorem test_slew_rate : ((slewing 3 498).runCalendar 1).slew = 2 ∧ ((slewing (-3) 500).runCalendar 1).slew = -2
    ∧ ((slewing 3 497).runCalendar 1).slew = 3 ∧ ((slewing (-3) 499).runCalendar 1).slew = -3 := by decide +kernel

theorem witness_next_state : exec .hushAssert idle = .next (after (exec .hushAssert idle)) := rfl

theorem witness_power_on (pins : Pins) :
    exec (.powerOn pins ⟨5, true⟩ false) idle = .next (after (exec (.powerOn pins ⟨5, true⟩ false) idle)) := rfl

/-! ## Invariants -/

theorem witness_bounds :
    held.coilsWithinLimit = true ∧ held.withinCapacity = true ∧ held.coilsCounted = true
      ∧ held.tablesSound = true ∧ held.ranksOrdered
      ∧ step { held with pending := [.planningHorizonReached] }
        = .next (after (exec .planningHorizonReached { held with pending := [] })) := by
  refine ⟨by decide +kernel, by decide +kernel, by decide +kernel, by decide +kernel, ?_, rfl⟩
  show List.Pairwise _ _
  decide +kernel

/-- The protection record PERMANENT, guard HIGH HALF. -/
def sealed : ProtectionRecord := ⟨.permanent, ⟨true, .half, false⟩, 7⟩

def sealedState : State :=
  withStore (fun st => { st with places := { st.places with copyA := .whole sealed, copyB := .failing } })
    (withLibrary (fun l => { l with protection := sealed }) idle)

theorem witness_permanent : sealed.mode = .permanent ∧ sealedState.protectedBy sealed
    ∧ step sealedState = .next (after (step sealedState)) :=
  ⟨rfl, ⟨rfl, fun _ => rfl, fun _ h => nomatch h⟩, rfl⟩

theorem witness_closed : hushed.drive.arbiterOpen = false
    ∧ (after (exec .fireTimeReached hushed)).drive.arbiterOpen = false
    ∧ exec .fireTimeReached hushed = .next (after (exec .fireTimeReached hushed)) :=
  ⟨by decide +kernel, by decide +kernel, rfl⟩

/-- DEFINE MELODY: slot 0, SCORE "A", base tempo 120, one segment. -/
def defineBody : List Byte :=
  [0, 0, 65] ++ List.replicate 15 0 ++ [120, 1] ++ List.replicate 6 0

/-- R159's table. -/
theorem test_guard :
    let slots (high : Bool) (e : GuardExtent) (complement : Bool) : List Nat :=
      (List.range 64).filter (withLibrary (fun l => { l with protection := ⟨.opened, ⟨high, e, complement⟩, 0⟩ }) idle).guarded
    slots false .quarter false = List.range 16 ∧ slots true .eighth false = List.range' 56 8
      ∧ slots true .half true = List.range 32 ∧ slots false .eighth true = List.range' 8 56
      ∧ slots true .none false = [] ∧ slots false .none true = List.range 64
      ∧ slots true .all false = List.range 64 ∧ slots false .all true = [] := by decide +kernel

theorem witness_store_job :
    (after (exec (.defineMelody .main defineBody) idle)).store.op = some ⟨.define 0 song, .main, true⟩
      ∧ idle.store.op = none ∧ (StoreJob.define 0 song).melodySlot? = some 0 := by decide +kernel

/-! ## The links -/

theorem witness_request_bytes :
    (Instr.readTime .main []).wellFormed = true ∧ (Instr.readTime .main []).request? = some (.main, 0x1B, [])
      ∧ idle.receives .main = true ∧ (idle.port .main).rx = [] ∧ idle.links.address = 5
      ∧ idle.receives .service = true ∧ (idle.port .service).rx = [] := by decide +kernel

theorem witness_starting : State.reset.portFree .service = true ∧ State.reset.store.loading = true := by decide +kernel

theorem witness_link_checks : idle.portFree .main = true ∧ idle.portFree .service = true ∧ idle.store.loading = false ∧ knownCode 0x1F = false ∧ knownCode 0 = false
    ∧ knownCode 0x1B = true ∧ lengthAllowed 0x1B 1 = false
    ∧ lengthAllowed 0x19 4 = true ∧ lengthAllowed 0x1E 0 = true := by decide +kernel

/-- The main port with a request outstanding. -/
def outstanding (busy : Bool) : State :=
  idle.modPort .main fun q => { q with outstanding := true, busySlot := busy }

theorem witness_busy_port :
    (outstanding false).deaf .main = false ∧ ((outstanding false).port .main).outstanding = true
      ∧ ((outstanding false).port .main).busySlot = false
      ∧ (outstanding true).deaf .main = false ∧ ((outstanding true).port .main).outstanding = true
      ∧ ((outstanding true).port .main).busySlot = true
      ∧ ((outstanding false).port .main).rx = [] ∧ ((outstanding true).port .main).rx = []
      ∧ (idle.modPort .main fun q => { q with busySlot := true }).deaf .main = false := by decide +kernel

/-- The main port with a frame begun. -/
def begun : State := idle.modPort .main fun q => { q with rx := [0xA5, 5] }

theorem witness_bytes_waiting : begun.deaf .main = false ∧ begun.receives .main = true
    ∧ (begun.port .main).rx ≠ [] := by decide +kernel

/-- READ TIME for address 5 with a CRC of zeros. -/
def badFrame : List Byte := [0xA5, 5, 0, 0, 0x1B, 0, 0]

theorem witness_bad_crc : scan badFrame = .request badFrame.length ∧ (readFrame badFrame).sound = false := by
  decide +kernel

theorem witness_service_address :
    scan (requestFrame 7 0x1B []) = .request (requestFrame 7 0x1B []).length
      ∧ (readFrame (requestFrame 7 0x1B [])).address ≠ 255 := by decide +kernel

theorem witness_broadcast_of_another_code :
    scan (requestFrame 0 0x1B []) = .request (requestFrame 0 0x1B []).length
      ∧ (readFrame (requestFrame 0 0x1B [])).address = 0
      ∧ (readFrame (requestFrame 0 0x1B [])).code ≠ 0x1A := by decide +kernel

theorem witness_foreign_frame :
    scan (requestFrame 9 0x1B []) = .request (requestFrame 9 0x1B []).length
      ∧ (readFrame (requestFrame 9 0x1B [])).sound = true
      ∧ (readFrame (requestFrame 9 0x1B [])).address = 9 := by decide +kernel

theorem witness_passing_answer :
    scan [0x5A, 9, 0, 0, 0x1B, 0, 0] = .passing 7 := by decide +kernel

theorem witness_open_frames : scan [0xA5, 5] = .incomplete ∧ scan [0] = .stray
    ∧ scan [0xA5, 5, 0xFF, 0xFF] = .outOfRange ∧ scan [0xA5, 5, 4, 17] = .outOfRange
    ∧ scan [0xA5, 5, 4, 16] = .incomplete := by decide +kernel

/-- R179: of a stray run and of a frame out of range no further byte is kept, and the gap counts each once. -/
theorem test_dropped_bytes :
    let kept (bs : List Byte) := ((after (exec (.foreignFrame .main bs) idle)).port .main).rx
    kept [0, 1, 2] = [0] ∧ kept [0xA5, 5, 4, 17, 1, 2] = [0xA5, 5, 4, 17] ∧ kept [0xA5, 5, 4, 16, 1] = [0xA5, 5, 4, 16, 1]
      ∧ kept ([0x5A, 9, 0, 0, 0x1B, 0, 0] ++ [7, 0xA5]) = [7]
      ∧ ((after (exec (.frameGapTimeout .main [0, 1, 2]) idle)).port .main).errors = 1 := by decide +kernel

/-- The main port with an answer ready. -/
def readyAnswer : State := idle.answered .main 0x1B .done [1]

theorem witness_answer_ready : (readyAnswer.port .main).ready = [⟨.done, 0x1B, [1]⟩]
    ∧ (readyAnswer.port .main).sending = none ∧ (readyAnswer.port .main).rx = []
    ∧ ((after (exec (.answerTransmitStart .main) readyAnswer)).port .main).sending.isSome = true := by
  decide +kernel

/-! ## Resets and the load -/

theorem witness_no_operation : idle.store.op = none := rfl

theorem witness_reset_request : idle.takes .service 0x1E 0 = true := by decide +kernel

def pendingReset : State := after (exec (.reset .service []) idle)

theorem witness_reset_pending : pendingReset.links.resetPending = true
    ∧ pendingReset.links.service.outstanding = true := by decide +kernel

theorem witness_reset_drained :
    let s := after (exec (.answerSent .service) (after (exec (.answerTransmitStart .service) pendingReset)))
    s.links.resetPending = true ∧ s.links.service.outstanding = false ∧ s.links.main.ready = []
      ∧ s.links.main.sending = none := by decide +kernel

/-- R186: while the RESET is pending a frame still open keeps the main port from sending; its gap is not counted,
and a frame that ends is dropped. -/
theorem witness_reset_pending_frames :
    let s := { begun with links := { begun.links with resetPending := true } }
    scan ((s.port .main).rx ++ [0]) = .incomplete ∧ s.links.main.sending = none ∧ s.links.address ≠ 0
      ∧ ((after (exec (.foreignFrame .main [0]) s)).port .main).rx = [0xA5, 5, 0]
      ∧ (after (exec (.frameGapTimeout .main [0]) s)).links.main = { s.links.main with rx := [] }
      ∧ scan ((s.port .main).rx ++ [0, 0, 0x1B, 0, 0]) = .request ((s.port .main).rx ++ [0, 0, 0x1B, 0, 0]).length := by
  decide +kernel

/-- A store loading a good booking, a bad one, a good bell, and protection copies. -/
def loading (a b : Content ProtectionRecord) : State :=
  withStore (fun st => { st with places := { st.places with
    bookings := (st.places.bookings.set 0 ⟨.whole { dailyRecord with kept := true }, false⟩).set 95 ⟨.failing, false⟩
    bells := st.places.bells.set 63 ⟨.whole steel, false⟩
    copyA := a, copyB := b } }) State.reset

theorem witness_load : (loading .empty .empty).store.loading = true
    ∧ (loading .empty .empty).store.places.bookings.length = 96
    ∧ (loading .empty .empty).store.places.bells.length = 64
    ∧ (loading .empty .empty).drive.bells.length = 64
    ∧ (loading .empty .empty).store.places.bookings[0]? = some ⟨.whole { dailyRecord with kept := true }, false⟩
    ∧ (loading .empty .empty).store.places.bookings[95]? = some ⟨.failing, false⟩
    ∧ (loading .empty .empty).store.places.bells[63]? = some ⟨.whole steel, false⟩ := by decide +kernel

theorem witness_copies :
    (loading (.whole sealed) (.whole sealed)).store.places.copyA = .whole sealed
      ∧ (loading (.whole sealed) .failing).store.places.copyB = .failing
      ∧ (loading .failing (.whole sealed)).store.places.copyB = .whole sealed
      ∧ (loading .failing .failing).store.places.copyB = .failing
      ∧ (loading .failing .empty).store.places.copyB = .empty := by decide +kernel

/-- The same record with another sequence number. -/
def numbered (n : Nat) : ProtectionRecord := { sealed with sequence := n }

theorem witness_copy_order : (numbered 8).sequence = ((numbered 7).sequence + 1) % 256
    ∧ (numbered 0).sequence = ((numbered 255).sequence + 1) % 256
    ∧ (loading (.whole (numbered 255)) (.whole (numbered 0))).store.places.copyB = .whole (numbered 0)
    ∧ (loading (.whole (numbered 8)) (.whole (numbered 7))).store.places.copyA = .whole (numbered 8) := by
  decide +kernel

/-- A TOLL of 60, strength 20, 2 s apart, two strokes. -/
def knell : MelodyHeader := ⟨[66], none, .toll 60 20 2000 (.fixed 2)⟩

/-- A store whose melody slots 0–4 hold a SCORE with its segment begun, a TOLL, a header with its marker set,
a blank header with its marker set, and a slot whose erase was begun; and drive settings. -/
def shelves : State :=
  withStore (fun st => { st with places := { st.places with
    headers := [⟨.whole song, false⟩, ⟨.whole knell, false⟩, ⟨.whole song, true⟩, ⟨.empty, true⟩]
      ++ st.places.headers.drop 4
    programBegun := setAt2 (setAt2 st.places.programBegun 0 0 true) 4 15 true
    eraseBegun := st.places.eraseBegun.set 4 true
    drive := ⟨.whole ⟨8, 200, 100⟩, false⟩ } }) State.reset

theorem witness_shelves : shelves.store.loading = true
    ∧ shelves.store.places.headers[0]? = some ⟨.whole song, false⟩
    ∧ getAt2 shelves.store.places.programBegun 0 0 false = true
    ∧ shelves.store.places.headers[1]? = some ⟨.whole knell, false⟩
    ∧ shelves.store.places.headers[2]? = some ⟨.whole song, true⟩
    ∧ (shelves.store.places.headers[3]?).map Place.content = some .empty
    ∧ shelves.store.places.eraseBegun.getD 4 false = true
    ∧ getAt2 shelves.store.places.programBegun 4 15 false = true
    ∧ shelves.store.places.drive = ⟨.whole ⟨8, 200, 100⟩, false⟩
    ∧ shelves.store.places.headers[63]? = some Place.blank := by decide +kernel

/-- R165: what the load makes of them. -/
theorem test_shelves : (List.range 5).map (fun m => (shelves.store.places.loadedSlot m).state)
      = [.complete, .complete, .complete, .empty, .complete]
    ∧ (shelves.store.places.loadedSlot 4).positions = List.replicate 15 .absent ++ [.present]
    ∧ (List.range 5).map (fun m => (shelves.store.places.loadedSlot m).damaged)
      = [false, false, true, false, true] := by decide +kernel

/-! ## Tower time -/

/-- 2024-06-01 10:15:07. -/
def june : List Byte := [0x07, 0xE8, 6, 1, 10, 15, 7]

theorem witness_set_time : (secondField june 0).isSome = true ∧ june.length = 7
    ∧ idle.takes .main 0x1A 7 = true ∧ idle.engine.waiting = [] ∧ idle.receives .main = true
    ∧ idle.store.loading = false := by decide +kernel

theorem witness_no_booking : ∀ n, idle.booking? n = none := by
  intro n
  cases n with
  | zero => rfl
  | succ n =>
    show (match (List.replicate 96 Slot.free)[n]? with | some (.occupied b) => some b | _ => none) = none
    rw [List.getElem?_replicate]
    split <;> simp_all

/-- A pulse anchor one second back. -/
def anchored (count sub : Nat) : State :=
  withTime (fun t => { t with
    anchor := some 400000, clock := 1399990, count := count, sub := sub, state := .free }) idle

theorem witness_pulse : (anchored 2 20000).time.anchor = some 400000
    ∧ 998000 ≤ localInterval ((anchored 2 20000).time.clock - 400000) (anchored 2 20000).time.correction
    ∧ localInterval ((anchored 2 20000).time.clock - 400000) (anchored 2 20000).time.correction ≤ 1002000
    ∧ (anchored 2 20000).time.locked = false ∧ (anchored 1 0).time.count < 2
    ∧ (anchored 2 20000).time.count = 2 ∧ (anchored 2 20000).time.state = .free
    ∧ 980000 ≤ (anchored 2 980000).time.sub ∧ (anchored 2 1000000).time.sub ≤ 1000000
    ∧ 20000 < (anchored 2 20001).time.sub ∧ (anchored 2 499999).time.sub < 500000
    ∧ 500000 ≤ (anchored 2 500000).time.sub ∧ (anchored 2 979999).time.sub < 980000
    ∧ (anchored 2 979999).time.second + 1 < 36525 * 86400 := by decide +kernel

/-- The same pulse in another time state, of a unit that is phase-locked or not. -/
def pulsed (v : TimeState) (locked : Bool) (count : Nat) : State :=
  withTime (fun t => { t with state := v, locked := locked }) (anchored count 20001)

theorem witness_pulse_states : (pulsed .unset false 2).time.state = .unset ∧ (pulsed .unset true 0).time.locked = true
    ∧ (pulsed .locked true 0).time.state = .locked ∧ (pulsed .holdover false 2).time.state = .holdover
    ∧ (pulsed .holdover false 2).time.count = 2 := by decide +kernel

/-- R9: 20,000 µs is slewed and 20,001 stepped; 980,000 is slewed on and 979,999 stepped. -/
theorem test_phase_edges :
    let sub (s : State) := ((after (exec .referencePulse s)).time.sub, (after (exec .referencePulse s)).time.slew)
    [20000, 20001, 979999, 980000].map (fun n => sub (anchored 2 n))
      = [(20000, -20000), (0, 0), (0, 0), (980000, 20000)] := by decide +kernel

theorem witness_first_pulse : ∀ a, idle.time.anchor = some a →
    localInterval (idle.time.clock - a) idle.time.correction < 998000 ∨
      1002000 < localInterval (idle.time.clock - a) idle.time.correction := by
  intro a h
  cases h

theorem witness_timeout :
    let s := withTime (fun t => { t with timeout := some 3000000, clock := 3000000, state := .locked }) idle
    s.time.timeout = some 3000000 ∧ 3000000 ≤ s.time.clock := by decide +kernel

theorem witness_advance :
    let s (sub second : Nat) := withTime (fun t => { t with sub := sub, second := second }) idle
    1000000 ≤ (s 1000000 0).time.sub ∧ (s 1000000 0).time.state = .unset
      ∧ (s 1000000 3155759998).time.second + 1 < 36525 * 86400
      ∧ (s 1000000 3155759999).time.second + 1 = 36525 * 86400
      ∧ (s 999999 0).time.sub < 1000000 := by decide +kernel

/-- SET TIME: 2000-01-01 at a time of day. -/
def clockBody (hour minute second : Byte) : List Byte := [0x07, 0xD0, 1, 1, hour, minute, second]

/-- A booking that waits in slot 1. -/
def waitingBooking : Booking := { booking with state := .due, waiting := some 3, current := some 90, next := some 36000 }

/-- Its state, the calendar in another time state and second. -/
def bookedAt (v : TimeState) (second : Nat) (b : Booking) : State :=
  withTime (fun t => { t with state := v, second := second }) (booked b)

theorem witness_set_booked : secondField (clockBody 10 0 5) 0 = some 36005
    ∧ (booked booking).takes .main 0x1A 7 = true ∧ (booked booking).drive.hush = true
    ∧ (booked booking).receives .main = true ∧ (booked booking).booking? 1 = some booking
    ∧ booking.missed ≤ 65535 ∧ booking.state = .armed
    ∧ (bookedAt .unset 100 booking).time.state = .unset ∧ booking.record.kind.immediate = false
    ∧ booking.nextOccurrence (withTime (fun t => { t with state := .free, second := 36000 }) idle).time = some 36000
    ∧ booking.nextOccurrence (withTime (fun t => { t with state := .free, second := 36001 }) idle).time ≠ some 36001
    ∧ (bookedAt .free 40000 booking).time.second = 40000 ∧ waitingBooking.busy = true := by decide +kernel

theorem witness_stepped : booking.steppedOver 100 36060 = [] ++ [36000] ∧ 36060 - 36000 ≤ booking.record.patience
    ∧ booking.steppedOver 100 36061 = [] ++ [36000] ∧ booking.record.patience < 36061 - 36000
    ∧ booking.steppedOver 100 122405 = [36000] ++ [122400] ∧ booking.steppedOver 100 35999 = []
    ∧ waitingBooking.steppedOver 100 157 = [] ∧ 3 + (157 - 100) ≤ waitingBooking.record.patience
    ∧ waitingBooking.record.patience < 3 + (158 - 100)
    ∧ waitingBooking.steppedOver 100 36060 = [] ++ [36000]
    ∧ { booking with state := .sounding, current := some 90 }.steppedOver 100 36060 = [] ++ [36000] := by
  decide +kernel

/-- The second before the step is not stepped over, the last one is; a current or a last disposed occurrence and
an earlier one are not, and nothing is of a booking not enabled. -/
theorem test_stepped_over : parseRecord dailyBody = some booking.record
    ∧ booking.steppedOver 36000 36060 = [] ∧ booking.steppedOver 35999 36000 = [36000]
    ∧ { booking with current := some 36000 }.steppedOver 100 36060 = []
    ∧ { booking with lastDisposed := some 36000 }.steppedOver 100 36060 = []
    ∧ { booking with lastDisposed := some 35999 }.steppedOver 100 36060 = [36000]
    ∧ { booking with record := { dailyRecord with enabled := false } }.steppedOver 100 36060 = [] := by decide +kernel

theorem witness_past_2099 :
    let s := bookedAt .free 3155759999 waitingBooking
    1000000 ≤ s.time.sub ∧ s.time.second + 1 = 36525 * 86400 ∧ s.time.state ≠ .unset
      ∧ s.store.loading = false ∧ s.booking? 1 = some waitingBooking ∧ waitingBooking.state = .due
      ∧ waitingBooking.record.kind.immediate = false
      ∧ (bookedAt .free 3155759999 booking).booking? 1 = some booking ∧ booking.state ≠ .due := by decide +kernel

theorem witness_boundary :
    let s := booked booking
    1000000 ≤ s.time.sub ∧ s.time.second + 1 < 36525 * 86400 ∧ s.time.state ≠ .unset
      ∧ s.store.loading = false ∧ s.drive.hush = true ∧ s.booking? 1 = some booking
      ∧ booking.state = .armed ∧ booking.next = some (s.time.second + 1) := by decide +kernel

theorem witness_waiting :
    let b (w : Nat) : Booking := { booking with state := .due, waiting := some w, current := some 40, next := none }
    (booked (b 59)).booking? 1 = some (b 59) ∧ 59 + 1 ≤ (b 59).record.patience
      ∧ { b 59 with next := some 101 }.next = some ((booked (b 59)).time.second + 1)
      ∧ (b 60).record.patience < 60 + 1 ∧ (b 60).record.kind.immediate = false
      ∧ (booked { booking with state := .sounding }).booking? 1 = some { booking with state := .sounding } := by
  decide +kernel

/-- The daily booking falls due at second 101 with HUSH released and its melody playable. -/
def rousing : State :=
  { withTime (fun t => { t with state := .free, second := 100, sub := 1000000 }) melodious with
    book := melodious.book.setSlot 1 (.occupied booking) }

theorem witness_rousing : 1000000 ≤ rousing.time.sub ∧ rousing.time.state ≠ .unset ∧ rousing.store.loading = false
    ∧ rousing.drive.hush = false ∧ rousing.drive.ready = true ∧ rousing.engineIdle = true
    ∧ rousing.booking? 1 = some booking ∧ booking.next = some (rousing.time.second + 1)
    ∧ booking.record.melody = some 3 ∧ (rousing.melody 3).state = .complete
    ∧ (rousing.melody 3).damaged = false ∧ (rousing.melody 3).known? = some song := by decide +kernel

theorem witness_rousing_alone : ∀ k x, k ≠ 1 → rousing.booking? k = some x →
    x.busy = false ∧ x.next ≠ some (rousing.time.second + 1) := by
  intro k x hk h
  match k with
  | 0 => cases h
  | 1 => exact absurd rfl hk
  | n + 2 =>
    have hf : rousing.booking? (n + 2) =
        (match (List.replicate 95 Slot.free)[n]? with | some (.occupied b) => some b | _ => none) := rfl
    rw [hf, List.getElem?_replicate] at h
    split at h <;> simp_all

/-! ## The booking book -/

theorem witness_record : parseRecord dailyBody = some dailyRecord ∧ dailyRecord.kept = false
    ∧ parseRecord keptBody = some { dailyRecord with kept := true } := by decide +kernel

/-- R21: the daily record falls on every day, the last of 2099 included. -/
theorem test_daily_occurrences : dailyRecord.firstFrom 0 = some 36000
    ∧ dailyRecord.firstFrom 36001 = some 122400
    ∧ dailyRecord.occursAt 3155709600 = true ∧ dailyRecord.firstFrom 3155709601 = none := by decide +kernel

theorem witness_temporary :
    let s := booked { booking with next := none }
    let b' := { booking with record := dailyRecord, next := none }.recompute s.time
    idle.takes .main 1 dailyBody.length = true ∧ dailyRecord.rank ≤ idle.privilege .main
      ∧ idle.book.lowestFree = some 1 ∧ dailyRecord.firstFrom idle.time.second ≠ some idle.time.second
      ∧ s.takes .main 2 (dailyBody.length + 1) = true ∧ s.takes .main 3 1 = true
      ∧ s.booking? 1 = some { booking with next := none } ∧ booking.record.kind.immediate = false
      ∧ { booking with next := none }.busy = false ∧ s.store.pendingAt 1 = false
      ∧ b'.next ≠ some s.time.second ∧ s.live = none := by decide +kernel

/-- A state at ten o'clock, the second of the daily record. -/
def atTen (s : State) : State := withTime (fun t => { t with state := .free, second := 36000 }) s

/-- The daily booking in slot 1 before an AMEND. -/
def resting : State := { atTen melodious with book := melodious.book.setSlot 1 (.occupied { booking with next := none }) }

theorem witness_due_at_once :
    let b' := ({ booking with next := none, record := dailyRecord } : Booking).recompute resting.time
    (atTen melodious).takes .main 1 dailyBody.length = true ∧ (atTen melodious).book.lowestFree = some 1
      ∧ dailyRecord.enabled = true ∧ (atTen melodious).time.state ≠ .unset
      ∧ dailyRecord.firstFrom (atTen melodious).time.second = some (atTen melodious).time.second
      ∧ (atTen melodious).engineIdle = true ∧ (atTen melodious).drive.ready = true
      ∧ (atTen melodious).drive.hush = false ∧ (atTen hushed).drive.hush = true
      ∧ (atTen hushed).engine.waiting = [] ∧ dailyRecord.melody = some 3
      ∧ resting.booking? 1 = some { booking with next := none } ∧ resting.takes .main 2 (dailyBody.length + 1) = true
      ∧ b'.next = some resting.time.second := by decide +kernel

/-- R23: a booking made for this very second starts at once, or waits under HUSH. -/
theorem test_due_at_once :
    (after (exec (.book .main dailyBody) (atTen melodious))).engine.active.map Context.booking = some 1
      ∧ (after (exec (.book .main dailyBody) (atTen hushed))).engine.waiting = [1] := by decide +kernel

/-- The song plays as booking 1 and the daily booking waits in slot 2. -/
def behind : State :=
  { playing with
    engine := { playing.engine with waiting := [2] }
    book := playing.book.setSlot 2 (.occupied waitingBooking) }

/-- BOOK of the daily record with class REPLACE and rank 2. -/
def replacingBody : List Byte := (dailyBody.set 20 1).set 21 2

theorem witness_amend_waiting : behind.takes .service 2 (dailyBody.length + 1) = true
    ∧ behind.booking? 2 = some waitingBooking ∧ waitingBooking.state = .due ∧ behind.engine.waiting = [2]
    ∧ waitingBooking.record.kept = false ∧ behind.store.pendingAt 2 = false
    ∧ ({ waitingBooking with record := dailyRecord }.recompute behind.time).next ≠ some behind.time.second
    ∧ behind.engine.active = some context ∧ dailyRecord.rank ≤ context.rank
    ∧ parseRecord replacingBody = some { dailyRecord with cls := .replace, rank := 2 }
    ∧ 2 ≤ behind.privilege .service ∧ context.rank < 2 ∧ behind.engine.stack = [] ∧ behind.drive.hush = false
    ∧ behind.drive.ready = true ∧ (behind.melody 3).known? = some song := by decide +kernel

/-- R40: it waits on, and amended above the song's rank it replaces it. -/
theorem test_amend_waiting :
    (after (exec (.amend .service (2 :: dailyBody)) behind)).engine.waiting = [2]
      ∧ (after (exec (.amend .service (2 :: replacingBody)) behind)).engine.active.map Context.booking = some 2 := by
  decide +kernel

/-- The song plays as booking 1 over suspended contexts of these bookings, bottom last. -/
def stacked (ns : List Nat) : State :=
  { playing with
    engine := { playing.engine with stack := ns.map fun n => { context with booking := n, rank := 0 } }
    book := ns.foldl (fun b n => b.setSlot n (.occupied { booking with state := .suspended })) playing.book }

theorem witness_withdraw : behind.takes .service 3 1 = true ∧ dailyRecord.rank ≤ behind.privilege .service
    ∧ (atTen (stacked [2])).booking? 2 = some { booking with state := .suspended }
    ∧ (stacked [2]).engine.stack = [] ++ { context with booking := 2, rank := 0 } :: []
    ∧ (stacked [2]).takes .service 3 1 = true
    ∧ { playing with book := playing.book.setSlot 1 (.occupied { booking with state := .sounding }) }.booking? 1
      = some { booking with state := .sounding }
    ∧ playing.engine.active = some context ∧ context.booking = 1 ∧ playing.engine.waiting = []
    ∧ playing.engine.stack = [] := by decide +kernel

/-- The daily record with rank 3. -/
def highBody : List Byte := dailyBody.set 21 3

/-- A table with no free slot. -/
def crowded : State := { idle with book := { idle.book with slots := idle.book.slots.map fun _ => .reserved } }

/-- R38, R164: a rank above the port's level, in the request or in the record in force, and a full table. -/
theorem witness_rank_refused :
    let high : Booking := { booking with record := { dailyRecord with rank := 3 } }
    parseRecord highBody = some { dailyRecord with rank := 3 } ∧ idle.privilege .main < 3 ∧ idle.privilege .service < 3
      ∧ (withLibrary (fun l => { l with key := true }) idle).privilege .service = 3
      ∧ (booked high).takes .main 2 (dailyBody.length + 1) = true ∧ (booked high).booking? 1 = some high
      ∧ (booked high).takes .main 3 1 = true ∧ crowded.takes .main 1 dailyBody.length = true
      ∧ crowded.book.lowestFree = none ∧ dailyRecord.rank ≤ crowded.privilege .main := by decide +kernel

/-- The answers: BOOK, AMEND to rank 3 and from it, WITHDRAW, BOOK in a full table. -/
theorem test_rank_refused :
    let high : Booking := { booking with record := { dailyRecord with rank := 3 } }
    let answers (i : Instr) (s : State) := ((after (exec i s)).port .main).ready.map Answer.code
    answers (.book .main highBody) idle = [.privilege]
      ∧ answers (.amend .main (1 :: highBody)) (booked booking) = [.privilege]
      ∧ answers (.amend .main (1 :: dailyBody)) (booked high) = [.privilege]
      ∧ answers (.withdraw .main [1]) (booked high) = [.privilege]
      ∧ answers (.book .main dailyBody) crowded = [.tableFull] := by decide +kernel

theorem witness_kept :
    let b := { booking with record := { dailyRecord with kept := true } }
    idle.takes .main 1 keptBody.length = true ∧ idle.store.state = .idle
      ∧ (booked b).booking? 1 = some b ∧ (booked b).takes .main 2 (keptBody.length + 1) = true
      ∧ (booked b).takes .main 3 1 = true ∧ (booked b).store.pendingAt 1 = false
      ∧ (booked b).store.state = .idle ∧ b.record.rank ≤ (booked b).privilege .main
      ∧ (after (exec (.book .main keptBody) idle)).store.state ≠ .idle
      ∧ (after (exec (.book .main keptBody) idle)).takes .service 1 40 = true
      ∧ (after (exec (.book .main keptBody) idle)).book.lowestFree = some 2 := by decide +kernel

theorem witness_look_up : (booked booking).booking? 1 = some booking ∧ (booked booking).takes .main 4 1 = true
    ∧ (booked booking).store.pendingAt 1 = false := by decide +kernel

/-- R41: an AMEND of slot 1 is at work. -/
theorem witness_look_up_pending :
    let s := withStore (fun st => { st with state := .programming, op := some ⟨.amend 1 dailyRecord, .main, true⟩ })
      (booked booking)
    s.booking? 1 = some booking ∧ s.takes .service 4 1 = true ∧ s.store.pendingAt 1 = true := by decide +kernel

theorem witness_browse : (booked booking).takes .main 5 1 = true ∧ (booked booking).takes .main 6 0 = true
    ∧ ((booked booking).port .main).cursor = 1 ∧ idle.takes .main 6 0 = true := by decide +kernel

theorem witness_lists : (booked booking).takes .main 7 0 = true ∧ (booked booking).takes .main 8 0 = true := by
  decide +kernel

/-- R45: of eighteen unread outcomes the sixteen of the lowest numbers are returned and read. -/
theorem test_read_outcomes :
    let s : State := { idle with book := { idle.book with
      slots := (List.range 96).map fun k =>
        if k < 20 then .occupied { booking with unread := k != 3 && k != 7 } else .free } }
    let t := after (exec (.readOutcomes .main []) s)
    let number (n : Nat) := (t.booking? n).map Booking.unread
    s.takes .main 8 0 = true ∧ s.book.unread.map Prod.fst = [1, 2, 3, 5, 6, 7] ++ List.range' 9 10
      ∧ (t.port .main).ready.map (fun a => (a.body.length, a.body.take 2)) = [(1 + 16 * 18 + 1, [16, 1])]
      ∧ number 18 = some false ∧ number 19 = some true ∧ number 20 = some true := by decide +kernel

/-! ## The engine -/

theorem witness_play_now : melodious.takes .main 9 playBody.length = true
    ∧ parsePlayNow playBody = some playRecord ∧ playRecord.rank ≤ melodious.privilege .main
    ∧ melodious.book.lowestFree = some 1 ∧ playRecord.melody = some 3
    ∧ (melodious.melody 3).state = .complete ∧ (melodious.melody 3).damaged = false
    ∧ (melodious.melody 3).known? = some song ∧ melodious.engineIdle = true
    ∧ melodious.drive.ready = true ∧ melodious.drive.hush = false := by decide +kernel

/-- The melodious state with DRIVE READY low. -/
def dark : State := withDrive (fun d => { d with ready := false }) melodious

/-- The melodious state with slot 3 DAMAGED. -/
def damaged : State := melodious.modMelody 3 fun m => { m with damaged := true }

theorem witness_refused_start : dark.takes .main 9 playBody.length = true ∧ dark.book.lowestFree = some 1
    ∧ dark.engineIdle = true ∧ dark.drive.hush = false ∧ dark.live = none ∧ dark.drive.ready = false
    ∧ damaged.drive.ready = true ∧ (damaged.melody 3).damaged = true ∧ (melodious.melody 4).state ≠ .complete
    ∧ damaged.takes .main 9 playBody.length = true
    ∧ parsePlayNow (playBody.set 0 4) = some { playRecord with melody := some 4 }
    ∧ parsePlayNow (playBody.set 1 3) = some { playRecord with rank := 3 }
    ∧ crowded.takes .main 9 playBody.length = true := by decide +kernel

/-- R54: the drive is checked before the score. -/
theorem test_refused_start :
    let kinds (body : List Byte) (s : State) :=
      (after (exec (.playNow .main body) s)).book.orphans.map fun o => (o.number, o.kind, o.outcome.kind)
    kinds playBody dark = [(1, .now, .noDrive)] ∧ kinds playBody damaged = [(1, .now, .noScore)]
      ∧ kinds (playBody.set 0 4) melodious = [(1, .now, .noScore)] ∧ kinds (playBody.set 0 4) dark = [(1, .now, .noDrive)]
      ∧ kinds playBody melodious = [] := by decide +kernel

/-- LIVE OPEN: rank 1, INTERRUPT, tempo 120, volume 16. -/
def liveBody : List Byte := [1, 0, 120, 16, 0, 0]

def liveRecord : BookingRecord := immediateRecord .live none .interrupt 1 (some 120) 0 16 1 false

/-- A live performance at play as booking 1. -/
def live : State := after (exec (.liveOpen .main liveBody) idle)

theorem witness_live_open : idle.takes .main 0x0C liveBody.length = true
    ∧ parseLiveOpen liveBody = some liveRecord ∧ liveRecord.rank ≤ idle.privilege .main
    ∧ liveRecord.tempo = some 120 ∧ idle.live = none ∧ idle.book.lowestFree = some 1
    ∧ idle.engineIdle = true ∧ live.takes .service 0x0C liveBody.length = true
    ∧ live.live.isSome = true := by decide +kernel

theorem witness_live_refused : parseLiveOpen (liveBody.set 0 3) = some { liveRecord with rank := 3 }
    ∧ crowded.takes .main 0x0C liveBody.length = true ∧ crowded.live = none
    ∧ liveRecord.rank ≤ crowded.privilege .main := by decide +kernel

/-- PLAY NOW of rank 2 with a class. -/
def strongerBody (cls : Byte) : List Byte := [3, 2, cls, 0xFF, 0, 16, 1, 0]

theorem witness_newcomer : playing.takes .service 9 8 = true
    ∧ parsePlayNow (strongerBody 0) = some { playRecord with rank := 2 }
    ∧ parsePlayNow (strongerBody 1) = some { playRecord with rank := 2, cls := .replace }
    ∧ playing.book.lowestFree = some 2 ∧ (playing.melody 3).state = .complete
    ∧ (playing.melody 3).damaged = false ∧ (playing.melody 3).known? = some song
    ∧ playing.engine.active = some context ∧ context.rank = 1 ∧ context.melodyKind ≠ none
    ∧ playing.engine.waiting = [] ∧ playing.engine.stack.length < 3 ∧ playing.drive.ready = true
    ∧ playing.drive.hush = false ∧ (playing.booking? context.booking).isSome = true := by decide +kernel

theorem witness_waiting_newcomer : parsePlayNow (strongerBody 2) = some { playRecord with rank := 2, cls := .wait }
    ∧ parsePlayNow playBody = some playRecord ∧ playRecord.rank ≤ context.rank := by decide +kernel

theorem witness_full_stack : (stacked [2, 3, 4]).takes .service 9 8 = true
    ∧ (stacked [2, 3, 4]).engine.stack.length = 3 ∧ (stacked [2, 3, 4]).book.lowestFree = some 5
    ∧ ((stacked [2, 3, 4]).engine.stack.map Context.booking).Nodup
    ∧ (∀ x ∈ (stacked [2, 3, 4]).engine.stack, x.booking ≠ context.booking ∧ x.booking ≠ 5)
    ∧ (stacked [2, 3, 4]).booking? 4 = some { booking with state := .suspended }
    ∧ ((stacked [2, 3, 4]).engine.stack[2]?).map Context.booking = some 4 := by decide +kernel

/-- R58: the bottom context goes and the others keep their order. -/
theorem test_displaced :
    let s := after (exec (.playNow .service (strongerBody 0)) (stacked [2, 3, 4]))
    s.engine.stack.map Context.booking = [1, 2, 3]
      ∧ ((s.booking? 4).bind (·.lastOutcome)).map (fun o => (o.kind, o.cause)) = some (.cut, some .displaced) := by
  decide +kernel

/-- A live performance at play as booking 1, the song in the library. -/
def liveBeside : State := after (exec (.liveOpen .main liveBody) melodious)

theorem witness_live_interrupted : liveBeside.takes .service 9 8 = true
    ∧ liveBeside.engine.active.map Context.melodyKind = some none
    ∧ liveBeside.engine.active.map Context.rank = some 1
    ∧ liveBeside.live.map LiveFeed.booking = liveBeside.engine.active.map Context.booking
    ∧ (liveBeside.booking? 1).map (fun b => b.record.kind.immediate) = some true
    ∧ liveBeside.book.lowestFree = some 2 ∧ liveBeside.engine.waiting = [] := by decide +kernel

/-- The daily booking at play in slot 1 in place of the immediate one. -/
def playingDaily : State :=
  { playing with book := playing.book.setSlot 1 (.occupied { booking with state := .sounding }) }

theorem witness_halt : playing.takes .service 0x0A 2 = true ∧ parseHalt [0, 1] = some (.active, .now)
    ∧ parseHalt [0, 2] = some (.active, .atPhrase) ∧ parseHalt [0, 3] = some (.active, .atEnd)
    ∧ playing.engine.stack = [] ∧ context.rank ≤ playing.privilege .service
    ∧ playingDaily.booking? 1 = some { booking with state := .sounding }
    ∧ silenced.takes .service 0x0A 2 = true ∧ silenced.engine.active.map Context.mode = some .hushed
    ∧ idle.takes .service 0x0A 2 = true ∧ idle.engine.active = none := by decide +kernel

theorem witness_halt_targets : parseHalt [255, 1] = some (.all, .now) ∧ parseHalt [1, 1] = some (.booking 1, .now)
    ∧ (stacked [2, 3]).takes .service 0x0A 2 = true
    ∧ (((stacked [2, 3]).engine.active.toList ++ (stacked [2, 3]).engine.stack).map Context.booking).Nodup
    ∧ (∀ x ∈ (stacked [2, 3]).engine.active.toList ++ (stacked [2, 3]).engine.stack, x.rank ≤ (stacked [2, 3]).privilege .service)
    ∧ parseHalt [3, 2] = some (.booking 3, .atPhrase) ∧ (withDrive (fun d => { d with hush := true }) playing).drive.hush
      = true
    ∧ (stacked [2, 3]).engine.stack = [{ context with booking := 2, rank := 0 }] ++ { context with booking := 3, rank := 0 } :: [] := by
  decide +kernel

/-- The song plays with rank 3. -/
def highest : State :=
  { playing with engine := { playing.engine with active := some { context with rank := 3 } } }

theorem witness_halt_refused : highest.takes .service 0x0A 2 = true ∧ highest.privilege .service < 3
    ∧ highest.engine.active = some { context with rank := 3 }
    ∧ ((after (exec (.halt .service [0, 1]) highest)).port .service).ready.map Answer.code = [.privilege]
    ∧ ((after (exec (.halt .service [255, 3]) highest)).port .service).ready.map Answer.code = [.privilege] := by
  decide +kernel

/-- A booking of another class and rank waits over the same stack. -/
def waitingOver (cls : BookingClass) (rank : Nat) : State :=
  { stacked [2] with
    engine := { (stacked [2]).engine with waiting := [3] }
    book := (stacked [2]).book.setSlot 3
      (.occupied { waitingBooking with record := { dailyRecord with cls := cls, rank := rank } }) }

theorem witness_resume_choice : (stacked [2]).drive.hush = false ∧ context.melodyKind = some .score
    ∧ context.melody = some 3 ∧ (stacked [2]).booking? 2 = some { booking with state := .suspended }
    ∧ (waitingOver .wait 1).booking? 3 = some waitingBooking
    ∧ (waitingOver .interrupt 1).engine.waiting = [3] ∧ (waitingOver .interrupt 1).drive.ready = true
    ∧ (waitingOver .interrupt 1).takes .service 0x0A 2 = true ∧ (waitingOver .wait 1).drive.hush = false
    ∧ ((waitingOver .interrupt 1).melody 3).known? = some song
    ∧ (waitingOver .interrupt 1).engine.stack.head?.map Context.rank = some 0 := by decide +kernel

/-- R61: a waiting INTERRUPT of greater rank is taken before the stack top, and a WAIT is not. -/
theorem test_resume_choice :
    let s (c : BookingClass) : State := after (exec (.halt .service [0, 1]) (waitingOver c 1))
    (s .wait).engine.active.map Context.booking = some 2 ∧ (s .wait).engine.waiting = [3]
      ∧ (s .interrupt).engine.active.map Context.booking = some 3
      ∧ (s .interrupt).engine.stack.map Context.booking = [2] := by decide +kernel

theorem witness_hush_levels : hushed.drive.hush = true ∧ hushed.quiet = true ∧ idle.drive.hush = false
    ∧ idle.engine.active = none := by decide +kernel

theorem witness_hush : held.drive.hush = false ∧ held.engine.active = some context
    ∧ context.mode = .playing ∧ context.melodyKind ≠ none ∧ silenced.drive.hush = true
    ∧ silenced.store.loading = false ∧ silenced.engine.active.map Context.melody = some (some 3)
    ∧ silenced.engine.active.map Context.pendingHalt = some none ∧ silenced.engine.waiting = []
    ∧ silenced.planner.queue = [] := by decide +kernel

/-- Bell 0 DRIVEN since time 0 for 3,000 µs under supervision. -/
def driven (seen : Bool) : State :=
  withDrive (fun d => { d with energised := 1 }) (withBell (fun b => { b with
    state := .driven, cycle := some ⟨0, 3000, 200, 150, true, seen, none⟩ }) idle)

theorem witness_drive_fall : (driven true).drive.ready = true
    ∧ ∀ b, b < 64 → ((driven true).bell b).state = .driven → ((driven true).bell b).cycle ≠ none := by
  decide +kernel

/-- The bell's sensor is open, or its recovery time has passed. -/
theorem witness_released_bells :
    let opened := withBell (fun b => { b with sensorOpen := true }) (driven true)
    let late := withTime (fun t => { t with clock := 200000 }) (driven true)
    let state (s : State) := ((after (exec .driveReadyFall s)).bell 0).state
    (opened.bell 0).sensorOpen = true ∧ (opened.bell 0).cycle.map Cycle.sensor = some true
      ∧ (driven true).coilsCounted = true ∧ (driven true).drive.bells.length = 64
      ∧ state opened = .returning ∧ state (driven true) = .recovering ∧ state late = .ready := by decide +kernel

/-- R70: a live performance over two suspended ones; its feed goes with it. -/
theorem witness_drive_loss :
    let s := { stacked [2, 3] with live := live.live, book := { (stacked [2, 3]).book.setSlot 1 (live.book.slots.getD 0 .free) with orphans := [] } }
    let t := after (exec .driveReadyFall s)
    (s.engine.active.toList ++ s.engine.stack).map Context.booking = [1, 2, 3]
      ∧ (s.booking? 1).map (fun b => b.record.kind) = some .live ∧ s.live.map LiveFeed.booking = some 1
      ∧ t.live = none ∧ t.book.orphans.map (fun o => (o.number, o.outcome.kind)) = [(1, .driveLost)]
      ∧ [2, 3].map (fun n => (t.booking? n).bind fun b => b.lastOutcome.map OutcomeRecord.kind)
        = [some .driveLost, some .driveLost] := by decide +kernel

/-- DRIVE READY low, the daily booking waits. -/
def unpowered : State :=
  { withDrive (fun d => { d with ready := false }) melodious with
    engine := ⟨none, [], [1]⟩
    book := melodious.book.setSlot 1 (.occupied { booking with state := .due, waiting := some 3 }) }

theorem witness_drive_rise :
    (withDrive (fun d => { d with ready := false }) idle).quiet = true
      ∧ unpowered.drive.ready = false ∧ unpowered.drive.hush = false ∧ unpowered.store.loading = false
      ∧ unpowered.engine = ⟨none, [], [1]⟩
      ∧ ¬ unpowered.drive.arbiterOpen = true
      ∧ unpowered.booking? 1 = some { booking with state := .due, waiting := some 3 }
      ∧ (unpowered.melody 3).state = .complete ∧ (unpowered.melody 3).known? = some song := by decide +kernel

/-! ## Live play -/

/-- A feed with no performance at play. -/
def feed (mode : FeedMode) : LiveFeed := ⟨1, [], mode, false, 0, ⟨0, none⟩⟩

/-- LIVE NOTES: one REST of 16 ticks. -/
def notesBody : List Byte := [1, 2, 0, 0, 16]

theorem witness_live_notes : idle.takes .main 0x0D notesBody.length = true
    ∧ parseLiveNotes notesBody = some [.rest 16] ∧ idle.takes .main 0x0E 0 = true
    ∧ { idle with live := some (feed .opened) }.takes .main 0x0D notesBody.length = true
    ∧ { idle with live := some (feed .stopped) }.takes .main 0x0E 0 = true
    ∧ idle.engine.active = none := by decide +kernel

theorem witness_feed_deadline :
    live.engine.active.map Context.feedDeadline = some (some (500000 + 48 * 10416))
      ∧ live.live.map LiveFeed.queue = some [] ∧ live.live.map LiveFeed.mode = some .opened
      ∧ live.engine.active.map Context.mode = some .playing := by decide +kernel

theorem witness_idle_limit : live.engine.stack = [] ∧ live.engine.waiting = []
    ∧ live.engine.active.map Context.melodyKind = some none
    ∧ live.live.map LiveFeed.booking = live.engine.active.map Context.booking
    ∧ live.live.map (fun l => l.idle.since) = some (some 0)
    ∧ (live.booking? 1).map (fun b => b.record.kind) = some .live
    ∧ 30000000 ≤ 0 + ((withTime (fun t => { t with clock := 30000000 }) live).time.clock - 0)
    ∧ live.time.clock - 0 < 30000000 := by decide +kernel

/-! ## The library and the store -/

/-- Every slot guarded. -/
def guardedState : State :=
  withLibrary (fun l => { l with protection := ⟨.opened, ⟨false, .all, false⟩, 0⟩ }) melodious

/-- STORE SEGMENT: the song's events for slot 4, index 0. -/
def segmentBody : List Byte :=
  [4, 4, 0, 0, 0, 2] ++ be 2 (crc16 ([4, 0, 0, 0, 2] ++ eventBytes)).toNat ++ eventBytes

theorem witness_define : idle.takes .main 0x0F defineBody.length = true
    ∧ parseDefine defineBody = some (0, song) ∧ idle.guarded 0 = false
    ∧ (idle.melody 0).state = .empty ∧ idle.store.state = .idle
    ∧ guardedState.takes .main 0x0F defineBody.length = true ∧ guardedState.guarded 0 = true
    ∧ parseDefine (defineBody.set 0 3) = some (3, song) ∧ (melodious.melody 3).state ≠ .empty := by
  decide +kernel

theorem witness_store_segment : melodious.takes .main 0x10 segmentBody.length = true
    ∧ (parseStoreSegment segmentBody).map (fun g => (g.slot, g.index)) = some (4, 0)
    ∧ melodious.guarded 4 = false ∧ (melodious.melody 4).state = .defined
    ∧ (melodious.melody 4).header = .known song ∧ song.shape = .score 1
    ∧ (melodious.melody 4).positions.getD 0 .absent = .absent ∧ guardedState.guarded 4 = true := by
  decide +kernel

theorem witness_erase : melodious.takes .main 0x12 1 = true ∧ melodious.guarded 3 = false
    ∧ melodious.melodyInUse 3 = false ∧ (melodious.melody 3).state ≠ .empty
    ∧ playing.takes .service 0x12 1 = true ∧ playing.guarded 3 = false ∧ playing.melodyInUse 3 = true
    ∧ guardedState.guarded 63 = true := by decide +kernel

theorem witness_melody_info : idle.takes .main 0x13 1 = true ∧ (63 : Byte).toNat < 64 ∧ 64 ≤ (64 : Byte).toNat := by
  decide +kernel

theorem witness_read_segment : melodious.takes .main 0x11 2 = true ∧ (melodious.melody 3).state ≠ .empty
    ∧ (melodious.melody 3).header = .known song
    ∧ (melodious.melody 3).positions.getD 0 .absent ≠ .absent ∧ melodious.store.reads.length < 8 := by
  decide +kernel

/-- READ SEGMENT of slot 3, index 0 in progress. -/
def reading : State := after (exec (.readSegment .main [3, 0]) melodious)

theorem witness_port_read : reading.store.reads = [⟨3, 0, .port .main⟩] ∧ reading.store.working = false
    ∧ reading.store.state = .idle ∧ reading.store.op = none ∧ reading.engine.active = none
    ∧ reading.links.resetPending = false ∧ reading.segmentPlace 3 0 = .programmed songBytes
    ∧ (checkRead 3 0 songBytes).isSome = true := by decide +kernel

/-- The song's rest comes next, beyond the horizon; its buffer is being read. -/
def fetching (bytes : List Byte) : State :=
  let s := withStore (fun st => { st with places := { st.places with
    segments := setAt2 st.places.segments 3 0 (.programmed bytes) } }) playing
  { s with engine := { s.engine with active := some { context with pos := ⟨0, 1, 0, 0⟩ } } }

theorem witness_buffer_read : (fetching songBytes).store.reads = [⟨3, 0, .buffer false⟩]
    ∧ (fetching songBytes).store.working = false ∧ (fetching songBytes).store.state = .idle
    ∧ (fetching songBytes).store.op = none ∧ context.mode = .playing
    ∧ context.melodyKind = some .score ∧ context.melody = some 3
    ∧ (fetching songBytes).player = ⟨.reading 0, .free, none, none⟩
    ∧ (fetching songBytes).segmentPlace 3 0 = .programmed songBytes
    ∧ checkRead 3 0 songBytes = some ⟨3, 0, 0, 2, 0x3351, events⟩ ∧ events[1]? = some (.rest 2000)
    ∧ (fetching songBytes).time.clock + 400000 < context.dueAt (0 + 2000)
    ∧ checkRead 3 0 eventBytes = none
    ∧ (fetching eventBytes).segmentPlace 3 0 = .programmed eventBytes := by decide +kernel

/-- A segment of slot 3, index 0, that carries these event bytes, under a header of this length code and count. -/
def segmentOf (code count : Byte) (es : List Byte) : List Byte :=
  [3, 0, code, 0, count] ++ be 2 (crc16 ([3, 0, code, 0, count] ++ es)).toNat ++ es

/-- R87: an event of no kind does not fail a read; the count's and the code's bounds do, and another slot. -/
theorem test_read_checks :
    let passes (bs : List Byte) := (checkRead 3 0 bs).isSome
    parseSegment (segmentOf 0 1 [9, 0, 0, 0]) = none ∧ passes (segmentOf 0 1 [9, 0, 0, 0]) = true
      ∧ (checkRead 3 0 (segmentOf 0 2 ([9, 0, 0, 0] ++ [2, 0, 0, 5]))).bind (·.events[1]?) = some (.rest 5)
      ∧ passes (segmentOf 0 0 []) = false ∧ passes (segmentOf 0 32 eventBytes) = true
      ∧ passes (segmentOf 0 33 eventBytes) = false ∧ passes (segmentOf 1 33 eventBytes) = true
      ∧ (checkRead 3 0 (segmentOf 1 33 eventBytes)).map (fun g => (g.lengthCode, g.eventCount)) = some (1, 33)
      ∧ passes (segmentOf 4 1 eventBytes) = false ∧ checkRead 4 0 songBytes = none ∧ checkRead 3 1 songBytes = none
      ∧ parseSegment songBytes = checkRead 3 0 songBytes := by decide +kernel

/-- The place of the song's segment in another condition. -/
def withPlace (p : SegmentPlace) (s : State) : State :=
  withStore (fun st => { st with places := { st.places with segments := setAt2 st.places.segments 3 0 p } }) s

/-- The song's buffer after one read that failed. -/
def retrying : State := { fetching songBytes with player := ⟨.retrying 0, .free, none, none⟩ }

theorem witness_bad_reads : checkRead 3 0 (readBytes [1] songBytes) = none
    ∧ (withPlace .blank (fetching songBytes)).segmentPlace 3 0 = .blank
    ∧ (withPlace (.spoiled songBytes) (fetching songBytes)).segmentPlace 3 0 = .spoiled songBytes
    ∧ (withPlace .blank reading).segmentPlace 3 0 = .blank
    ∧ retrying.store.reads = [⟨3, 0, .buffer false⟩] ∧ 3 < retrying.library.slots.length
    ∧ retrying.engine = ⟨some { context with pos := ⟨0, 1, 0, 0⟩ }, [], []⟩
    ∧ retrying.planner.queue = [] ∧ (retrying.booking? 1).isSome = true := by decide +kernel

theorem witness_released_read :
    let s := withStore (fun st => { st with reads := [⟨3, 0, .buffer true⟩] }) melodious
    s.store.reads = ⟨3, 0, .buffer true⟩ :: [] ∧ s.store.working = false ∧ s.store.state = .idle
      ∧ s.store.op = none ∧ s.engine.active = none := by decide +kernel

theorem witness_protection :
    idle.takes .service 0x19 4 = true ∧ parseProtection [3, 0, 0, 0] = some .lock
      ∧ parseProtection [1, 1, 3, 0] = some (.program .keyed ⟨true, .half, false⟩)
      ∧ idle.library.lockFlag = false ∧ idle.library.protection.mode = .opened
      ∧ idle.store.state = .idle ∧ sealedState.takes .service 0x19 4 = true
      ∧ sealedState.library.protection.mode = .permanent := by decide +kernel

/-- A store operation of a job at work. -/
def working (job : StoreJob) : State :=
  withStore (fun st => { st with state := .programming, op := some ⟨job, .main, true⟩ }) melodious

theorem witness_completion : (working (.define 0 song)).store.op = some ⟨.define 0 song, .main, true⟩
    ∧ (working (.define 0 song)).store.state = .programming
    ∧ (working (.define 0 song)).store.suspending = false
    ∧ (working (.define 0 song)).links.resetPending = false ∧ (working (.define 0 song)).quiet = true
    ∧ (working (.define 0 song)).library.slots.length = 64
    ∧ (working (.book 96 dailyRecord)).book.slots.length = 96
    ∧ (working (.setBell 63 steel)).drive.bells.length = 64 := by decide +kernel

/-- The same over the booked state. -/
def workingBooked (job : StoreJob) : State :=
  withStore (fun st => { st with state := .programming, op := some ⟨job, .main, true⟩ }) (booked booking)

theorem witness_book_jobs : (workingBooked (.amend 1 dailyRecord)).quiet = true
    ∧ (workingBooked (.amend 1 dailyRecord)).booking? 1 = some booking ∧ booking.busy = false
    ∧ ({ booking with record := dailyRecord }.recompute (workingBooked (.amend 1 dailyRecord)).time).next ≠ some 100
    ∧ (workingBooked (.withdraw 1)).store.op = some ⟨.withdraw 1, .main, true⟩
    ∧ dailyRecord.firstFrom (working (.book 96 dailyRecord)).time.second
      ≠ some (working (.book 96 dailyRecord)).time.second := by decide +kernel

/-- Store operations whose verified completion falls due at once, re-places a waiting booking or ends one. -/
theorem witness_book_jobs_at_play :
    let at' (job : StoreJob) (s : State) : State :=
      withStore (fun st => { st with state := .programming, op := some ⟨job, .main, true⟩ }) s
    (at' (.book 1 dailyRecord) (atTen melodious)).store.op = some ⟨.book 1 dailyRecord, .main, true⟩
      ∧ (at' (.book 1 dailyRecord) (atTen melodious)).engineIdle = true
      ∧ (after (exec (.storeCompletion .verified) (at' (.book 1 dailyRecord) (atTen melodious)))).engine.active.map
        Context.booking = some 1
      ∧ (at' (.amend 2 dailyRecord) behind).booking? 2 = some waitingBooking
      ∧ (after (exec (.storeCompletion .verified) (at' (.withdraw 2) behind))).engine.waiting = []
      ∧ (after (exec (.storeCompletion .verified) (at' (.withdraw 2) (stacked [2])))).engine.stack = [] := by
  decide +kernel

theorem witness_failed_at_b : Completion.failedAtCopyB ≠ .verified
    ∧ (working (.setProtection sealed)).store.op = some ⟨.setProtection sealed, .main, true⟩
    ∧ (working (.segment 4 0 [])).library.slots.length = 64 := by decide +kernel

/-- An operation in hand, its work begun or not. -/
theorem witness_cut : (∀ op, (working (.erase 3)).store.op = some op → op.begun = true)
    ∧ (∀ op, (withStore (fun st => { st with op := some ⟨.erase 3, .main, false⟩ }) idle).store.op = some op →
      op.begun = false) := by
  constructor <;> intro op h <;> cases h <;> rfl

theorem witness_suspend :
    (withStore (fun st => { st with suspending := true }) (working (.define 0 song))).store.suspending = true
      ∧ (withStore (fun st => { st with state := .programSuspended, reads := [⟨3, 0, .buffer true⟩] })
        (working (.define 0 song))).store.reads = [⟨3, 0, .buffer true⟩]
      ∧ (working (.define 0 song)).engine.active = none := by decide +kernel

/-! ## Bells, hammers and the drive supply -/

/-- SET BELL: bell 63 with the record of the tests. -/
def bellBody : List Byte := [63, 1, 60, 1, 4, 3, 0x20, 1, 0xF4, 20, 40, 0, 200, 0, 150]

theorem witness_settings : idle.takes .main 0x14 bellBody.length = true
    ∧ parseSetBell bellBody = some (63, steel) ∧ idle.takes .main 0x18 5 = true
    ∧ parseDrive [4, 0, 160, 0, 120] = some ⟨4, 160, 120⟩ ∧ (working (.define 0 song)).store.state ≠ .idle
    ∧ (working (.define 0 song)).takes .main 0x14 bellBody.length = true := by decide +kernel

theorem witness_status : idle.takes .main 0x1B 0 = true ∧ idle.takes .main 0x0B 0 = true
    ∧ idle.takes .main 0x15 1 = true ∧ idle.time.sub < 1000000 := by decide +kernel

/-- The sub-second count stands past the second. -/
def overdueSecond (second : Nat) : State := withTime (fun t => { t with second := second, sub := 1000030 }) idle

/-- R14: READ TIME then shows a count of 30 in the next second. -/
theorem test_read_time_past_the_second : (overdueSecond 0).takes .main 0x1B 0 = true
    ∧ ((overdueSecond 3155759999).time.shown.sub, (overdueSecond 3155759999).time.shown.second,
        (overdueSecond 3155759999).time.shown.state) = (30, 0, .unset)
    ∧ ((overdueSecond 0).time.shown.sub, (overdueSecond 0).time.shown.second) = (30, 1) := by decide +kernel

theorem witness_restore : idle.takes .main 0x16 1 = true ∧ idle.quiet = true
    ∧ ((withBell (fun b => { b with state := .faulted }) idle).bell 0).state = .faulted
    ∧ ((withBell (fun b => { b with state := .off }) idle).bell 0).state = .off
    ∧ (idle.bell 0).state = .ready := by decide +kernel

/-- The strike of strength 20 tested at clock 0: flight 61,000, width 3,266 (hand calculation by R103). -/
def testEntry : StrikeEntry :=
  ⟨0, .test, none, 400000, 61000, 339000, 0, false, 20, 3266⟩

theorem witness_test_strike : idle.takes .main 0x17 2 = true ∧ idle.engine.active = none
    ∧ planEntry steel .normal none 0 0 ⟨.test, some 0, false, 400000, 20, 16, none⟩ = some testEntry
    ∧ (idle.bell 0).state ≠ .off ∧ idle.planner.queue.length < 48
    ∧ planEntry steel .normal (some 369001) 0 0 ⟨.test, some 0, false, 400000, 20, 16, none⟩ = none := by
  decide +kernel

theorem witness_planned : steel.consistent = true ∧ 1 ≤ steel.emin ∧ steel.emin ≤ 31
    ∧ (planEntry steel .normal (some 369000) 0 0 ⟨.test, some 0, false, 400000, 20, 16, none⟩).isSome = true
    ∧ steel.fhi ≤ steel.flo ∧ steel.wmin ≤ steel.wmax := by decide +kernel

/-- R106, R107: the edges of the restrike shift and of the drop limit, and the late flag's; ideal 439,000. -/
theorem test_plan_edges :
    let plan (busy : Option Nat) (now : Nat) := (planEntry steel .normal busy now 0
      ⟨.test, some 0, false, 500000, 20, 16, none⟩).map fun x => (x.fireTime, x.lateness, x.late, x.strength)
    plan none 100000 = some (439000, 0, false, 20) ∧ plan (some 439000) 100000 = some (439000, 0, false, 20)
      ∧ plan (some 469000) 100000 = some (469000, 30000, true, 20) ∧ plan (some 469001) 100000 = none
      ∧ plan none 459000 = some (459000, 20000, false, 20) ∧ plan none 689000 = some (689000, 250000, true, 20)
      ∧ plan none 689001 = none := by decide +kernel

/-- A test entry of a bell with a fire time. -/
def entryAt (b fire : Nat) : StrikeEntry := { testEntry with bell := b, fireTime := fire, due := fire + 61000 }

/-- Entries of bells 0 and 1 at the clock 300,000. -/
def queued (es : List StrikeEntry) (s : State) : State :=
  { withTime (fun t => { t with clock := 300000 }) s with planner := { s.planner with queue := es } }

/-- One place is left in the queue. -/
theorem witness_last_place :
    let s := queued (List.replicate 47 (entryAt 1 900000)) idle
    s.planner.queue.length = 47 ∧ s.takes .main 0x17 2 = true
      ∧ (planEntry steel .normal none 300000 0 ⟨.test, some 0, false, 700000, 20, 16, none⟩).isSome = true
      ∧ (after (exec (.testStrike .main [0, 20]) s)).planner.testFilled = some 300000 := by decide +kernel

theorem witness_removal : 0 < idle.planner.busyUntil.length
    ∧ (∃ e ∈ (queued [entryAt 0 5, entryAt 1 9] idle).planner.queue, (e.bell == 0) = true ∧ e.bell = 0)
    ∧ ∀ e ∈ (queued [entryAt 0 5, entryAt 1 9] idle).planner.queue, (e.bell == 0) = true → e.bell ≠ 2 := by
  decide +kernel

theorem witness_bank : idle.store.loading = false ∧ idle.quiet = true ∧ State.reset.store.loading = true := by
  decide +kernel

/-- R132's table at L 160, C 120: the edges of each row. -/
theorem test_bank_steps :
    [(BankLevel.normal, 119), (.normal, 120), (.normal, 159), (.normal, 160), (.low, 119), (.low, 168), (.low, 167),
      (.critical, 168), (.critical, 128), (.critical, 167), (.critical, 127)].map (fun x => bankStep x.1 160 120 x.2)
      = [.critical, .low, .low, .normal, .critical, .normal, .low, .normal, .low, .low, .critical] := by decide

/-- Bell 0 RETURNING since time 0, its limit at 153,000. -/
def returning (clock : Nat) : State :=
  withTime (fun t => { t with clock := clock }) (withBell (fun b => { b with
    state := .returning, cycle := some ⟨0, 3000, 200, 150, true, true, some 153000⟩ }) idle)

theorem witness_hammer : (returning 153000).quiet = true
    ∧ ((returning 153000).bell 0).cycle = some ⟨0, 3000, 200, 150, true, true, some 153000⟩
    ∧ ((returning 153000).bell 0).state = .returning ∧ (returning 199999).time.clock < 0 + 1000 * 200
    ∧ 0 + 1000 * 200 ≤ (returning 200000).time.clock ∧ 153000 ≤ (returning 153000).time.clock
    ∧ ((withBell (fun b => { b with state := .recovering }) (returning 200000)).bell 0).state = .recovering
    ∧ (idle.bell 0).state ≠ .returning := by decide +kernel

theorem witness_pulse_end :
    let s := withTime (fun t => { t with clock := 3000 }) (driven true)
    s.quiet = true ∧ (s.bell 0).cycle = some ⟨0, 3000, 200, 150, true, true, none⟩
      ∧ (s.bell 0).state = .driven ∧ 0 + 3000 ≤ s.time.clock ∧ (s.bell 0).sensorOpen = false
      ∧ s.drive.requestedK = none := by decide +kernel

theorem witness_pulse_ends :
    let s (b : Bell → Bell) := withBell b (withTime (fun t => { t with clock := 3000 }) (driven false))
    (s id).quiet = true ∧ ((s id).bell 0).sensorOpen = false
      ∧ ((s id).bell 0).cycle = some ⟨0, 3000, 200, 150, true, false, none⟩
      ∧ ((s (fun b => { b with sensorOpen := true })).bell 0).sensorOpen = true
      ∧ ((s (fun b => { b with cycle := some ⟨0, 3000, 200, 150, false, false, none⟩ })).bell 0).cycle
        = some ⟨0, 3000, 200, 150, false, false, none⟩
      ∧ (withDrive (fun d => { d with requestedK := some 0 }) (s id)).drive.requestedK = some 0 := by decide +kernel

theorem witness_fires :
    let s := queued [entryAt 0 100000, entryAt 1 100001] idle
    s.engine.active = none ∧ (∀ e ∈ s.planner.queue, s.eligible e = true)
      ∧ (s.planner.queue.map StrikeEntry.bell).Nodup
      ∧ s.planner.lastFire.length = s.drive.bells.length ∧ s.drive.freeSlots = 4 := by decide +kernel

theorem witness_overdue :
    let s := queued [entryAt 1 50000, entryAt 0 49999] silenced
    s.planner.queue = [entryAt 1 50000] ++ entryAt 0 49999 :: []
      ∧ (∀ x ∈ [entryAt 1 50000], s.time.clock - (x.fireTime - x.lateness) ≤ 250000)
      ∧ 250000 < s.time.clock - ((entryAt 0 49999).fireTime - (entryAt 0 49999).lateness)
      ∧ s.engine.active.map Context.mode = some .hushed
      ∧ ∀ x ∈ idle.planner.queue, idle.time.clock - (x.fireTime - x.lateness) ≤ 250000 := by decide +kernel

/-- An overdue entry of booking 1. -/
def own : StrikeEntry := { entryAt 0 49999 with owner := .booking 1 }

theorem witness_own_overdue :
    let s := queued [own] playing
    s.planner.queue = [] ++ own :: [] ∧ 250000 < s.time.clock - (own.fireTime - own.lateness)
      ∧ s.engine.active = some context ∧ context.mode = .playing ∧ context.melodyKind = some .score
      ∧ context.melody ≠ none ∧ s.player.done = none ∧ s.player.stopPoint = none
      ∧ s.player.cur = .reading 0 ∧ own.owner = .booking context.booking
      ∧ (queued [own] silenced).engine.active.map Context.mode = some .hushed
      ∧ (queued [own] silenced).engine.active.map Context.booking = some 1
      ∧ (queued [own] idle).engine.active = none := by decide +kernel

/-- A failed erase leaves the segment positions as they stood, and a segment that failed twice is kept with the context. -/
theorem test_failures :
    (after (exec (.storeCompletion .failed) (working (.erase 3)))).melody 3 = .unreadable songSlot.positions
      ∧ (after (exec (.segmentReadCompletion []) (queued [own] (withPlace .blank retrying)))).engine.active.map
        Context.failed = some [0] := by decide +kernel

/-! ## Halts, resume points and what is planned -/

/-- A score that begins with a PHRASE of 4 ticks. -/
def phrasedBytes : List Byte :=
  [3, 0, 0, 0, 3] ++ be 2 (crc16 ([3, 0, 0, 0, 3] ++ [4, 0, 0, 4] ++ eventBytes)).toNat ++ [4, 0, 0, 4] ++ eventBytes

/-- The song plays; its segment is being read. -/
def phrased : State := withPlace (.programmed phrasedBytes) playing

/-- The song with a PHRASE at its end. -/
def marked : State := withPlace (.programmed ([3, 0, 0, 0, 3]
  ++ be 2 (crc16 ([3, 0, 0, 0, 3] ++ eventBytes ++ [4, 0, 0, 4])).toNat ++ eventBytes ++ [4, 0, 0, 4])) playing

theorem witness_stop_point : playing.takes .service 0x0A 2 = true ∧ context.pendingHalt = none
    ∧ playing.player = ⟨.reading 0, .free, none, none⟩
    ∧ phrased.score 3 = [] ++ (0, 0, Event.phrase 4) :: [(0, 1, .note 60 20 0), (0, 2, .rest 2000)]
    ∧ marked.score 3 = [(0, 0, Event.note 60 20 0), (0, 1, .rest 2000)] ++ (0, 2, .phrase 4) :: []
    ∧ playing.stopFromHere context 3 = none
    ∧ playing.planner.queue = [] ∧ (playing.booking? 1).isSome = true := by decide +kernel

/-- R90: a mark at the planning position counts, but for a context that was taken up there and has not reached
it: just started, or resumed. -/
theorem test_stop_point :
    marked.stopFromHere context 3 = some (1, 0, 2)
      ∧ marked.stopFromHere { context with pos := ⟨0, 2, 2000, 0⟩ } 3 = some (1, 0, 2)
      ∧ marked.stopFromHere { context with pos := ⟨0, 2, 2000, 0⟩, atResume := true } 3 = none
      ∧ phrased.stopFromHere context 3 = none
      ∧ phrased.stopFromHere { context with repeatNo := 2, repeats := 3 } 3 = some (2, 0, 0)
      ∧ phrased.stopFromHere { context with repeatNo := 2, repeats := 3, atResume := true } 3 = some (3, 0, 0) := by
  decide +kernel

/-- R57: the resume point is the PHRASE itself, or the start of the repetition when an entry removed stands
before it; a context that has reached nothing since it was resumed keeps the point it had (R61). -/
theorem test_resume_point : (phrased.resumePoint { context with pos := ⟨0, 1, 4, 0⟩ } none).tick = 4
    ∧ (phrased.resumePoint { context with pos := ⟨0, 1, 4, 0⟩, repeatNo := 2, repStart := 90 }
        (some ⟨1, 0, 2, 0, 0⟩)).tick = 90
    ∧ (phrased.resumePoint context none).tick = 4
    ∧ phrased.resumePoint { context with atResume := true } none = context.resume
    ∧ (playing.resumePoint context none).tick = 0 := by decide +kernel

/-- The melodious state with the toll in slot 5. -/
def knelling : State := melodious.modMelody 5 fun m => { m with state := .complete, header := .known knell }

/-- The toll plays twice over as booking 1, at the clock 100,000. -/
def tolling : State :=
  withTime (fun t => { t with clock := 100000 }) (after (exec (.playNow .main [5, 1, 0, 0xFF, 0, 16, 2, 0]) knelling))

/-- Its first stroke as it is planned. -/
def firstStroke : StrikeEntry :=
  ⟨0, .booking 1, some ⟨0, 0, 0, 0, 1⟩, 500000, 61000, 439000, 0, false, 20, 3266⟩

theorem witness_toll : tolling.engine.active.map Context.melodyKind = some (some .toll)
    ∧ tolling.engine.active.map Context.melody = some (some 5) ∧ tolling.player.done = none
    ∧ (tolling.melody 5).known? = some knell ∧ tolling.engine.active.map Context.tollCount = some 2
    ∧ tolling.engine.active.map (fun c => (c.pos.number, c.originTick, c.originTime, c.lastRepeat))
      = some (1, 1, 500000, 2)
    ∧ 500000 ≤ tolling.time.clock + 400000
    ∧ tolling.time.clock + 400000 < 500000 + (1 + 1 - 1) * (2000 * 1000)
    ∧ tolling.mapPitch 60 false = (some 0, false) ∧ (tolling.bell 0).state = .ready
    ∧ planEntry (tolling.bell 0).record tolling.drive.level (tolling.busyUntil 0) tolling.time.clock 0
        ⟨.booking 1, some 0, false, 500000, 20, 16, some ⟨0, 0, 0, 0, 1⟩⟩ = some firstStroke := by decide +kernel

/-- R69, R88, R95: what a restart finds: a failed segment not tried again, at its own place and at the next, and a
toll of the first repetition. -/
theorem witness_restart :
    let failing (n : Nat) : State := { (silenced.modMelody 3 fun m => { m with header := .known { song with shape := .score 2 } }) with
      engine := ⟨silenced.engine.active.map fun c => { c with failed := [n] }, [], []⟩ }
    let knelled : State := after (exec .hushAssert { tolling with
      engine := ⟨tolling.engine.active.map fun c => { c with repeatNo := 2, pos := { c.pos with number := 2 } }, [], []⟩ })
    silenced.planner.queue = [] ∧ silenced.engine.active.map (fun c => (c.resume.pos.segment, c.failed)) = some (0, [])
      ∧ (after (exec .hushRelease (failing 0))).engine = ⟨none, [], []⟩
      ∧ (after (exec .hushRelease (failing 1))).player = ⟨.reading 0, .failed 1, none, none⟩
      ∧ (after (exec .hushRelease knelled)).engine.active.map (fun c => (c.repeatNo, c.lastRepeat)) = some (1, 2) := by
  decide +kernel

/-- The first stroke is planned and the second comes next; after the fourth the planning is done. -/
theorem test_toll : (after (exec .planningHorizonReached tolling)).planner.queue = [firstStroke]
    ∧ (after (exec .planningHorizonReached { tolling with engine := { tolling.engine with
      active := tolling.engine.active.map fun c => { c with pos := { c.pos with number := 4 }, originTick := 4 } } })).player.done
      = some .complete := by decide +kernel

/-- The live performance at play with events in its stream queue, at the clock 100,000. -/
def streaming (es : List Event) : State :=
  { withTime (fun t => { t with clock := 100000 }) live with live := live.live.map fun l => { l with queue := es } }

theorem witness_live_taking : (streaming [.rest 0]).engine.active.map Context.melodyKind = some none
    ∧ (streaming [.rest 0]).live.map LiveFeed.queue = some [.rest 0]
    ∧ (streaming [.rest 0]).live.map LiveFeed.mode = some .opened
    ∧ (streaming [.rest 0]).engine.active.map (fun c => (c.pos.tick, c.originTick, c.originTime, c.tempoNow))
      = some (0, 0, 500000, 120)
    ∧ 500000 + (0 + 0 - 0) * (1250000 / 120) ≤ (streaming [.rest 0]).time.clock + 400000
    ∧ (streaming [.note 60 20 0, .rest 1000]).time.clock + 400000 < 500000 + (0 + 1000 - 0) * (1250000 / 120)
    ∧ (streaming [.note 60 20 0, .rest 1000]).mapPitch 60 false = (some 0, false)
    ∧ (planEntry steel .normal none 100000 0
        ⟨.booking 1, some 0, false, 500000, 20, 16, some ⟨0, 0, 0, 0, 1⟩⟩).isSome = true := by decide +kernel

/-- The live performance hushed with these events in its queue and a strike of its own planned. -/
def silentFeed (mode : FeedMode) (es : List Event) : State :=
  let s := { queued [own] (streaming es) with live := (streaming es).live.map fun (l : LiveFeed) => { l with mode := mode } }
  after (exec .hushAssert (s.modActive fun c => { c with pos := { c.pos with tick := 40 } }))

/-- R68, R146: its strike is lost, its queue stays; it restarts at the tick of its head event, or ends. -/
theorem witness_live_hush :
    let s := silentFeed .opened [.rest 16, .rest 1000]
    let t := after (exec .hushRelease s)
    (queued [own] (streaming [])).engine.active.map (fun c => (c.mode, c.melodyKind, c.counts.lost)) = some (.playing, none, 0)
      ∧ (streaming []).live.map LiveFeed.booking = some 1
      ∧ s.engine.active.map (fun c => (c.mode, c.booking, c.counts.lost, c.feedDeadline)) = some (.hushed, 1, 1, none)
      ∧ s.planner.queue = [] ∧ s.engine.waiting = [] ∧ s.engine.stack = [] ∧ s.drive.hush = true ∧ s.store.loading = false
      ∧ s.live.map LiveFeed.queue = some [.rest 16, .rest 1000] ∧ (s.booking? 1).isSome = true
      ∧ t.engine.active.map (fun c => (c.originTick, c.originTime, c.feedDeadline))
        = some (56, 800000, some (800000 + 48 * (1250000 / 120)))
      ∧ (after (exec .hushRelease (silentFeed .opened []))).engine.active.map Context.originTick = some 40
      ∧ (after (exec .hushRelease (silentFeed .opened []))).live.map LiveFeed.idle = some ⟨300000, some 300000⟩
      ∧ (after (exec .hushRelease (silentFeed .closing [.rest 16]))).engine.active.isSome = true
      ∧ (after (exec .hushRelease (silentFeed .closing []))).engine.active = none
      ∧ (after (exec .hushRelease (silentFeed .stopped []))).engine.active = none := by decide +kernel

/-- R147: a HALT of the hushed feed. -/
theorem witness_live_hush_halt :
    let s := silentFeed .opened [.rest 16]
    let t (k : Byte) := after (exec (.halt .service [0, k]) s)
    s.takes .service 0x0A 2 = true ∧ s.engine.active.map (fun c => (c.mode, c.melodyKind, c.pendingHalt, c.rank))
        = some (.hushed, none, none, 1)
      ∧ (t 2).live.map (fun l => (l.mode, l.queue)) = some (.stopped, [])
      ∧ (t 3).live.map (fun l => (l.mode, l.queue, l.endsHalted)) = some (.closing, [.rest 16], true)
      ∧ (t 3).engine.active.map Context.pendingHalt = some (some .atEnd) := by decide +kernel

/-- The song with a header of `count` segments, its buffer holding these events, at a clock time. -/
def holding (count clock : Nat) (c : Context) (es : List Event) : State :=
  { withTime (fun t => { t with clock := clock })
      (playing.modMelody 3 fun m => { m with header := .known { song with shape := .score count } }) with
    engine := ⟨some c, [], []⟩, player := ⟨bufferOf c.pos.segment es, .reading (c.pos.segment + 1), none, none⟩ }

theorem witness_tempo_event :
    let s := holding 1 100000 context [.tempo 255 0, .rest 2000]
    500000 ≤ s.time.clock + 400000 ∧ s.planner.queue.length < 48
      ∧ s.time.clock + 400000 < 500000 + 2000 * (1250000 / max 20 (min 240 255)) := by decide +kernel

theorem witness_segment_change :
    let s := holding 2 100000 context [.rest 0]
    context.pos.segment + 1 < (s.melody 3).segmentCount ∧ s.player.next = .reading (context.pos.segment + 1)
      ∧ s.store.reads.length < 8 := by decide +kernel

/-- With repeats left a 16-tick score of one segment begins again at its own end. -/
theorem witness_repetition :
    let s := holding 1 270000 { context with repeats := 2 } [.rest 16]
    let due := 500000 + 16 * (1250000 / 120)
    (s.melody 3).segmentCount = 1 ∧ due ≤ s.time.clock + 400000
      ∧ s.time.clock + 400000 < due + 16 * (1250000 / 120)
      ∧ (after (exec .planningHorizonReached s)).engine.active.map (fun c => (c.repeatNo, c.repStart)) = some (2, 16) := by
  decide +kernel

theorem witness_score_end :
    let s := holding 1 100000 context [.rest 0]
    (s.melody 3).segmentCount ≤ context.pos.segment + 1 ∧ context.repeats ≤ context.repeatNo
      ∧ s.planner.queue = [] ∧ (s.booking? 1).isSome = true
      ∧ (after (exec .planningHorizonReached s)).engine = ⟨none, [], []⟩
      ∧ (queued [own] s).planner.queue = [own] := by decide +kernel

/-- A score of two segments whose second is being read: AT_END lets go of an early read of segment 0. -/
theorem witness_halt_at_end :
    let c : Context := { context with pos := ⟨1, 0, 0, 0⟩ }
    let s := { holding 2 100000 c [] with player := ⟨.reading 1, .reading 0, none, none⟩ }
    (s.melody 3).segmentCount ≤ c.pos.segment + 1 ∧ 1 < (s.melody 3).segmentCount
      ∧ (after (exec (.halt .service [0, 3]) { s with player := ⟨.reading 1, .failed 0, none, none⟩ })).player.next
        = .failed 0
      ∧ s.takes .service 0x0A 2 = true ∧ c.rank ≤ s.privilege .service
      ∧ (queued [own] live).live.map LiveFeed.queue = some []
      ∧ (queued [own] live).takes .service 0x0A 2 = true
      ∧ live.engine.active.map Context.booking = some 1
      ∧ (queued [own] tolling).takes .service 0x0A 2 = true := by decide +kernel

/-- R96: the position past the last toll of the repetition, and one that is not. -/
theorem witness_toll_at_end :
    let s (number : Nat) : State := { withTime (fun t => { t with clock := 99999 }) tolling with
      engine := { tolling.engine with active := tolling.engine.active.map fun c => { c with pos := { c.pos with number := number } } } }
    (s 1).time.clock + 400000 < 500000 + (1 - 1) * (2000 * 1000) ∧ 1 ≤ 2 * 1 ∧ 2 * 1 < 3
      ∧ (s 1).takes .service 0x0A 2 = true ∧ (s 1).engine.active.map (fun c => (c.tollCount, c.repeatNo, c.pendingHalt))
        = some (2, 1, none)
      ∧ (s 3).planner.queue = [] ∧ (s 3).engine.stack = [] ∧ ((s 3).booking? 1).isSome = true
      ∧ (after (exec (.halt .service [0, 3]) (s 3))).engine = ⟨none, [], []⟩ := by decide +kernel

/-! ## Performances that rest -/

/-- A SCORE at play whose next event is held back rests. -/
theorem score_rests {s : State} {c : Context} (h : s.engine.active = some c)
    (hs : c.melodyKind = some .score) (hd : s.player.done = none)
    (hp : s.player.stopPoint ≠ some (c.repeatNo, c.pos.segment, c.pos.event)) {g : Segment}
    {e : Event} (hc : s.player.cur = .held g) (he : g.events[c.pos.event]? = some e)
    (hb : s.heldBack (c.originTime + (c.pos.tick + e.delta - c.originTick) * (1250000 / c.tempoNow))) : s.rests := by
  intro d hx _
  cases h.symm.trans hx
  refine ⟨fun _ h => absurd hd h, fun _ _ => ⟨hp, fun n h => ?_, fun g' e' h h' => ?_⟩, fun h => ?_, fun h => ?_⟩
  · simp [hc] at h
  · obtain rfl : g = g' := by simpa [hc] using h
    cases he.symm.trans h'
    exact hb
  · simp [hs] at h
  · simp [hs] at h

/-- So does a live performance that is not at its end. -/
theorem live_rests {s : State} {c : Context} {l : LiveFeed} (h : s.engine.active = some c) (hk : c.melodyKind = none)
    (hl : s.live = some l) (hm : l.mode = .opened ∨ (l.mode = .closing ∧ l.queue ≠ []) ∨ ¬ s.ownsNothing c.booking)
    (hb : l.mode ≠ .stopped → ∀ e, l.queue.head? = some e →
      s.heldBack (c.originTime + (c.pos.tick + e.delta - c.originTick) * (1250000 / c.tempoNow))) : s.rests := by
  intro d hx _
  cases h.symm.trans hx
  refine ⟨fun h => absurd hk h, fun h => ?_, fun h => ?_, fun _ l' h => ?_⟩
  · simp [hk] at h
  · simp [hk] at h
  · cases hl.symm.trans h
    exact ⟨hm, hb⟩

/-- The song at time 0, its first segment held, its first note 100,000 µs beyond the horizon. -/
def waitingScore : State := { playing with player := ⟨bufferOf 0 events, .free, none, none⟩ }

theorem witness_score_rests : waitingScore.rests :=
  score_rests (c := context) (g := ⟨3, 0, 0, 2, 0, events⟩) (e := .note 60 20 0) (by decide +kernel) (by decide +kernel)
    rfl nofun rfl (by decide +kernel) (.inl (by decide +kernel))

/-- What an AT_PHRASE, and what an AT_END, leaves of it rests too. -/
theorem witness_halted_score_rests :
    let stored (h : PendingHalt) : State := { waitingScore.answered .service 0x0A .done [] with
      engine := { waitingScore.engine with active := some { context with pendingHalt := some h } }
      player := { waitingScore.player with stopPoint := waitingScore.stopFromHere context 3 } }
    (stored .atPhrase).rests ∧ (stored .atEnd).rests := by
  refine ⟨score_rests rfl (g := ⟨3, 0, 0, 2, 0, events⟩) (e := .note 60 20 0) ?_ rfl ?_ rfl ?_ (.inl ?_),
    score_rests rfl (g := ⟨3, 0, 0, 2, 0, events⟩) (e := .note 60 20 0) ?_ rfl ?_ rfl ?_ (.inl ?_)⟩ <;> decide +kernel

/-- R90: a held score takes the halt; a second one that acts no sooner changes nothing. -/
theorem test_halt_held :
    let t (k : Byte) (s : State) := after (exec (.halt .service [1, k]) s)
    waitingScore.takes .service 0x0A 2 = true
      ∧ (t 2 waitingScore).player = ⟨bufferOf 0 events, .free, none, none⟩
      ∧ (t 2 waitingScore).engine.active = some { context with pendingHalt := some .atPhrase }
      ∧ (t 3 waitingScore).engine.active = some { context with pendingHalt := some .atEnd, lastRepeat := 1 } := by
  decide +kernel

/-- R90: at its mark, with a strike of its own left, a held score stops; with planning done already, the halt is
stored. AT_PHRASE after AT_END goes on to the next repetition of two (log 58). -/
theorem test_halt_at_the_mark :
    let c : Context := { context with pos := ⟨0, 2, 2000, 0⟩ }
    let s : State := { queued [own] marked with
      engine := ⟨some c, [], []⟩, player := ⟨bufferOf 0 (events ++ [.phrase 4]), .free, none, none⟩ }
    let finished : State := { s with player := ⟨.free, .free, none, some .complete⟩ }
    let t := after (exec (.halt .service [0, 2]) s)
    s.takes .service 0x0A 2 = true ∧ s.stopFromHere c 3 = some (1, 0, 2)
      ∧ t.player = ⟨.free, .free, some (1, 0, 2), some .complete⟩ ∧ t.engine.active.isSome = true
      ∧ finished.player.done = some .complete ∧ finished.planner.queue = [own] ∧ own.owner = .booking c.booking
      ∧ (after (exec (.halt .service [0, 3]) finished)).engine.active.map Context.pendingHalt = some (some .atEnd)
      ∧ playing.stopFromHere { context with repeats := 2, pendingHalt := some .atEnd } 3 = some (2, 0, 0) := by
  decide +kernel

theorem witness_halts_only : playing.haltsOnly .active context ∧ playing.haltsOnly .all context
    ∧ (stacked [2]).haltsOnly (.booking 1) context :=
  ⟨.inl rfl, .inr (.inl (by decide +kernel)), .inr (.inr ⟨rfl, by decide +kernel⟩)⟩

/-- R64: the three ways a target names nothing; a booking that waits has no context. -/
theorem witness_halt_no_such : parseHalt [255, 2] = some (.all, .atPhrase) ∧ idle.engine.active = none
    ∧ idle.engine.stack = [] ∧ parseHalt [2, 1] = some (.booking 2, .now) ∧ behind.engine.waiting = [2]
    ∧ (∀ x ∈ behind.engine.active.toList ++ behind.engine.stack, x.booking ≠ 2)
    ∧ behind.takes .service 0x0A 2 = true
    ∧ [[0, 1], [255, 2], [96, 3]].map (fun body => ((after (exec (.halt .service body) idle)).port .service).ready.map Answer.code)
      = [[.noSuch], [.noSuch], [.noSuch]]
    ∧ ((after (exec (.halt .service [2, 1]) behind)).port .service).ready.map Answer.code = [.noSuch] := by
  decide +kernel

/-- ALL under HUSH is stored with every context. -/
theorem witness_halt_all_later :
    let s : State := { stacked [2, 3] with
      engine := { (stacked [2, 3]).engine with active := some { context with mode := .hushed } } }
    s.takes .service 0x0A 2 = true ∧ parseHalt [255, 3] = some (.all, .atEnd)
      ∧ (∀ x ∈ s.engine.active.toList ++ s.engine.stack, x.rank ≤ s.privilege .service)
      ∧ ((after (exec (.halt .service [255, 3]) s)).engine.active.map Context.pendingHalt) = some (some .atEnd)
      ∧ (after (exec (.halt .service [255, 3]) s)).engine.stack.map Context.pendingHalt = [some .atEnd, some .atEnd] := by
  decide +kernel

/-- The live performance's context as it plays. -/
def liveContext : Context :=
  { live.newContext 1 (.freshImmediate liveRecord live.time) with feedDeadline := some 999968 }

/-- Its feed. -/
def liveFeed (es : List Event) : LiveFeed := ⟨1, es, .opened, false, 0, ⟨0, some 0⟩⟩

/-- Its head event lies beyond the horizon, and its strikes fill the queue or it has one left. -/
theorem witness_live_rests : (streaming [.rest 1000]).rests ∧ (streaming []).rests
    ∧ State.rests { streaming [.rest 0] with
      planner := { live.planner with queue := List.replicate 48 own } } := by
  refine ⟨?_, ?_, ?_⟩
  · exact live_rests (c := liveContext) (l := liveFeed [.rest 1000]) (by decide +kernel) rfl (by decide +kernel)
      (.inl rfl) fun _ e he => .inl (by cases he; decide +kernel)
  · exact live_rests (c := liveContext) (l := liveFeed []) (by decide +kernel) rfl (by decide +kernel)
      (.inl rfl) fun _ e he => by cases he
  · exact live_rests (c := liveContext) (l := liveFeed [.rest 0]) (by decide +kernel) rfl (by decide +kernel)
      (.inl rfl) fun _ e he => .inr (by decide +kernel)

/-- R141, R145: notes to an empty queue end its idle time; one within the horizon is taken at once, the answer
telling the level before. R143: a close with nothing left ends the performance PLAYED. -/
theorem test_live_at_play :
    let notes (d : Byte) : List Byte := [1, 2, 0, d, 0]
    let t (d : Byte) := after (exec (.liveNotes .service (notes d)) (streaming []))
    let u := after (exec (.liveClose .service []) (streaming []))
    (streaming []).takes .service 0x0D 5 = true ∧ (streaming []).takes .service 0x0E 0 = true
      ∧ parseLiveNotes (notes 4) = some [.rest 1024]
      ∧ (t 4).live.map (fun l => (l.queue, l.idle)) = some ([.rest 1024], ⟨0, none⟩)
      ∧ (t 0).live.map LiveFeed.queue = some [] ∧ ((t 0).port .service).ready.map (·.body.take 2) = [[1, 1]]
      ∧ (streaming []).planner.queue = [] ∧ ((streaming []).booking? 1).map (·.record.kind) = some .live
      ∧ (streaming []).engine.stack = [] ∧ u.engine = ⟨none, [], []⟩ ∧ u.live = none
      ∧ u.book.orphans.map (·.outcome.kind) = [.played]
      ∧ (after (exec (.liveClose .service []) (streaming [.rest 1000]))).live.map LiveFeed.mode = some .closing
      ∧ (after (exec (.halt .service [0, 3]) (streaming [.rest 1000]))).live.map LiveFeed.mode = some .closing
      ∧ (after (exec (.halt .service [0, 3]) (streaming []))).book.orphans.map (·.outcome.kind) = [.halted] := by
  decide +kernel

/-- R67, R147: AT_END on a feed that LIVE CLOSE has closed makes the outcome HALTED; without it the feed ends PLAYED. -/
theorem test_at_end_after_live_close :
    let closed := after (exec (.liveClose .service []) (queued [own] (streaming [])))
    let halted := after (exec (.halt .service [0, 3]) { closed with links := live.links })
    let outcome (s : State) := (after (exec .planningHorizonReached { s with
      planner := { s.planner with queue := [] } })).book.orphans.map (·.outcome.kind)
    let hushed := after (exec (.halt .service [0, 3]) (silentFeed .closing [.rest 16]))
    closed.live.map (fun l => (l.mode, l.endsHalted)) = some (.closing, false)
      ∧ halted.live.map (fun l => (l.mode, l.endsHalted)) = some (.closing, true)
      ∧ outcome closed = [.played] ∧ outcome halted = [.halted]
      ∧ hushed.live.map (fun l => (l.mode, l.queue, l.endsHalted)) = some (.closing, [.rest 16], true) := by
  decide +kernel

/-- A hushed performance rests. -/
theorem witness_hushed_rests : (silentFeed .opened [.rest 16]).rests := fun c h hm => by
  have hh : (silentFeed .opened [.rest 16]).engine.active.map Context.mode = some .hushed := by decide +kernel
  simp [h, hm] at hh

/-- R130 while a live performance is at play: without the entry that goes it rests. -/
theorem witness_live_overdue :
    let s := queued [own] (streaming [.rest 1000])
    State.rests { s with planner := { s.planner with queue := s.planner.queue.filter (· ≠ own) } } :=
  live_rests (c := liveContext) (l := liveFeed [.rest 1000]) (by decide +kernel)
    (by decide +kernel) (by decide +kernel) (.inl rfl) fun _ e he => .inl (by cases he; decide +kernel)

/-! ## Strikes while a performance is at play (R110, R113, R114, R128, R129) -/

/-- A strike of booking 1. -/
def ownAt (b fire : Nat) : StrikeEntry := { entryAt b fire with owner := .booking 1 }

/-- The live performance at play at 300,000, its next event beyond the horizon. -/
def atPlay (es : List StrikeEntry) : State := queued es (streaming [.rest 1000])

/-- It rests, whatever is planned. -/
theorem at_play_rests (es : List StrikeEntry) : (atPlay es).rests :=
  live_rests (c := liveContext) (l := liveFeed [.rest 1000])
    (show (streaming [.rest 1000]).engine.active = _ by decide +kernel) rfl
    (show (streaming [.rest 1000]).live = _ by decide +kernel) (.inl rfl)
    fun _ e he => .inl (by cases he; show (300000 + 400000 < 500000 + (0 + 1000 - 0) * (1250000 / 120)); decide)

/-- Fired, late and lost strikes of the active performance. -/
def chargesOf (s : State) : Option (Nat × Nat × Nat) :=
  s.engine.active.map fun c => (c.counts.fired, c.counts.late, c.counts.lost)

/-- A bell that is not READY and a strike still to come are passed over; the strike between them fires 20,001 µs
late, and its cycle values are those of this fire. -/
theorem witness_fires_at_play :
    let s := (atPlay [entryAt 0 270000, ownAt 1 279999, entryAt 2 900000]).modBell 0 fun b => { b with state := .returning }
    let t := after (exec .fireTimeReached s)
    s.planner.queue = [entryAt 0 270000] ++ ownAt 1 279999 :: [entryAt 2 900000]
      ∧ (∀ x ∈ [entryAt 0 270000], s.eligible x = false) ∧ s.eligible (ownAt 1 279999) = true ∧ 0 < s.drive.freeSlots
      ∧ t.planner.queue = [entryAt 0 270000, entryAt 2 900000] ∧ chargesOf t = some (1, 1, 0)
      ∧ t.bell 1 = { bell with
          state := .driven, strikes := 1, cycle := some ⟨300000, 3266, 200, 150, true, false, none⟩ }
      ∧ t.drive.energised = 1 ∧ t.lastFire 1 = some 300000 ∧ t.busyUntil 1 = some 500000 := by decide +kernel

/-- R110, R129: 20,000 µs are not late, and a test strike is charged to nothing. Then nothing can fire. -/
theorem test_fires_at_play :
    let t (e : StrikeEntry) := after (exec .fireTimeReached (atPlay [e]))
    chargesOf (t (ownAt 1 280000)) = some (1, 0, 0) ∧ chargesOf (t (entryAt 1 100000)) = some (0, 0, 0)
      ∧ (t (entryAt 1 100000)).planner.queue = [] ∧ (∀ e ∈ (atPlay [ownAt 1 300001]).planner.queue,
        (atPlay [ownAt 1 300001]).eligible e = false) := by decide +kernel

/-- R105: a restrike bound later than the fire plus H stands. -/
theorem test_bound_after_fire :
    let s := atPlay [ownAt 1 300000]
    (after (exec .fireTimeReached { s with
      planner := { s.planner with busyUntil := s.planner.busyUntil.set 1 (some 600000) } })).busyUntil 1 = some 600000 := by
  decide +kernel

/-- What makes the arbiter re-evaluate with a strike of bell 1 waiting: its bell READY, a slot freed, HUSH released,
DRIVE READY high, the bank out of CRITICAL, a new record, a higher K. -/
theorem witness_arbiter_wakes :
    let s := atPlay [ownAt 1 290000]
    let bell1 (st : BellState) (c : Cycle) := s.modBell 1 fun b => { b with state := st, cycle := some c }
    let oneSlot := withDrive (fun d => { d with k := 1, energised := 1, measurement := 200 }) s
    let driving (c : Cycle) := oneSlot.modBell 0 fun b => { b with state := .driven, cycle := some c }
    let job (j : StoreJob) (s : State) := withStore (fun st => { st with state := .programming, op := some ⟨j, .main, true⟩ }) s
    let fires (i : Instr) (s : State) : Bool :=
      let t := after (exec i s)
      (s.bell 1).state != .driven && (t.bell 1).state == .driven && t.planner.queue == [] && chargesOf t == some (1, 0, 0)
    fires (.sensorCloses 1) (bell1 .returning ⟨100000, 3000, 200, 150, true, true, some 400000⟩) = true
      ∧ fires (.recoveryTime 1) (bell1 .recovering ⟨100000, 3000, 200, 150, true, true, none⟩) = true
      ∧ fires (.pulseEnd 0) (driving ⟨297000, 3000, 200, 150, true, true, none⟩) = true
      ∧ fires (.pulseEnd 0) (driving ⟨297000, 3000, 200, 150, true, false, none⟩) = true
      ∧ fires (.pulseEnd 0) (driving ⟨90000, 3000, 200, 150, false, false, none⟩) = true
      ∧ (s.modBell 1 fun b => { b with state := .faulted }).takes .service 0x16 1 = true
      ∧ fires (.restoreBell .service [1]) (s.modBell 1 fun b => { b with state := .faulted }) = true
      ∧ fires .driveReadyRise (withDrive (fun d => { d with ready := false }) s) = true
      ∧ fires (.bankMeasurement 128) (withDrive (fun d => { d with level := .critical }) s) = true
      ∧ fires (.storeCompletion .verified) (job (.setBell 0 { steel with present := false })
        (driving ⟨297000, 3000, 200, 150, true, true, none⟩)) = true
      ∧ fires (.storeCompletion .verified) (job (.setDrive ⟨2, 160, 120⟩) oneSlot) = true := by decide +kernel

/-- HUSH is released over a hushed performance, or none, with a test strike waiting; and DRIVE READY rises. -/
theorem witness_test_strike_waits :
    let strike (s : State) : State := { s with planner := { s.planner with queue := [entryAt 1 290000] } }
    let fired (i : Instr) (s : State) : Bool := ((after (exec i s)).bell 1).state == .driven
    let silent := strike (silentFeed .opened [.rest 16])
    let waiting := withDrive (fun d => { d with hush := true, ready := true }) unpowered
    fired .hushRelease (queued [entryAt 1 290000] hushed) = true ∧ hushed.engineIdle = true
      ∧ silent.engine.active.map Context.booking = some 1 ∧ (∀ e ∈ silent.planner.queue, e.owner ≠ .booking 1)
      ∧ fired .hushRelease silent = true ∧ fired .hushRelease (strike (silentFeed .closing [])) = true
      ∧ fired .hushRelease (queued [entryAt 1 290000] silenced) = true
      ∧ waiting.engine = ⟨none, [], [1]⟩ ∧ fired .hushRelease (queued [entryAt 1 290000] waiting) = true
      ∧ (after (exec .hushRelease waiting)).engine.active.map Context.booking = some 1
      ∧ fired .driveReadyRise (queued [entryAt 1 290000] unpowered) = true
      ∧ (queued [entryAt 1 290000] (withDrive (fun d => { d with ready := false }) hushed)).drive.hush = true := by
  decide +kernel

/-- R113: the strikes of a bell that is faulted, or takes a new record, are lost to the performance at play. -/
theorem witness_bell_cleared :
    let s := atPlay [ownAt 0 900000, ownAt 1 900001, ownAt 0 990000, entryAt 0 999000]
    let faulting (st : BellState) (c : Cycle) := s.modBell 0 fun b => { b with state := st, cycle := some c }
    let working := withStore (fun st => { st with state := .programming, op := some ⟨.setBell 0 steel, .main, true⟩ }) s
    let cleared (t : State) : Bool := t.planner.queue == [ownAt 1 900001] && chargesOf t == some (0, 0, 2)
    cleared (after (exec (.returnLimit 0) (faulting .returning ⟨0, 3000, 200, 150, true, true, some 153000⟩))) = true
      ∧ cleared (after (exec (.pulseEnd 0) (faulting .driven ⟨297000, 3000, 200, 150, true, false, none⟩))) = true
      ∧ cleared (after (exec (.storeCompletion .verified) working)) = true
      ∧ working.links.resetPending = false ∧ working.store.suspending = false := by decide +kernel

/-- What a RETURN LIMIT leaves rests. -/
theorem witness_return_limit_rests :
    (((atPlay [ownAt 0 900000]).modBell 0 fun x => { x with
      state := .faulted, lastFault := some .noReturn, cycle := none
      wentOut := (atPlay [ownAt 0 900000]).goneMark x }).bellCleared 0 |>.raise .bell).rests :=
  live_rests (c := { liveContext with counts := ⟨0, 0, 1, 0⟩ }) (l := liveFeed [.rest 1000]) (by decide +kernel)
    (by decide +kernel) (by decide +kernel) (.inl rfl) fun _ e he => .inl (by cases he; decide +kernel)

/-- R100, stage 2: a pulse end that faults its bell finds room in the queue, or a full queue and nothing to fire. -/
theorem witness_pulse_end_mark :
    let s (n : Nat) := (atPlay (List.replicate n (entryAt 1 900000))).modBell 0 fun b =>
      { b with state := .driven, cycle := some ⟨297000, 3000, 200, 150, true, false, none⟩ }
    let mark (n : Nat) := ((after (exec (.pulseEnd 0) (s n))).bell 0).wentOut
    (s 48).planner.queue.length = 48 ∧ (s 48).planner.testFilled ≠ some (s 48).time.clock
      ∧ (∀ e ∈ (s 48).planner.queue, (s 48).coilFreed.eligible e = false)
      ∧ mark 48 = none ∧ mark 47 = some (300000, 60) := by decide +kernel

/-- A bell coming back early, and a measurement that leaves the arbiter closed, leave a performance that rests. -/
theorem witness_hammer_at_play :
    (((atPlay [ownAt 0 310000]).modBell 0 fun x =>
      { x with sensorOpen := false, state := .recovering, cycle := some ⟨150000, 3000, 200, 150, true, true, none⟩ }).rests)
      ∧ (({ atPlay [ownAt 0 310000] with drive := { (atPlay []).drive with measurement := 130, level := .low } }
        : State).raiseIf true .drive).rests :=
  ⟨at_play_rests [ownAt 0 310000], at_play_rests [ownAt 0 310000]⟩

/-- No booking waits, or the one that waits does not outrank the performance, or HUSH holds it. -/
theorem witness_all_wait : (atPlay []).allWait ∧ behind.allWait
    ∧ (withDrive (fun d => { d with hush := true }) behind).allWait :=
  ⟨.inr (.inr (.inl (by decide +kernel))),
    .inr (.inr (.inr ⟨context, by decide +kernel, by decide +kernel⟩)), .inl rfl⟩

/-- A note reached too late for its fire time is fired at once (R107, R108). -/
theorem witness_note_at_once :
    let s := withTime (fun t => { t with clock := 440000 }) held
    let made := s.entryMade ⟨.booking 1, some 0, false, 500000, 20, 16, some ⟨1, 0, 0, 0, 0⟩⟩
    let t := after (exec .planningHorizonReached s)
    made.map StrikeEntry.fireTime = some 440000 ∧ 500000 ≤ s.time.clock + 400000
      ∧ s.time.clock + 400000 < 500000 + 2000 * (1250000 / 120)
      ∧ (t.bell 0).state = .driven ∧ t.planner.queue = [] ∧ chargesOf t = some (1, 0, 0)
      ∧ chargesOf (after (exec .planningHorizonReached (withTime (fun t => { t with clock := 450000 }) tolling)))
        = some (1, 0, 0)
      ∧ chargesOf (after (exec .planningHorizonReached
        (withTime (fun t => { t with clock := 450000 }) (streaming [.note 60 20 0, .rest 1000])))) = some (1, 0, 0) := by
  decide +kernel

/-- The song's first note as it is planned at 100,000 (hand calculation by R79, R103). -/
def firstStrike : StrikeEntry :=
  ⟨0, .booking 1, some ⟨1, 0, 0, 0, 0⟩, 500000, 61000, 439000, 0, false, 20, 3266⟩

theorem witness_horizon : held.engine.active = some context ∧ context.melody = some 3
    ∧ held.player = ⟨bufferOf 0 events, .free, none, none⟩ ∧ events[context.pos.event]? = some (.note 60 20 0)
    ∧ events[context.pos.event + 1]? = some (.rest 2000)
    ∧ context.originTime + (0 + 0 - context.originTick) * (1250000 / context.tempoNow) ≤ held.time.clock + 400000
    ∧ held.time.clock + 400000 < context.originTime + (0 + 2000 - context.originTick) * (1250000 / context.tempoNow)
    ∧ held.planner.queue.length < 48
    ∧ held.mapPitch ((60 : Int) + context.transposition) context.substitution = (some 0, false)
    ∧ (held.bell 0).state ≠ .off
    ∧ planEntry (held.bell 0).record held.drive.level (held.busyUntil 0) held.time.clock 0
        ⟨.booking context.booking, some 0, false, 500000, 20, context.volume, some ⟨1, 0, 0, 0, 0⟩⟩ = some firstStrike
    ∧ held.time.clock < firstStrike.fireTime := by decide +kernel

/-- The song's buffer holds other events. -/
def holds (es : List Event) : State := { held with player := ⟨bufferOf 0 es, .free, none, none⟩ }

/-- A note of a pitch no bell has is lost, one of its octave is a substitute, a silent one and a PHRASE pass. -/
theorem witness_notes_lost :
    held.mapPitch 62 false = (none, false) ∧ held.mapPitch 72 true = (some 0, true)
      ∧ (held.entryMade ⟨.booking 1, none, false, 500000, 20, 16, some ⟨1, 0, 0, 0, 0⟩⟩).isNone = true
      ∧ (held.entryMade ⟨.booking 1, some 0, true, 500000, 20, 16, some ⟨1, 0, 0, 0, 0⟩⟩).isSome = true
      ∧ ((after (exec .planningHorizonReached (holds [.note 62 20 0, .rest 2000]))).engine.active.map
        fun c => (c.counts.lost, c.pos.event)) = some (1, 1)
      ∧ ((after (exec .planningHorizonReached (holds [.phrase 0, .rest 2000]))).engine.active.map
        fun c => (c.counts.lost, c.pos.event)) = some (0, 1) := by decide +kernel

/-- R91, R92: the lowest bell of the pitch, one that is not FAULTED, the octave above before the one below. -/
theorem test_pitch_map :
    let s : State := withDrive (fun d => { d with bells := [60, 60, 72, 127, 48].map fun p =>
      { bell with record := { steel with pitch := p } } }) idle
    let faulty := withBell (fun b => { b with state := .faulted }) s
    let absent := withBell (fun b => { b with record := { steel with present := false }, state := .off }) s
    s.mapPitch 60 false = (some 0, false) ∧ faulty.mapPitch 60 false = (some 1, false)
      ∧ absent.mapPitch 60 true = (some 1, false) ∧ s.mapPitch 84 true = (some 2, true)
      ∧ s.mapPitch 36 true = (some 4, true) ∧ s.mapPitch 36 false = (none, false)
      ∧ s.mapPitch 139 true = (some 3, true) ∧ s.mapPitch 127 true = (some 3, false)
      ∧ s.mapPitch (-12) true = (none, false) ∧ s.mapPitch 61 true = (none, false) := by decide +kernel

/-- R92, R100, stage 2: a note is lost on a bell that is faulted, or made OFF, first at the very instant the note is
reached; reached later, or freed from a full queue by the fault itself, it finds another bell of its pitch. -/
theorem test_note_at_the_instant_of_a_fault :
    let returning (clock : Nat) := withBell (fun b => { b with
      state := .returning, cycle := some ⟨0, 3000, 50, 80, true, true, some 83000⟩ })
      (withTime (fun t => { t with clock := clock }) held)
    let hit := after (exec (.returnLimit 0) (returning 100000))
    let later := after (exec .planningHorizonReached
      (withTime (fun t => { t with clock := 100000 }) (after (exec (.returnLimit 0) (returning 90000)))))
    let madeOff := after (exec (.storeCompletion .verified) (withStore (fun st => { st with
      state := .programming, op := some ⟨.setBell 0 { steel with present := false }, .main, true⟩ }) held))
    let freed := after (exec (.returnLimit 0) { returning 100000 with planner := { held.planner with
      queue := List.replicate 47 (entryAt 2 900000) ++ [entryAt 0 900000] } })
    (chargesOf hit = some (0, 0, 1) ∧ hit.planner.queue = [] ∧ (hit.bell 0).wentOut = some (100000, 60))
      ∧ (chargesOf later = some (0, 0, 0) ∧ later.planner.queue.map StrikeEntry.bell = [1])
      ∧ (chargesOf madeOff = some (0, 0, 1) ∧ madeOff.planner.queue = [] ∧ (madeOff.bell 0).state = .off)
      ∧ (chargesOf freed = some (0, 0, 0) ∧ freed.planner.queue.head?.map StrikeEntry.bell = some 1) := by
  decide +kernel

/-- R83, R100: a full queue stalls the note, but not at the instant a test hand-over filled it. -/
theorem witness_full_queue :
    let full (mark : Option Nat) : State := { held with
      planner := { held.planner with queue := List.replicate 48 (entryAt 1 900000), testFilled := mark } }
    (full none).planner.queue.length = 48 ∧ (full (some 100000)).time.clock = 100000
      ∧ ((after (exec .planningHorizonReached (full none))).engine.active.map (·.counts.lost)) = some 0
      ∧ ((after (exec .planningHorizonReached (full (some 100000)))).engine.active.map (·.counts.lost)) = some 1 := by
  decide +kernel

theorem witness_stop_and_damage :
    let stopped : State := { held with
      engine := { held.engine with active := some { context with pendingHalt := some .atPhrase } }
      player := { held.player with stopPoint := some (1, 0, 0) } }
    stopped.player.stopPoint = some (context.repeatNo, context.pos.segment, context.pos.event)
      ∧ stopped.planner.queue = [] ∧ stopped.engine.stack = [] ∧ (stopped.booking? 1).isSome = true
      ∧ (after (exec .planningHorizonReached stopped)).engine = ⟨none, [], []⟩
      ∧ (after (exec .planningHorizonReached { held with player := ⟨.failed 0, .free, none, none⟩ })).engine
        = ⟨none, [], []⟩
      ∧ ((queued [own] stopped).planner.queue.any (·.ownedBy 1)) = true
      ∧ (after (exec .planningHorizonReached (queued [own] { holding 2 100000 context [.rest 0] with
        player := ⟨bufferOf 0 [.rest 0], .failed 1, some (1, 1, 0), none⟩ }))).player.done = some .damaged
      ∧ ({ holding 2 100000 context [.rest 0] with player := ⟨bufferOf 0 [.rest 0], .failed 1, none, none⟩ }).player.next
        = .failed 1 := by decide +kernel

/-- The note is then in the queue, and nothing more is planned. -/
theorem test_horizon : (after (exec .planningHorizonReached held)).planner.queue = [firstStrike] := by decide +kernel

/-! ## Notices -/

theorem witness_notices : idle.takes .main 0x1C 0 = true ∧ idle.takes .main 0x1D 7 = true
    ∧ parseMask [1, 0, 0, 0, 0, 0, 1] = some ⟨true, false, false, false, false, false, true⟩
    ∧ parseMask [2, 0, 0, 0, 0, 0, 1] = none := by decide +kernel

end Sys2Proof.Tests
end

section
/-! PROOFS. What the performance side leaves of the tables: the relation `Tidy` beside `Kept`. The booking table
keeps its length, the preemption stack, the waiting list and the read queue stay within their bounds, and a
notice once raised stays raised (R17, R50, R51, R170, R188). -/

namespace Sys2Proof.Machine

/-- R51: booking numbers of slots, each once. -/
def waitingSound (w : List Nat) : Prop := w.Nodup ∧ ∀ n ∈ w, 1 ≤ n ∧ n ≤ Config.bookingSlots

/-- What every operation of the performance side keeps of the tables and the notices. -/
structure Tidy (s t : State) : Prop where
  slots : t.book.slots.length = s.book.slots.length
  stack : s.engine.stack.length ≤ Config.stackMax → t.engine.stack.length ≤ Config.stackMax
  waiting : s.book.slots.length = Config.bookingSlots → waitingSound s.engine.waiting →
    waitingSound t.engine.waiting
  reads : s.store.reads.length ≤ Config.readQueueMax → t.store.reads.length ≤ Config.readQueueMax
  flags : ∀ k, s.notices.flags.get k = true → t.notices.flags.get k = true

/-- Doing nothing keeps everything. -/
theorem Tidy.refl (s : State) : Tidy s s := ⟨rfl, id, fun _ => id, id, fun _ => id⟩

/-- One operation after another. -/
theorem Tidy.trans {s t u : State} (h : Tidy s t) (g : Tidy t u) : Tidy s u where
  slots := g.slots.trans h.slots
  stack := fun x => g.stack (h.stack x)
  waiting := fun hs x => g.waiting (h.slots.trans hs) (h.waiting hs x)
  reads := fun x => g.reads (h.reads x)
  flags := fun k x => g.flags k (h.flags k x)

/-- A fold of operations that keep everything keeps everything. -/
theorem Tidy.foldl {α : Type} (f : State → α → State) (h : ∀ s a, Tidy s (f s a)) (l : List α) :
    ∀ s, Tidy s (l.foldl f s) := by
  induction l with
  | nil => exact fun s => .refl s
  | cons a l ih => exact fun s => (h s a).trans (ih (f s a))

/-- Operations that leave the table's length, the stack, the waiting list and the notices alone. -/
theorem Tidy.ofSame {s t : State} (slots : t.book.slots.length = s.book.slots.length)
    (stack : t.engine.stack = s.engine.stack) (waiting : t.engine.waiting = s.engine.waiting)
    (reads : s.store.reads.length ≤ Config.readQueueMax → t.store.reads.length ≤ Config.readQueueMax)
    (notices : t.notices = s.notices) : Tidy s t where
  slots := slots
  stack := by rw [stack]; exact id
  waiting := by rw [waiting]; exact fun _ => id
  reads := reads
  flags := by rw [notices]; exact fun _ => id

/-! ## Notices and slots -/

/-- R188: what a raise does to each flag. -/
@[simp] theorem get_set (f : NoticeBits) (n k : Notice) : (f.set n).get k = (decide (n = k) || f.get k) := by
  cases n <;> cases k <;> rfl

theorem raise_tidy (n : Notice) (s : State) : Tidy s (s.raise n) :=
  ⟨rfl, id, fun _ => id, id, fun k h => by simp [State.raise, h]⟩

theorem raiseIf_tidy (c : Bool) (n : Notice) (s : State) : Tidy s (s.raiseIf c n) := by
  unfold State.raiseIf; split
  · exact raise_tidy n s
  · exact .refl s

/-- R17: an occupied slot has a number of the table. -/
theorem booking?_range {s : State} {n : Nat} {b : Booking} (h : s.booking? n = some b) :
    1 ≤ n ∧ n ≤ s.book.slots.length := by
  cases n with
  | zero => cases h
  | succ n =>
    have hn : n < s.book.slots.length := by
      by_contra hn
      simp [State.booking?, Book.booking?, List.getElem?_eq_none (Nat.le_of_not_lt hn)] at h
    omega

/-- R17: the lowest free slot has a number of the table. -/
theorem lowestFree_range {b : Book} {n : Nat} (h : b.lowestFree = some n) : 1 ≤ n ∧ n ≤ b.slots.length := by
  obtain ⟨i, hi, rfl⟩ := Option.map_eq_some_iff.1 h
  have := (List.findIdx?_eq_some_iff_findIdx_eq.1 hi).1
  omega

theorem setSlot_tidy (n : Nat) (v : Slot) (s : State) : Tidy s (s.setSlot n v) :=
  .ofSame (by simp [State.setSlot, Book.setSlot]) rfl rfl id rfl

theorem setBooking_tidy (n : Nat) (b : Booking) (s : State) : Tidy s (s.setBooking n b) := setSlot_tidy n _ s

theorem setBookingState_tidy (n : Nat) (v : BookingState) (s : State) : Tidy s (s.setBookingState n v) := by
  unfold State.setBookingState; split
  · exact .refl s
  · exact setBooking_tidy _ _ s

/-! ## The waiting list (R51) -/

/-- R51: insertion puts the number among the others. -/
theorem insertWaiting_perm (s : State) (n : Nat) (l : List Nat) : (s.insertWaiting n l).Perm (n :: l) := by
  induction l with
  | nil => exact .refl _
  | cons x xs ih =>
    unfold State.insertWaiting
    split
    · exact .refl _
    · exact (ih.cons x).trans (.swap n x xs)

/-- R51: sorting keeps the numbers. -/
theorem sortWaiting_perm (s : State) : s.sortWaiting.engine.waiting.Perm s.engine.waiting := by
  suffices h : ∀ l : List Nat, (l.foldr s.insertWaiting []).Perm l from h _
  intro l
  induction l with
  | nil => exact .refl _
  | cons x xs ih => exact (insertWaiting_perm s x _).trans (ih.cons x)

/-- R51: who waits after a group joined. -/
theorem mem_joinWaiting {s : State} {ns : List Nat} {n : Nat} :
    n ∈ (s.joinWaiting ns).engine.waiting ↔ n ∈ s.engine.waiting ∨ n ∈ ns := by
  unfold State.joinWaiting
  rw [(sortWaiting_perm _).mem_iff]
  by_cases h : n ∈ s.engine.waiting <;> simp [h]

theorem waitingSound.perm {v w : List Nat} (h : v.Perm w) (hw : waitingSound w) : waitingSound v :=
  ⟨h.nodup_iff.2 hw.1, fun n hn => hw.2 n (h.mem_iff.1 hn)⟩

theorem waitingSound.sublist {v w : List Nat} (h : v.Sublist w) (hw : waitingSound w) : waitingSound v :=
  ⟨hw.1.sublist h, fun n hn => hw.2 n (h.subset hn)⟩

theorem waitingSound_singleton {n : Nat} (h : 1 ≤ n ∧ n ≤ Config.bookingSlots) : waitingSound [n] :=
  ⟨List.nodup_singleton n, fun m hm => by rw [List.mem_singleton.1 hm]; exact h⟩

/-- The numbers of the table. -/
theorem mem_slotNumbers {n : Nat} : n ∈ slotNumbers ↔ 1 ≤ n ∧ n ≤ Config.bookingSlots := by
  simp only [slotNumbers, List.mem_map, List.mem_range]
  constructor
  · rintro ⟨i, hi, rfl⟩
    omega
  · exact fun h => ⟨n - 1, by omega, by omega⟩

theorem slotNumbers_sound : waitingSound slotNumbers :=
  ⟨List.nodup_range.map fun _ _ h => Nat.succ.inj h, fun _ hn => mem_slotNumbers.1 hn⟩

/-- R51: distinct numbers of slots are no more than there are slots. -/
theorem waitingSound.length_le {w : List Nat} (hw : waitingSound w) : w.length ≤ Config.bookingSlots := by
  have h := (List.subperm_of_subset hw.1 fun n hn => mem_slotNumbers.2 (hw.2 n hn)).length_le
  simpa [slotNumbers] using h

theorem leaveWaiting_tidy (n : Nat) (s : State) : Tidy s (s.leaveWaiting n) :=
  ⟨rfl, id, fun _ h => h.sublist List.filter_sublist, id, fun _ => id⟩

theorem sortWaiting_tidy (s : State) : Tidy s s.sortWaiting :=
  ⟨rfl, id, fun _ h => h.perm (sortWaiting_perm s), id, fun _ => id⟩

/-- R51: a group of distinct slot numbers joins, each number once. -/
theorem joinWaiting_tidy (ns : List Nat) (s : State)
    (hn : s.book.slots.length = Config.bookingSlots → waitingSound ns) : Tidy s (s.joinWaiting ns) := by
  refine ⟨rfl, id, fun hs hw => ?_, id, fun _ => id⟩
  refine waitingSound.perm (sortWaiting_perm _) ⟨?_, fun n hm => ?_⟩
  · refine List.nodup_append.2 ⟨hw.1, (hn hs).1.filter _, fun a ha b hb hab => ?_⟩
    subst hab
    simp [ha] at hb
  · rcases List.mem_append.1 hm with h | h
    · exact hw.2 n h
    · exact (hn hs).2 n (List.mem_of_mem_filter h)

/-! ## Small operations -/

theorem modActive_tidy (f : Context → Context) (s : State) : Tidy s (s.modActive f) :=
  .ofSame rfl rfl rfl id rfl

theorem charge_tidy (o : Owner) (k : Charge) (s : State) : Tidy s (s.charge o k) := by
  cases o
  · exact modActive_tidy _ s
  · exact .refl s

theorem planningDone_tidy (d : PlanningDone) (s : State) : Tidy s (s.planningDone d) :=
  .ofSame rfl rfl rfl id rfl

theorem setBusy_tidy (b : Nat) (v : Option Nat) (s : State) : Tidy s (s.setBusy b v) :=
  .ofSame rfl rfl rfl id rfl

theorem recomputeBusy_tidy (b : Nat) (s : State) : Tidy s (s.recomputeBusy b) := setBusy_tidy _ _ s

theorem setTestFilled_tidy (v : Option Nat) (s : State) : Tidy s (s.setTestFilled v) :=
  .ofSame rfl rfl rfl id rfl

/-- A change of the player alone. -/
theorem player_tidy (p : Player) (s : State) : Tidy s { s with player := p } := .ofSame rfl rfl rfl id rfl

/-- A change of the planner alone. -/
theorem planner_tidy (p : Planner) (s : State) : Tidy s { s with planner := p } := .ofSame rfl rfl rfl id rfl

/-- A change of the live feed alone. -/
theorem live_tidy (l : Option LiveFeed) (s : State) : Tidy s { s with live := l } := .ofSame rfl rfl rfl id rfl

/-- A change of the active context alone. -/
theorem active_tidy (c : Option Context) (s : State) :
    Tidy s { s with engine := { s.engine with active := c } } := .ofSame rfl rfl rfl id rfl

/-! ## The read queue (R170) -/

theorem releaseReads_length (st : Store) (pick : Nat → Bool) :
    (st.releaseReads pick).reads.length = st.reads.length := List.length_map _

theorem releaseBuffers_tidy (s : State) : Tidy s s.releaseBuffers :=
  .ofSame rfl rfl rfl (releaseReads_length _ _).trans_le rfl

theorem letGo_tidy (s : State) : Tidy s s.letGo := (releaseBuffers_tidy s).trans (player_tidy _ _)

theorem makeRoom_length (st : Store) : st.makeRoom.reads.length ≤ st.reads.length := by
  unfold Store.makeRoom
  split
  · exact le_refl _
  · split
    · split
      · exact le_refl _
      · rename_i h t hr
        have := List.length_eraseP_le (l := t) (p := ReadRequest.isReleased)
        simp only [hr, List.length_cons]
        omega
    · exact List.length_eraseP_le

theorem joinReads_length (reads : List ReadRequest) (r : ReadRequest)
    (h : reads.length ≤ Config.readQueueMax) : (joinReads reads r).length ≤ Config.readQueueMax := by
  unfold joinReads
  split
  · rw [List.length_append, List.length_singleton]
    omega
  · exact h

/-- R170: the read queue holds no more than 8. -/
theorem requestRead_length (st : Store) (r : ReadRequest) (h : st.reads.length ≤ Config.readQueueMax) :
    (st.requestRead r).reads.length ≤ Config.readQueueMax :=
  joinReads_length _ r ((makeRoom_length st).trans h)

theorem requestSegment_tidy (m i : Nat) (s : State) : Tidy s (s.requestSegment m i) :=
  .ofSame rfl rfl rfl (requestRead_length _ _) rfl

/-! ## The strike queue and the arbiter (R98, R111–R115, R127–R129) -/

theorem removeStrikes_tidy (pick : StrikeEntry → Bool) (s : State) : Tidy s (s.removeStrikes pick) :=
  (planner_tidy _ s).trans (Tidy.foldl _ (fun s (e : StrikeEntry) => recomputeBusy_tidy e.bell s) _ _)

theorem removeBell_tidy (b : Nat) (s : State) : Tidy s (s.removeBell b) := by
  unfold State.removeBell
  exact ((Tidy.foldl _ (fun s (e : StrikeEntry) => charge_tidy e.owner .lost s) _ s).trans
    (removeStrikes_tidy _ _)).trans (recomputeBusy_tidy b _)

theorem removeOwner_tidy (n : Nat) (s : State) : Tidy s (s.removeOwner n) := removeStrikes_tidy _ s

/-- R111–R115: entries that leave uncharged leave the engine alone. -/
@[simp] theorem removeStrikes_engine (pick : StrikeEntry → Bool) (s : State) :
    (s.removeStrikes pick).engine = s.engine := by
  suffices h : ∀ (l : List StrikeEntry) (u : State),
      (l.foldl (fun u e => u.recomputeBusy e.bell) u).engine = u.engine from h _ _
  intro l
  induction l with
  | nil => exact fun _ => rfl
  | cons e l ih => exact fun u => ih _

theorem removeOwnerLost_tidy (n : Nat) (s : State) : Tidy s (s.removeOwnerLost n) := by
  unfold State.removeOwnerLost
  exact (Tidy.foldl _ (fun s (e : StrikeEntry) => charge_tidy e.owner .lost s) _ s).trans
    (removeOwner_tidy n _)

theorem removeAllStrikes_tidy (s : State) : Tidy s s.removeAllStrikes := removeStrikes_tidy _ s

theorem dropEntry_tidy (e : StrikeEntry) (s : State) : Tidy s (s.dropEntry e) :=
  (charge_tidy e.owner .lost s).trans (removeStrikes_tidy _ _)

theorem insertStrike_tidy (e : StrikeEntry) (s : State) : Tidy s (s.insertStrike e) :=
  (planner_tidy _ s).trans (setBusy_tidy _ _ _)

/-- R100: a hand-over either charges or plans. -/
theorem handOver_tidy (h : HandOver) (s : State) : Tidy s (s.handOver h).1 := by
  have h1 : Tidy s (if h.substituted then s.charge h.owner .substituted else s) := by
    split
    · exact charge_tidy _ _ s
    · exact .refl s
  unfold State.handOver
  generalize (if h.substituted then s.charge h.owner .substituted else s) = s1 at h1 ⊢
  refine h1.trans ?_
  dsimp only
  split
  · exact charge_tidy _ _ _
  · split
    · exact charge_tidy _ _ _
    · split
      · exact charge_tidy _ _ _
      · exact insertStrike_tidy _ _

/-! ## The arbiter (R127–R129) -/

theorem reportFire_tidy (e : StrikeEntry) (a : Nat) (s : State) : Tidy s (s.reportFire e a) := by
  have h1 := charge_tidy e.owner .fired s
  have h2 : Tidy (s.charge e.owner .fired)
      (if e.late then (s.charge e.owner .fired).charge e.owner .late else s.charge e.owner .fired) := by
    split
    · exact charge_tidy _ _ _
    · exact .refl _
  unfold State.reportFire
  exact ((h1.trans h2).trans (planner_tidy _ _)).trans (setBusy_tidy _ _ _)

theorem fire_tidy (e : StrikeEntry) (s : State) : Tidy s (s.fire e) := by
  have h (d : Drive) (q : Planner) : Tidy s { s with drive := d, planner := q } := .ofSame rfl rfl rfl id rfl
  exact (h _ _).trans (reportFire_tidy _ _ _)

theorem fireIfEligible_tidy (s : State) (e : StrikeEntry) : Tidy s (s.fireIfEligible e) := by
  unfold State.fireIfEligible
  split
  · exact fire_tidy e s
  · exact .refl s

theorem arbiter_tidy (s : State) : Tidy s s.arbiter := Tidy.foldl _ fireIfEligible_tidy _ s

theorem plan_tidy (h : HandOver) (s : State) : Tidy s (s.plan h).1 := by
  unfold State.plan
  dsimp only
  split
  · exact handOver_tidy h s
  · split
    · exact (handOver_tidy h s).trans (arbiter_tidy _)
    · exact handOver_tidy h s

/-! ## The Score Player (R82–R97, R142) -/

theorem prefetch_tidy (c : Context) (m i : Nat) (s : State) : Tidy s (s.prefetch c m i) := by
  unfold State.prefetch
  split
  · exact .refl s
  · split
    · exact .refl s
    · split
      · exact player_tidy _ s
      · exact (player_tidy _ s).trans (requestSegment_tidy _ _ _)

theorem startReads_tidy (c : Context) (m : Nat) (s : State) : Tidy s (s.startReads c m) := by
  unfold State.startReads
  split
  · exact (player_tidy _ s).trans (planningDone_tidy _ _)
  · exact ((player_tidy _ s).trans (requestSegment_tidy _ _ _)).trans (prefetch_tidy _ _ _ _)

theorem enterSegment_tidy (c : Context) (m i : Nat) (s : State) : Tidy s (s.enterSegment c m i) := by
  unfold State.enterSegment
  split
  · exact planningDone_tidy _ s
  all_goals
    split
    · exact .refl s
    · exact (player_tidy _ s).trans (prefetch_tidy _ _ _ _)

theorem advance_tidy (m tick n : Nat) (s : State) : Tidy s (s.advance m tick n) := by
  unfold State.advance
  split
  · exact .refl s
  · split
    · exact modActive_tidy _ s
    · split
      · exact (modActive_tidy _ s).trans (enterSegment_tidy _ _ _ _)
      · split
        · dsimp only
          split
          · exact modActive_tidy _ s
          · exact (modActive_tidy _ s).trans (enterSegment_tidy _ _ _ _)
        · exact (modActive_tidy _ s).trans (planningDone_tidy _ _)

theorem planNote_tidy (h : HandOver) (s : State) : Tidy s (s.planNote h) :=
  (setTestFilled_tidy none s).trans (plan_tidy h _)

theorem planTest_tidy (h : HandOver) (s : State) : Tidy s (s.planTest h).1 := by
  unfold State.planTest
  dsimp only
  split
  · exact (plan_tidy h s).trans (setTestFilled_tidy _ _)
  · exact plan_tidy h s

theorem actEvent_tidy (c : Context) (e : Event) (tick due : Nat) (pos : ScorePos) (s : State) :
    Tidy s (s.actEvent c e tick due pos) := by
  unfold State.actEvent
  split
  · split
    · exact .refl s
    · exact planNote_tidy _ s
  · exact .refl s
  · exact modActive_tidy _ s
  · exact .refl s

theorem stopHere_tidy (s t : State) (c : Context) (h : s.stopHere c = some t) : Tidy s t := by
  unfold State.stopHere at h
  split at h
  · cases h
    exact (releaseBuffers_tidy s).trans (planningDone_tidy _ _)
  · cases h

theorem reachScore_tidy (s t : State) (c : Context) (h : s.reachScore c = some t) : Tidy s t := by
  unfold State.reachScore at h
  split at h
  · cases h
  · split at h
    · cases h
      exact planningDone_tidy _ s
    · exact stopHere_tidy s t c h
    · exact stopHere_tidy s t c h
    · exact stopHere_tidy s t c h
    · split at h
      · cases h
        exact stopHere_tidy s _ c ‹_›
      · split at h
        · cases h
        · dsimp only at h
          split at h
          · cases h
          · cases h
            exact (actEvent_tidy _ _ _ _ _ s).trans (advance_tidy _ _ _ _)

theorem advanceToll_tidy (s : State) : Tidy s s.advanceToll := by
  unfold State.advanceToll
  split
  · exact .refl s
  · dsimp only
    split
    · exact (modActive_tidy _ s).trans (planningDone_tidy _ _)
    · exact modActive_tidy _ s

theorem reachToll_tidy (s t : State) (c : Context) (h : s.reachToll c = some t) : Tidy s t := by
  unfold State.reachToll at h
  split at h
  · cases h
  · dsimp only at h
    split at h
    · cases h
    · cases h
      exact (planNote_tidy _ s).trans (advanceToll_tidy _)

theorem takeHead_tidy (rest : List Event) (s : State) : Tidy s (s.takeHead rest) :=
  (live_tidy _ s).trans (raiseIf_tidy _ _ _)

theorem reachLive_tidy (s t : State) (c : Context) (h : s.reachLive c = some t) : Tidy s t := by
  unfold State.reachLive at h
  split at h
  · cases h
  · rename_i l _
    split at h
    · cases h
    · rename_i e rest _
      dsimp only at h
      split at h
      · cases h
      · cases h
        exact ((takeHead_tidy rest s).trans (actEvent_tidy _ _ _ _ _ _)).trans (modActive_tidy _ _)

theorem reachOne_tidy (s t : State) (h : s.reachOne = some t) : Tidy s t := by
  unfold State.reachOne at h
  split at h
  · cases h
  · split at h
    · cases h
    · split at h
      · exact reachScore_tidy _ _ _ h
      · exact reachToll_tidy _ _ _ h
      · exact reachLive_tidy _ _ _ h

theorem reachLoop_tidy (n : Nat) : ∀ s, Tidy s (reachLoop n s) := by
  induction n with
  | zero => exact Tidy.refl
  | succ n ih =>
    intro s
    unfold reachLoop
    split
    · exact .refl s
    · rename_i t h
      exact (reachOne_tidy s t h).trans (ih t)

theorem reachAll_tidy (s : State) : Tidy s s.reachAll := reachLoop_tidy _ s

/-! ## Disposals (R30–R32) -/

theorem removeBooking_tidy (n : Nat) (s : State) : Tidy s (s.removeBooking n) :=
  (setSlot_tidy n _ s).trans (live_tidy _ _)

theorem orphan_tidy (o : Orphan) (s : State) : Tidy s { s with book := s.book.orphan o } :=
  .ofSame rfl rfl rfl id rfl

theorem dispose_tidy (n : Nat) (k : OutcomeKind) (c : Option OutcomeCause) (x : StrikeCounts) (w : Bool)
    (s : State) : Tidy s (s.dispose n k c x w) := by
  unfold State.dispose
  split
  · exact .refl s
  · dsimp only
    split
    · exact ((raise_tidy .outcome s).trans (orphan_tidy _ _)).trans (removeBooking_tidy n _)
    · exact (raise_tidy _ s).trans (setBooking_tidy _ _ _)

/-- R30: a disposal is the Booking Book's work alone. -/
@[simp] theorem dispose_engine (n : Nat) (k : OutcomeKind) (c : Option OutcomeCause) (x : StrikeCounts) (w : Bool)
    (s : State) : (s.dispose n k c x w).engine = s.engine := by
  unfold State.dispose
  split
  · rfl
  · dsimp only
    split <;> rfl

/-! ## The Precedence Engine (R48–R70) -/

theorem takeUpLive_tidy (s : State) : Tidy s s.takeUpLive := (modActive_tidy _ s).trans (live_tidy _ _)

theorem takeUp_tidy (s : State) : Tidy s s.takeUp := by
  unfold State.takeUp
  split
  · exact .refl s
  · dsimp only
    split
    · exact ((player_tidy _ s).trans (player_tidy _ _)).trans (startReads_tidy _ _ _)
    · split
      · exact (player_tidy _ s).trans (planningDone_tidy _ _)
      · exact player_tidy _ s
    · exact (player_tidy _ s).trans (takeUpLive_tidy _)

/-- A change of the stack alone that does not lengthen it past its bound. -/
theorem stack_tidy (l : List Context) (s : State)
    (h : s.engine.stack.length ≤ Config.stackMax → l.length ≤ Config.stackMax) :
    Tidy s { s with engine := { s.engine with stack := l } } := ⟨rfl, h, fun _ => id, id, fun _ => id⟩

theorem refuse_tidy (n : Nat) (k : OutcomeKind) (s : State) : Tidy s (s.refuse n k) :=
  (leaveWaiting_tidy n s).trans (dispose_tidy ..)

theorem start_tidy (n : Nat) (s : State) : Tidy s (s.start n) := by
  unfold State.start
  split
  · exact leaveWaiting_tidy n s
  · exact (((leaveWaiting_tidy n s).trans (active_tidy _ _)).trans (setBooking_tidy _ _ _)).trans (takeUp_tidy _)

/-- R56: the suspended context joins the stack. -/
theorem suspendActive_stack (s : State) :
    s.suspendActive.engine.stack.length ≤ s.engine.stack.length + 1 := by
  unfold State.suspendActive
  split
  · exact Nat.le_succ _
  · simp [State.removeOwner]

/-- R56: but for the stack a suspension keeps everything. -/
theorem suspendActive_frame (s : State) :
    s.suspendActive.book.slots.length = s.book.slots.length ∧
      s.suspendActive.engine.waiting = s.engine.waiting ∧
      (s.store.reads.length ≤ Config.readQueueMax →
        s.suspendActive.store.reads.length ≤ Config.readQueueMax) ∧
      ∀ k, s.notices.flags.get k = true → s.suspendActive.notices.flags.get k = true := by
  unfold State.suspendActive
  split
  · exact ⟨rfl, rfl, id, fun _ => id⟩
  · rename_i c _
    have h := (removeOwner_tidy c.booking s).trans (letGo_tidy _)
    exact ⟨(setBookingState_tidy _ _ _).slots.trans h.slots, by simp [State.removeOwner],
      fun x => (setBookingState_tidy _ _ _).reads (h.reads x),
      fun k x => (setBookingState_tidy _ _ _).flags k (h.flags k x)⟩

theorem endActive_tidy (k : OutcomeKind) (c : Option OutcomeCause) (w : Bool) (s : State) :
    Tidy s (s.endActive k c w) := by
  unfold State.endActive
  split
  · exact .refl s
  · exact (((removeOwner_tidy _ s).trans (letGo_tidy _)).trans (active_tidy _ _)).trans (dispose_tidy ..)

theorem endStacked_tidy (c : Context) (k : OutcomeKind) (x : Option OutcomeCause) (w : Bool) (s : State) :
    Tidy s (s.endStacked c k x w) :=
  (stack_tidy _ s (List.length_filter_le _ _).trans).trans (dispose_tidy ..)

theorem displace_tidy (s : State) : Tidy s s.displace := by
  unfold State.displace
  split
  · exact .refl s
  · split
    · exact .refl s
    · exact endStacked_tidy ..

/-- R58: displacement makes room for one context. -/
theorem displace_room (s : State) (h : s.engine.stack.length ≤ Config.stackMax) :
    s.displace.engine.stack.length < Config.stackMax := by
  unfold State.displace
  split
  · assumption
  · split
    · rename_i hl
      simp [List.getLast?_eq_none_iff.1 hl, Config.stackMax]
    · rename_i c hl
      have hlt : (s.engine.stack.filter (·.booking != c.booking)).length < s.engine.stack.length :=
        List.length_filter_lt_length_iff_exists.2 ⟨c, List.mem_of_getLast? hl, by simp⟩
      simpa [State.endStacked] using hlt.trans_le h

theorem resumeTop_tidy (s : State) : Tidy s s.resumeTop := by
  unfold State.resumeTop
  split
  · exact .refl s
  · rename_i c rest hr
    refine (((stack_tidy rest s ?_).trans (active_tidy _ _)).trans (setBookingState_tidy _ _ _)).trans (takeUp_tidy _)
    rw [hr, List.length_cons]
    omega

theorem clearFor_tidy (d : Decision) (s : State) : Tidy s (s.clearFor d) := by
  cases d with
  | waits => exact .refl s
  | suspends =>
    have d := displace_tidy s
    obtain ⟨hslots, hwaiting, hreads, hflags⟩ := suspendActive_frame s.displace
    exact ⟨hslots.trans d.slots, fun h => (suspendActive_stack _).trans (displace_room s h),
      fun hs h => hwaiting ▸ d.waiting hs h, fun h => hreads (d.reads h), fun k h => hflags k (d.flags k h)⟩
  | replaces => exact endActive_tidy ..

theorem settleStart_tidy (a : Agenda) (s : State) : Tidy s (s.settleStart a).1 := by
  unfold State.settleStart
  split
  · exact endActive_tidy ..
  · exact .refl s

theorem choose_tidy (s : State) : Tidy s s.choose.1 := by
  unfold State.choose
  split
  · split
    · exact .refl s
    · exact (resumeTop_tidy s).trans (settleStart_tidy _ _)
  · split
    · exact leaveWaiting_tidy _ s
    · split
      · split
        · exact refuse_tidy ..
        · exact (start_tidy _ s).trans (settleStart_tidy _ _)
      · exact (resumeTop_tidy s).trans (settleStart_tidy _ _)

theorem judgeAt_tidy (k : Nat) (s : State) : Tidy s (s.judgeAt k).1 := by
  unfold State.judgeAt
  split
  · exact .refl s
  · split
    · exact leaveWaiting_tidy _ s
    · split
      · split
        · split
          · exact refuse_tidy ..
          · exact (start_tidy _ s).trans (settleStart_tidy _ _)
        · exact .refl s
      · split
        · exact .refl s
        · split
          · exact refuse_tidy ..
          · exact ((clearFor_tidy _ s).trans (start_tidy _ _)).trans (settleStart_tidy _ _)

theorem agendaStep_tidy (a : Agenda) (s : State) : Tidy s (s.agendaStep a).1 := by
  cases a
  · simp only [State.agendaStep]
    split
    · exact .refl s
    · exact choose_tidy s
  · exact judgeAt_tidy _ s

theorem engineLoop_tidy (n : Nat) : ∀ a s, Tidy s (engineLoop n a s) := by
  induction n with
  | zero => exact fun _ s => .refl s
  | succ n ih =>
    intro a s
    have h := agendaStep_tidy a s
    unfold engineLoop
    split
    · rename_i t ht
      rw [ht] at h
      exact h
    · rename_i t a' ht
      rw [ht] at h
      exact h.trans (ih a' t)

theorem resumeChoice_tidy (s : State) : Tidy s s.resumeChoice := by
  unfold State.resumeChoice
  split
  · exact .refl s
  · exact engineLoop_tidy _ _ s

theorem reconsider_tidy (s : State) : Tidy s s.reconsider := by
  unfold State.reconsider
  split
  · exact .refl s
  · exact engineLoop_tidy _ _ s

theorem handGroup_tidy (ns : List Nat) (s : State)
    (hn : s.book.slots.length = Config.bookingSlots → waitingSound ns) : Tidy s (s.handGroup ns) := by
  unfold State.handGroup
  split
  · exact .refl s
  · exact (joinWaiting_tidy ns s hn).trans (reconsider_tidy _)

theorem settle_tidy (s : State) : Tidy s s.settle := by
  unfold State.settle
  dsimp only
  split
  · exact reachAll_tidy s
  · exact ((reachAll_tidy s).trans (endActive_tidy ..)).trans (resumeChoice_tidy _)

theorem withdrawNow_tidy (n : Nat) (s : State) : Tidy s (s.withdrawNow n) := by
  unfold State.withdrawNow
  split
  · exact .refl s
  · split
    · exact removeBooking_tidy n s
    · exact removeBooking_tidy n s
    · exact removeBooking_tidy n s
    · exact (leaveWaiting_tidy n s).trans (removeBooking_tidy n _)
    · exact (endActive_tidy ..).trans (resumeChoice_tidy _)
    · split
      · exact .refl s
      · exact endStacked_tidy ..

/-! ## Halts, HUSH, drive loss -/

theorem haltStackedNow_tidy (named : Context → Bool) (s : State) : Tidy s (s.haltStackedNow named) :=
  Tidy.foldl _ (fun s c => endStacked_tidy c .halted none false s) _ s

theorem haltNow_tidy (t : HaltTarget) (s : State) : Tidy s (s.haltNow t) := by
  unfold State.haltNow
  split
  · exact ((endActive_tidy ..).trans (haltStackedNow_tidy _ _)).trans (resumeChoice_tidy _)
  · exact haltStackedNow_tidy _ s

theorem cancelRepeats_tidy (c : Context) (s : State) : Tidy s (s.cancelRepeats c) := by
  unfold State.cancelRepeats
  split
  · split
    · exact .refl s
    · split
      · exact .ofSame rfl rfl rfl (releaseReads_length _ _).trans_le rfl
      · exact .refl s
  · split
    · exact planningDone_tidy _ s
    · exact .refl s
  · exact .refl s

theorem stopAtPhrase_tidy (c : Context) (s : State) : Tidy s (s.stopAtPhrase c) := by
  unfold State.stopAtPhrase
  split
  · exact .refl s
  · split
    · exact player_tidy _ s
    · exact planningDone_tidy _ s
    · exact .refl s

theorem applyHalt_tidy (c : Context) (h : PendingHalt) (s : State) : Tidy s (s.applyHalt c h) := by
  unfold State.applyHalt
  split
  · exact live_tidy _ s
  · split
    · exact .refl s
    · split
      · exact stopAtPhrase_tidy c s
      · exact cancelRepeats_tidy c s

theorem haltLater_tidy (t : HaltTarget) (h : PendingHalt) (s : State) : Tidy s (s.haltLater t h) := by
  unfold State.haltLater
  dsimp only
  have h1 : Tidy s (s.haltStackedLater (t.names false) h) := stack_tidy _ s (by simp)
  split
  · refine h1.trans (Tidy.trans ?_ (settle_tidy _))
    unfold State.haltActiveLater
    split
    · exact .refl _
    · split
      · exact .refl _
      · exact (modActive_tidy _ _).trans (applyHalt_tidy ..)
  · exact h1

theorem halt_tidy (t : HaltTarget) (c : HaltCondition) (s : State) : Tidy s (s.halt t c) := by
  cases c
  · exact haltNow_tidy t s
  · exact haltLater_tidy t _ s
  · exact haltLater_tidy t _ s

theorem hushActive_tidy (s : State) : Tidy s s.hushActive := by
  unfold State.hushActive
  split
  · exact .refl s
  · split
    · exact .refl s
    · dsimp only
      have h1 : ∀ b : Bool, ∀ n, Tidy s (if b then s.removeOwnerLost n else s.removeOwner n) := by
        intro b n
        split
        · exact removeOwnerLost_tidy n s
        · exact removeOwner_tidy n s
      exact (((h1 _ _).trans (letGo_tidy _)).trans (modActive_tidy _ _)).trans (live_tidy _ _)

theorem restartActive_tidy (s : State) : Tidy s s.restartActive := by
  unfold State.restartActive
  split
  · exact .refl s
  · exact (modActive_tidy _ s).trans (takeUp_tidy _)

theorem releaseEngine_tidy (s : State) : Tidy s s.releaseEngine := by
  unfold State.releaseEngine
  split
  · exact resumeChoice_tidy s
  · rename_i c _
    dsimp only
    have h1 : Tidy s (if (c.mode == .hushed) = true then s.restartActive else s) := by
      split
      · exact restartActive_tidy s
      · exact .refl s
    split
    · exact (h1.trans (endActive_tidy ..)).trans (resumeChoice_tidy _)
    · exact h1.trans (reconsider_tidy _)

theorem loseDrive_tidy (s : State) : Tidy s s.loseDrive := by
  unfold State.loseDrive
  split
  · exact .refl s
  · exact ((endActive_tidy ..).trans
      (Tidy.foldl _ (fun s c => endStacked_tidy c .driveLost none false s) _ _)).trans (removeAllStrikes_tidy _)

/-! ## The Booking Book's reports (R23–R37) -/

theorem dueNow_tidy (n : Nat) (s : State) : Tidy s (s.dueNow n).1 := by
  unfold State.dueNow
  split
  · exact .refl s
  · split
    · split
      · exact setBooking_tidy _ _ s
      · exact (setBooking_tidy _ _ s).trans (raise_tidy _ _)
      · exact (setBooking_tidy _ _ s).trans (raise_tidy _ _)
      · exact (setBooking_tidy _ _ s).trans (raise_tidy _ _)
      · exact .refl s
      · exact .refl s
    · exact .refl s

/-- R23: only a booking of the table falls due. -/
theorem dueNow_range (n : Nat) (s : State) (h : (s.dueNow n).2 = true) : 1 ≤ n ∧ n ≤ s.book.slots.length := by
  unfold State.dueNow at h
  split at h
  · cases h
  · exact booking?_range ‹_›

theorem dueAtOnce_tidy (n : Nat) (s : State) : Tidy s (s.dueAtOnce n) := by
  have h := dueNow_tidy n s
  have hr := dueNow_range n s
  unfold State.dueAtOnce
  split
  · rename_i t ht
    rw [ht] at h hr
    refine h.trans (handGroup_tidy _ _ fun hs => waitingSound_singleton ?_)
    rw [← hs, h.slots]
    exact hr rfl
  · rename_i t ht
    rw [ht] at h
    split
    · exact h.trans (sortWaiting_tidy _)
    · exact h

theorem createBooking_tidy (n : Nat) (r : BookingRecord) (s : State) : Tidy s (s.createBooking n r) :=
  (setBooking_tidy _ _ s).trans (dueAtOnce_tidy _ _)

theorem amendBooking_tidy (n : Nat) (r : BookingRecord) (s : State) : Tidy s (s.amendBooking n r) := by
  unfold State.amendBooking
  split
  · exact .refl s
  · have h1 : ∀ b, Tidy s ((s.setBooking n b).dueAtOnce n) :=
      fun b => (setBooking_tidy _ _ s).trans (dueAtOnce_tidy _ _)
    dsimp only
    split
    · exact (h1 _).trans (reconsider_tidy _)
    · exact h1 _

/-- R46: a NOW or LIVE booking takes a free slot. -/
theorem createImmediate_tidy (n : Nat) (r : BookingRecord) (s : State) (h : s.book.lowestFree = some n) :
    Tidy s (s.createImmediate n r) := by
  have h1 := setBooking_tidy n (.freshImmediate r s.time) s
  refine h1.trans (handGroup_tidy _ _ fun hs => waitingSound_singleton ?_)
  rw [← hs, h1.slots]
  exact lowestFree_range h

/-- A pass keeps what each of its steps keeps. -/
theorem pass_tidy (f : Nat → Booking → State → State × Bool) (hf : ∀ n b s, Tidy s (f n b s).1) (s : State) :
    Tidy s (s.pass f).1 := by
  unfold State.pass
  suffices h : ∀ (l : List Nat) (p : Pass), Tidy p.1 (l.foldl (Pass.one f) p).1 from h slotNumbers (s, [])
  intro l
  induction l with
  | nil => exact fun p => .refl _
  | cons n l ih =>
    intro p
    refine Tidy.trans ?_ (ih _)
    unfold Pass.one
    split
    · exact .refl _
    · rename_i b _
      have h := hf n b p.1
      split
      · rename_i t ht
        rw [ht] at h
        exact h
      · rename_i t ht
        rw [ht] at h
        exact h

/-- The numbers that fall due in a pass are numbers of the table, each once. -/
theorem pass_sublist (f : Nat → Booking → State → State × Bool) (s : State) :
    (s.pass f).2.Sublist slotNumbers := by
  unfold State.pass
  suffices h : ∀ (l : List Nat) (p : Pass), ∃ due, due.Sublist l ∧ (l.foldl (Pass.one f) p).2 = p.2 ++ due by
    obtain ⟨due, hd, he⟩ := h slotNumbers (s, [])
    rw [he]
    exact hd
  intro l
  induction l with
  | nil => exact fun p => ⟨[], .slnil, (List.append_nil _).symm⟩
  | cons n l ih =>
    intro p
    obtain ⟨due, hd, he⟩ := ih (Pass.one f p n)
    rw [List.foldl_cons, he]
    unfold Pass.one
    split
    · exact ⟨due, hd.cons n, rfl⟩
    · split
      · exact ⟨n :: due, hd.cons_cons n, List.append_assoc ..⟩
      · exact ⟨due, hd.cons n, rfl⟩

theorem report_tidy (f : Nat → Booking → State → State × Bool) (hf : ∀ n b s, Tidy s (f n b s).1)
    (s : State) : Tidy s (s.report f) := by
  unfold State.report
  split
  · exact .refl s
  · exact ((pass_tidy f hf s).trans (sortWaiting_tidy _)).trans
      (handGroup_tidy _ _ fun _ => slotNumbers_sound.sublist (pass_sublist f s))

theorem disposeWaiting_tidy (n : Nat) (c : OutcomeCause) (s : State) : Tidy s (s.disposeWaiting n c) :=
  dispose_tidy ..

theorem fallDueAt_tidy (n : Nat) (b : Booking) (s : State) : Tidy s (s.fallDueAt n b).1 := by
  unfold State.fallDueAt
  split
  · exact setBooking_tidy _ _ s
  · exact .refl s

theorem fallDueIfArmed_tidy (n : Nat) (s : State) : Tidy s (s.fallDueIfArmed n).1 := by
  unfold State.fallDueIfArmed
  split
  · exact .refl s
  · split
    · exact fallDueAt_tidy _ _ s
    · exact .refl s

theorem boundaryOne_tidy (n : Nat) (b : Booking) (s : State) : Tidy s (s.boundaryOne n b).1 := by
  unfold State.boundaryOne
  split
  · exact fallDueAt_tidy _ _ s
  · dsimp only
    split
    · exact ((leaveWaiting_tidy n s).trans (disposeWaiting_tidy ..)).trans (fallDueIfArmed_tidy _ _)
    · split
      · exact (setBooking_tidy _ _ s).trans (raise_tidy _ _)
      · exact setBooking_tidy _ _ s
  · split
    · exact (setBooking_tidy _ _ s).trans (raise_tidy _ _)
    · exact .refl s
  · split
    · exact (setBooking_tidy _ _ s).trans (raise_tidy _ _)
    · exact .refl s
  · exact .refl s
  · exact .refl s

theorem secondBoundary_tidy (s : State) : Tidy s s.secondBoundary := report_tidy _ boundaryOne_tidy s

theorem setReportOne_tidy (n : Nat) (b : Booking) (s : State) : Tidy s (s.setReportOne n b).1 := by
  unfold State.setReportOne
  split
  · exact .refl s
  · exact (setBooking_tidy _ _ s).trans (dueNow_tidy _ _)

theorem calendarSet_tidy (s : State) : Tidy s s.calendarSet := report_tidy _ setReportOne_tidy s

theorem stepArmed_tidy (n : Nat) (l : List Nat) (b : Booking) (s : State) : Tidy s (s.stepArmed n l b).1 := by
  unfold State.stepArmed
  split
  · exact setBooking_tidy _ _ s
  · dsimp only
    split
    · exact setBooking_tidy _ _ s
    · exact (setBooking_tidy _ _ s).trans (raise_tidy _ _)

theorem forwardOne_tidy (t0 n : Nat) (b : Booking) (s : State) : Tidy s (State.forwardOne t0 n b s).1 := by
  unfold State.forwardOne
  split
  · exact stepArmed_tidy ..
  · unfold State.stepWaiting
    dsimp only
    split
    · have h1 := (leaveWaiting_tidy n s).trans (disposeWaiting_tidy n .timeStep _)
      split
      · exact h1
      · exact h1.trans (stepArmed_tidy ..)
    · exact setBooking_tidy _ _ s
  · unfold State.stepSounding
    dsimp only
    split
    · exact setBooking_tidy _ _ s
    · exact (setBooking_tidy _ _ s).trans (raise_tidy _ _)
  · unfold State.stepSounding
    dsimp only
    split
    · exact setBooking_tidy _ _ s
    · exact (setBooking_tidy _ _ s).trans (raise_tidy _ _)
  · exact .refl s
  · exact .refl s

theorem backwardOne_tidy (n : Nat) (b : Booking) (s : State) : Tidy s (s.backwardOne n b).1 := by
  unfold State.backwardOne
  split
  · exact (setBooking_tidy _ _ s).trans (dueNow_tidy _ _)
  · exact (setBooking_tidy _ _ s).trans (dueNow_tidy _ _)
  · exact (setBooking_tidy _ _ s).trans (dueNow_tidy _ _)
  · exact (setBooking_tidy _ _ s).trans (dueNow_tidy _ _)
  · exact .refl s
  · exact .refl s

theorem stepReport_tidy (t0 : Nat) (s : State) : Tidy s (s.stepReport t0) := by
  unfold State.stepReport
  refine report_tidy _ (fun n b u => ?_) s
  split
  · exact forwardOne_tidy t0 n b u
  · exact backwardOne_tidy n b u

theorem unsetOne_tidy (n : Nat) (b : Booking) (s : State) : Tidy s (s.unsetOne n b).1 := by
  unfold State.unsetOne
  split
  · exact (leaveWaiting_tidy n s).trans (disposeWaiting_tidy ..)
  all_goals exact setBooking_tidy _ _ s

theorem unsetReport_tidy (s : State) : Tidy s s.unsetReport := report_tidy _ unsetOne_tidy s

end Sys2Proof.Machine
end


section
/-! PROOFS. What every command but POWER_ON keeps: the performance clock (R1), the bounds of the lists and the
tables (R5, R17, R32, R50, R51, R98, R139, R170, R179). -/

namespace Sys2Proof.Machine

/-- R179: each receive buffer holds fewer bytes than a frame with the longest body has. -/
def rxBounded (l : Links) : Prop := ∀ p, (l.port p).rx.length < Config.bodyMax + 7

theorem withinCapacity_iff (s : State) : s.withinCapacity = true ↔
    s.planner.queue.length ≤ Config.strikeQueueMax ∧ s.engine.stack.length ≤ Config.stackMax ∧
      s.book.orphans.length ≤ Config.orphanMax ∧ s.time.history.length ≤ Config.historyMax ∧
      s.time.count ≤ 3 ∧ streamBounded s.live ∧ rxBounded s.links := by
  have hr : rxBounded s.links ↔
      s.links.main.rx.length < Config.bodyMax + 7 ∧ s.links.service.rx.length < Config.bodyMax + 7 :=
    ⟨fun h => ⟨h .main, h .service⟩, fun h p => by cases p; exacts [h.1, h.2]⟩
  cases hl : s.live <;>
    simp [State.withinCapacity, streamBounded, hl, hr, and_assoc]

theorem tablesSound_iff (s : State) : s.tablesSound = true ↔
    s.book.slots.length = Config.bookingSlots ∧ s.store.places.bookings.length = Config.bookingSlots ∧
      waitingSound s.engine.waiting ∧ s.store.reads.length ≤ Config.readQueueMax := by
  simp only [State.tablesSound, waitingSound, Bool.and_eq_true, decide_eq_true_eq, beq_iff_eq, List.all_eq_true,
    and_assoc]
  exact ⟨fun ⟨h1, h2, h3, h4, _, h6⟩ => ⟨h1, h2, h3, h4, h6⟩,
    fun ⟨h1, h2, h3, h4, h6⟩ => ⟨h1, h2, h3, h4, waitingSound.length_le ⟨h3, h4⟩, h6⟩⟩

/-- What every command but POWER_ON keeps. -/
structure Steady (s t : State) : Prop where
  clock : t.time.clock = s.time.clock
  clockFrac : t.time.clockFrac = s.time.clockFrac
  capacity : s.withinCapacity = true → t.withinCapacity = true
  tables : s.tablesSound = true → t.tablesSound = true

theorem Steady.refl (s : State) : Steady s s := ⟨rfl, rfl, id, id⟩

theorem Steady.trans {s t u : State} (h : Steady s t) (g : Steady t u) : Steady s u :=
  ⟨g.clock.trans h.clock, g.clockFrac.trans h.clockFrac, g.capacity ∘ h.capacity, g.tables ∘ h.tables⟩

/-- One operation after another, the last one first. -/
theorem Steady.after {s t u : State} (g : Steady t u) (h : Steady s t) : Steady s u := h.trans g

/-- What the performance side does is steady. -/
theorem Kept.steady {s t : State} (k : Kept s t) (h : Tidy s t) : Steady s t where
  clock := by rw [k.time]
  clockFrac := by rw [k.time]
  capacity := by
    simp only [withinCapacity_iff, k.time, k.links]
    exact fun ⟨h1, h2, h3, h4, h5, h6, h7⟩ => ⟨k.queue h1, h.stack h2, k.orphans h3, h4, h5, k.stream h6, h7⟩
  tables := by
    simp only [tablesSound_iff, k.places, h.slots]
    exact fun ⟨h1, h2, h3, h4⟩ => ⟨h1, h2, h.waiting h1 h3, h.reads h4⟩

/-- What changes neither time nor tables nor lists is steady. -/
theorem Steady.ofSame {s t : State} (time : t.time = s.time) (book : t.book = s.book)
    (engine : t.engine = s.engine) (planner : t.planner = s.planner) (live : t.live = s.live)
    (links : t.links = s.links) (store : t.store = s.store) : Steady s t where
  clock := by rw [time]
  clockFrac := by rw [time]
  capacity := by simp only [State.withinCapacity, time, book, engine, planner, live, links]; exact id
  tables := by simp only [State.tablesSound, book, engine, store]; exact id

/-- A change of the Tower Time Unit that leaves the performance clock. -/
theorem time_steady (T : TowerTime) (s : State) (clock : T.clock = s.time.clock)
    (frac : T.clockFrac = s.time.clockFrac) (count : s.time.count ≤ 3 → T.count ≤ 3)
    (history : s.time.history.length ≤ Config.historyMax → T.history.length ≤ Config.historyMax) :
    Steady s { s with time := T } where
  clock := clock
  clockFrac := frac
  capacity := by
    simp only [withinCapacity_iff]
    exact fun ⟨h1, h2, h3, h4, h5, h6⟩ => ⟨h1, h2, h3, history h4, count h5, h6⟩
  tables := id

/-- A change of the store that keeps its booking places and the bound of its read queue. -/
theorem store_steady (st : Store) (s : State)
    (places : st.places.bookings.length = s.store.places.bookings.length)
    (reads : s.store.reads.length ≤ Config.readQueueMax → st.reads.length ≤ Config.readQueueMax) :
    Steady s { s with store := st } where
  clock := rfl
  clockFrac := rfl
  capacity := id
  tables := by
    simp only [tablesSound_iff, places]
    exact fun ⟨h1, h2, h3, h4⟩ => ⟨h1, h2, h3, reads h4⟩

/-- A change of the live feed that keeps the stream queue bounded. -/
theorem live_steady (l : Option LiveFeed) (s : State) (h : streamBounded s.live → streamBounded l) :
    Steady s { s with live := l } := (live_kept l s h).steady (live_tidy l s)

theorem library_steady (l : Library) (s : State) : Steady s { s with library := l } :=
  .ofSame rfl rfl rfl rfl rfl rfl rfl

theorem notices_steady (n : Notices) (s : State) : Steady s { s with notices := n } :=
  .ofSame rfl rfl rfl rfl rfl rfl rfl

theorem drive_steady (d : Drive) (s : State) : Steady s { s with drive := d } :=
  .ofSame rfl rfl rfl rfl rfl rfl rfl

theorem freeCount_steady (n : Nat) (s : State) : Steady s { s with freeCount := n } :=
  .ofSame rfl rfl rfl rfl rfl rfl rfl

theorem modMelody_steady (m : Nat) (f : MelodySlot → MelodySlot) (s : State) : Steady s (s.modMelody m f) :=
  library_steady _ s

theorem modBell_steady (b : Nat) (f : Bell → Bell) (s : State) : Steady s (s.modBell b f) := drive_steady _ s

theorem raise_steady (n : Notice) (s : State) : Steady s (s.raise n) := notices_steady _ s

theorem raiseIf_steady (c : Bool) (n : Notice) (s : State) : Steady s (s.raiseIf c n) :=
  (raiseIf_kept c n s).steady (raiseIf_tidy c n s)

theorem arbiter_steady (s : State) : Steady s s.arbiter := (arbiter_kept s).steady (arbiter_tidy s)

theorem settle_steady (s : State) : Steady s s.settle := (settle_kept s).steady (settle_tidy s)

theorem setSlot_steady (n : Nat) (v : Slot) (s : State) : Steady s (s.setSlot n v) :=
  have k : Kept s (s.setSlot n v) := .ofTables rfl rfl rfl rfl rfl rfl rfl rfl rfl id id id
  k.steady (setSlot_tidy n v s)

/-! ## The links (R178–R183) -/

/-- R179: a change of one port that keeps its receive buffer bounded. -/
theorem modPort_steady (p : Port) (f : PortState → PortState) (s : State)
    (h : (s.port p).rx.length < Config.bodyMax + 7 → (f (s.port p)).rx.length < Config.bodyMax + 7) :
    Steady s (s.modPort p f) where
  clock := rfl
  clockFrac := rfl
  capacity := by
    simp only [withinCapacity_iff]
    refine fun ⟨h1, h2, h3, h4, h5, h6, h7⟩ => ⟨h1, h2, h3, h4, h5, h6, fun q => ?_⟩
    cases p <;> cases q
    exacts [h (h7 .main), h7 .service, h7 .main, h (h7 .service)]
  tables := id

theorem respond_steady (p : Port) (r : Byte) (c : AnswerCode) (body : List Byte) (s : State) :
    Steady s (s.respond p r c body) := by
  unfold State.respond
  split
  · exact .refl s
  · exact modPort_steady p _ s id

theorem countError_steady (p : Port) (s : State) : Steady s (s.countError p) :=
  (modPort_steady p _ s id).trans (raise_steady _ _)

theorem keepBytes_steady (p : Port) (bs : List Byte) (s : State) (h : bs.length < Config.bodyMax + 7) :
    Steady s (s.keepBytes p bs) := modPort_steady p _ s fun _ => h

theorem hunt_steady (p : Port) (s : State) : Steady s (s.keepBytes p []) :=
  keepBytes_steady p [] s (Nat.succ_pos _)

theorem gap_steady (p : Port) (s : State) : Steady s (s.gap p) := by
  unfold State.gap
  split
  · exact .refl s
  · split
    · exact hunt_steady p s
    · exact (hunt_steady p s).trans (countError_steady p _)

theorem answerBusy_steady (p : Port) (code : Byte) (s : State) : Steady s (s.answerBusy p code) :=
  (modPort_steady p _ s id).trans (respond_steady ..)

/-- R180–R184: a request does nothing but what its owner does. -/
theorem takeRequest_steady (p : Port) (code : Byte) (body : List Byte) (serve : State → State) (s : State)
    (h : ∀ u, Steady u (serve u)) : Steady s (s.takeRequest p code body serve) := by
  unfold State.takeRequest
  split
  · exact .refl s
  · refine (gap_steady p s).trans ?_
    dsimp only
    split
    · exact .refl _
    · split
      · exact countError_steady p _
      · split
        · exact answerBusy_steady p code _
        · refine (modPort_steady p (fun q => { q with outstanding := true }) _ id).trans ?_
          split
          · exact respond_steady ..
          · exact h _

theorem startAnswer_steady (p : Port) (s : State) : Steady s (s.startAnswer p) := by
  unfold State.startAnswer
  split
  · split
    · exact .refl s
    · exact modPort_steady p _ s id
  · exact .refl s

theorem finishAnswer_steady (p : Port) (s : State) : Steady s (s.finishAnswer p) := by
  unfold State.finishAnswer
  split
  · exact .refl s
  · refine modPort_steady p _ s fun h => ?_
    split <;> exact h

/-! ## Tower time (R3–R13) -/

theorem setTimeState_steady (v : TimeState) (s : State) : Steady s (s.setTimeState v) :=
  (raiseIf_steady _ _ _).after (time_steady _ s rfl rfl id id)

theorem secondBoundary_steady (s : State) : Steady s s.secondBoundary :=
  (secondBoundary_kept s).steady (secondBoundary_tidy s)

theorem unsetReport_steady (s : State) : Steady s s.unsetReport :=
  (unsetReport_kept s).steady (unsetReport_tidy s)

theorem advanceSecond_steady (s : State) : Steady s s.advanceSecond := by
  unfold State.advanceSecond
  split
  · refine (time_steady { s.time with second := s.time.second + 1 } s rfl rfl id id).trans ?_
    dsimp only
    split
    · exact .refl _
    · exact secondBoundary_steady _
  · refine ((time_steady { s.time with second := 0, slew := 0, slewAcc := 0 } s rfl rfl id id).trans
      (setTimeState_steady .unset _)).trans ?_
    dsimp only
    split
    · exact unsetReport_steady _
    · exact .refl _

theorem normalAdvance_steady (s : State) : Steady s s.normalAdvance := by
  unfold State.normalAdvance
  split
  · exact (advanceSecond_steady _).after (time_steady _ s rfl rfl id id)
  · exact .refl s

theorem phaseStep_steady (s : State) : Steady s s.phaseStep := by
  refine (time_steady { s.time with sub := 0, subFrac := 0 } s rfl rfl id id).trans ?_
  unfold State.phaseStep
  dsimp only
  split
  · exact advanceSecond_steady _
  · exact .refl _

theorem dealPhase_steady (s : State) : Steady s s.dealPhase := by
  unfold State.dealPhase
  dsimp only
  split
  · exact time_steady _ s rfl rfl id id
  · exact Steady.trans (phaseStep_steady s) (time_steady { s.phaseStep.time with slew := 0, slewAcc := 0 } _ rfl rfl id id)

theorem phaseAtPulse_steady (s : State) : Steady s s.phaseAtPulse := by
  unfold State.phaseAtPulse
  split
  · exact phaseStep_steady s
  · exact dealPhase_steady s
  · exact .refl s
  · exact .refl s

theorem lockState_steady (s : State) : Steady s s.lockState := by
  unfold State.lockState
  split
  · split
    · exact setTimeState_steady _ s
    · exact .refl s
  · split
    · exact setTimeState_steady _ s
    · exact .refl s
  · exact .refl s
  · exact .refl s

/-- R5: the pulse history holds at most 16 errors. -/
theorem pushHistory_length (h : List Int) (e : Int) : (pushHistory h e).length ≤ Config.historyMax := by
  simp only [pushHistory, List.length_drop, List.length_append, List.length_singleton]
  omega

theorem pulse_steady (s : State) : Steady s s.pulse := by
  unfold State.pulse
  split
  · have hm (T : TowerTime) (clock : T.clock = s.time.clock) (frac : T.clockFrac = s.time.clockFrac)
        (count : T.count = s.time.measure.count) (history : T.history = s.time.measure.history) :
        Steady s { s with time := T } := by
      refine time_steady T s clock frac (fun _ => ?_) fun _ => ?_
      · rw [count]
        exact min_le_left _ _
      · rw [history]
        exact pushHistory_length _ _
    dsimp only
    split
    · exact ((phaseAtPulse_steady _).after (lockState_steady _)).after (hm _ rfl rfl rfl rfl)
    · exact hm _ rfl rfl rfl rfl
  · exact time_steady _ s rfl rfl (fun _ => Nat.zero_le _) id

theorem expirePulse_steady (s : State) : Steady s s.expirePulse := by
  refine (time_steady { s.time with locked := false, count := 0, slew := 0, slewAcc := 0, timeout := none } s rfl rfl
    (fun _ => Nat.zero_le _) id).trans ?_
  unfold State.expirePulse
  dsimp only
  split
  · exact setTimeState_steady _ _
  · exact .refl _

theorem setCalendar_steady (t1 : Nat) (s : State) : Steady s (s.setCalendar t1) := by
  have hset : Steady s (if s.time.locked
      then ({ s with time := { s.time with second := t1 } } : State).setTimeState .locked
      else ({ s with time := { s.time with second := t1, sub := 0, subFrac := 0 } } : State).setTimeState .free) := by
    split <;> exact (setTimeState_steady _ _).after (time_steady _ s rfl rfl id id)
  have hreport (u : State) : Steady u (if s.time.state = .unset then u.calendarSet
      else if s.time.second = t1 then u else u.stepReport s.time.second) := by
    split
    · exact (calendarSet_kept u).steady (calendarSet_tidy u)
    · split
      · exact .refl u
      · exact (stepReport_kept _ u).steady (stepReport_tidy _ u)
  exact (hreport _).after hset

theorem broadcast_steady (body : List Byte) (s : State) : Steady s (s.broadcast body) := by
  unfold State.broadcast
  split
  · exact .refl s
  · refine (gap_steady .main s).trans ?_
    dsimp only
    split
    · exact .refl _
    · split
      · split
        · exact .refl _
        · exact setCalendar_steady _ _
      · exact .refl _

/-! ## Bells, coils and the bank (R119–R136) -/

theorem removeBell_steady (b : Nat) (s : State) : Steady s (s.removeBell b) :=
  (removeBell_kept b s).steady (removeBell_tidy b s)

theorem coilOff_steady (s : State) : Steady s s.coilOff := drive_steady _ s

theorem toRecovering_steady (b : Nat) (c : Cycle) (s : State) : Steady s (s.toRecovering b c) := by
  unfold State.toRecovering
  split
  · exact (modBell_steady b _ s).trans (arbiter_steady _)
  · exact modBell_steady b _ s

theorem faultBell_steady (b : Nat) (cause : FaultCause) (s : State) : Steady s (s.faultBell b cause) :=
  ((modBell_steady b _ s).trans (removeBell_steady b _)).trans (raise_steady _ _)

theorem afterPulse_steady (b : Nat) (c : Cycle) (s : State) : Steady s (s.afterPulse b c) := by
  unfold State.afterPulse
  split
  · exact toRecovering_steady b c s
  · split
    · exact modBell_steady b _ s
    · split
      · exact toRecovering_steady b c s
      · exact faultBell_steady b _ s

theorem releaseCoil_steady (s : State) (b : Nat) : Steady s (s.releaseCoil b) := by
  unfold State.releaseCoil
  split
  · exact .refl s
  · split
    · refine (coilOff_steady s).trans ?_
      dsimp only
      split
      · exact modBell_steady b _ _
      · exact toRecovering_steady b _ _
    · exact .refl s

theorem releaseAllCoils_steady (s : State) : Steady s s.releaseAllCoils := by
  unfold State.releaseAllCoils
  generalize bellNumbers = l
  induction l generalizing s with
  | nil => exact .refl s
  | cons b l ih => exact (releaseCoil_steady s b).trans (ih _)

theorem takeBellRecord_steady (b : Nat) (r : BellRecord) (s : State) : Steady s (s.takeBellRecord b r) := by
  have hoff (c : Prop) [Decidable c] (u : State) : Steady u (if c then u.coilOff else u) := by
    split
    · exact coilOff_steady u
    · exact .refl u
  exact ((((arbiter_steady _).after (hoff _ _)).after (modBell_steady b _ _)).after (removeBell_steady b _)).after
    (modBell_steady b _ s)

theorem classify_steady (s : State) : Steady s s.classify := (drive_steady _ s).trans (raiseIf_steady _ _ _)

theorem reclassify_steady (s : State) : Steady s s.reclassify := by
  unfold State.reclassify
  split
  · exact (classify_steady s).trans (arbiter_steady _)
  · exact classify_steady s

theorem takeDriveSettings_steady (d : DriveSettings) (s : State) : Steady s (s.takeDriveSettings d) :=
  ((drive_steady _ s).trans (classify_steady _)).trans (arbiter_steady _)

/-! ## The store (R169–R172) -/

/-- R166, R169: the marker that beginning work sets stands beside the booking places. -/
theorem beginWork_keeps (st : Store) :
    st.beginWork.places.bookings = st.places.bookings ∧ st.beginWork.reads = st.reads := by
  unfold Store.beginWork
  split
  · exact ⟨rfl, rfl⟩
  · rename_i op _
    split
    · exact ⟨rfl, rfl⟩
    · refine ⟨?_, rfl⟩
      dsimp only
      cases op.job <;> rfl

theorem acceptJob_steady (job : StoreJob) (p : Port) (s : State) : Steady s (s.acceptJob job p) := by
  have h : ∀ st : Store, st.places = s.store.places → st.reads = s.store.reads →
      Steady s { s with store := if st.reads.isEmpty then st.beginWork else st } := by
    intro st hp hr
    obtain ⟨h1, h2⟩ := beginWork_keeps st
    split
    · exact store_steady _ s (by rw [h1, hp]) (by rw [h2, hr]; exact id)
    · exact store_steady _ s (by rw [hp]) (by rw [hr]; exact id)
  exact h _ rfl rfl

theorem afterRead_steady (s : State) : Steady s s.afterRead := by
  unfold State.afterRead Store.afterReads
  split
  · obtain ⟨h1, h2⟩ := beginWork_keeps { s.store with state := s.store.state.resumed }
    exact store_steady _ s (by rw [h1]) (by rw [h2]; exact id)
  · exact store_steady _ s rfl id

theorem verified_bookings (p : Places) (job : StoreJob) :
    (p.verified job).bookings.length = p.bookings.length := by
  cases job <;> simp [Places.verified]

theorem failed_bookings (p : Places) (atB : Bool) (g : List Byte) (job : StoreJob) :
    (p.failed atB g job).bookings.length = p.bookings.length := by
  cases job <;> cases atB <;> simp [Places.failed]

theorem aborted_bookings (p : Places) (atB : Bool) (g : List Byte) (job : StoreJob) :
    (p.aborted atB g job).bookings.length = p.bookings.length := by
  cases job <;> cases atB <;> simp [Places.aborted]

theorem storePlaces_steady (job : StoreJob) (result : Completion) (s : State) :
    Steady s (s.storePlaces job result) := by
  have hf (atB : Bool) : Steady s
      { s with store := { s.store with places := s.store.places.failed atB s.garbage job } } :=
    store_steady _ s (failed_bookings _ _ _ _) id
  cases result with
  | verified => exact store_steady _ s (verified_bookings _ _) id
  | failed => exact (hf false).trans (freeCount_steady _ _)
  | failedAtCopyB => exact (hf true).trans (freeCount_steady _ _)

theorem applyVerified_steady (job : StoreJob) (s : State) : Steady s (s.applyVerified job) := by
  cases job with
  | book n r => exact (createBooking_kept n r s).steady (createBooking_tidy n r s)
  | amend n r => exact (amendBooking_kept n r s).steady (amendBooking_tidy n r s)
  | withdraw n => exact (withdrawNow_kept n s).steady (withdrawNow_tidy n s)
  | setBell b r => exact (takeBellRecord_steady b r s).trans (settle_steady _)
  | setDrive d => exact (takeDriveSettings_steady d s).trans (settle_steady _)
  | setProtection r => exact library_steady _ s
  | define m h => exact modMelody_steady m _ s
  | segment m i bytes => exact modMelody_steady m _ s
  | erase m => exact modMelody_steady m _ s

theorem applyFailed_steady (job : StoreJob) (s : State) : Steady s (s.applyFailed job) := by
  cases job with
  | book n r => exact setSlot_steady n _ s
  | amend n r => exact .refl s
  | withdraw n => exact .refl s
  | setBell b r => exact .refl s
  | setDrive d => exact .refl s
  | setProtection r => exact .refl s
  | define m h => exact modMelody_steady m _ s
  | segment m i bytes => exact modMelody_steady m _ s
  | erase m => exact modMelody_steady m _ s

theorem storeIdle_steady (s : State) : Steady s s.storeIdle := store_steady _ s rfl id

theorem completeOp_steady (op : StoreOp) (result : Completion) (s : State) :
    Steady s (s.completeOp op result) := by
  refine (storePlaces_steady op.job result s).trans ?_
  have hf (u : State) : Steady u
      ((((u.applyFailed op.job).raise .store).storeIdle).respond op.port op.job.code .storeFault []) :=
    (((applyFailed_steady op.job u).trans (raise_steady _ _)).trans (storeIdle_steady _)).trans (respond_steady ..)
  cases result with
  | verified => exact ((applyVerified_steady op.job _).trans (storeIdle_steady _)).trans (respond_steady ..)
  | failed => exact hf _
  | failedAtCopyB => exact hf _

theorem requestRead_steady (r : ReadRequest) (s : State) :
    Steady s { s with store := s.store.requestRead r } := by
  obtain ⟨reads, suspending, h⟩ := requestRead_eq s.store r
  exact store_steady _ s (by rw [h]) (requestRead_length s.store r)

theorem flagDamaged_steady (slot segment : Nat) (s : State) : Steady s (s.flagDamaged slot segment) :=
  ((modMelody_steady slot _ s).trans ((modActive_kept _ _).steady (modActive_tidy _ _))).trans (raise_steady _ _)

theorem bufferRead_steady (slot segment : Nat) (d : Option Segment) (s : State) :
    Steady s (s.bufferRead slot segment d) := by
  have hp (p : Player) : Steady s { s with player := p } := (player_kept p s).steady (player_tidy p s)
  have hretry (c : Bool) (u : State) : Steady u (if c then u.requestSegment slot segment else u) := by
    split
    · exact requestRead_steady _ u
    · exact .refl u
  have hdamage (c : Bool) (u : State) : Steady u (if c then u.flagDamaged slot segment else u) := by
    split
    · exact flagDamaged_steady slot segment u
    · exact .refl u
  exact ((hdamage _ _).after (hretry _ _)).after (hp _)

theorem portRead_steady (p : Port) (slot segment : Nat) (noise : List Byte) (s : State) :
    Steady s (s.portRead p slot segment noise) := by
  have hdraw (c : Bool) : Steady s (if c then { s with freeCount := s.freeCount + 1 } else s) := by
    split
    · exact freeCount_steady _ s
    · exact .refl s
  exact (respond_steady ..).after (hdraw _)

theorem serveRead_steady (r : ReadRequest) (noise : List Byte) (s : State) :
    Steady s (s.serveRead r noise) := by
  unfold State.serveRead
  split
  · exact .refl s
  · exact bufferRead_steady ..
  · exact portRead_steady ..

end Sys2Proof.Machine
end


section
/-! PROOFS. Every command but POWER_ON is steady, owner by owner, and what follows: O5 and O8. -/

namespace Sys2Proof.Machine

/-! ## The owners' parts of the requests -/

section
variable (p : Port) (body : List Byte) (s : State)

theorem serveBook_steady : Steady s (s.serveBook p body) := by
  unfold State.serveBook
  split
  · exact respond_steady ..
  · split
    · exact respond_steady ..
    · split
      · exact respond_steady ..
      · split
        · split
          · exact (setSlot_steady _ _ s).trans (acceptJob_steady _ p _)
          · exact respond_steady ..
        · exact ((createBooking_kept _ _ s).steady (createBooking_tidy _ _ s)).trans (respond_steady ..)

theorem amendChecked_steady (n : Nat) (b : Booking) (r : BookingRecord) : Steady s (s.amendChecked p n b r) := by
  unfold State.amendChecked
  dsimp only
  split
  · exact respond_steady ..
  · split
    · exact acceptJob_steady _ p s
    · exact ((amendBooking_kept n r s).steady (amendBooking_tidy n r s)).trans (respond_steady ..)

theorem serveAmend_steady : Steady s (s.serveAmend p body) := by
  unfold State.serveAmend
  split
  · exact respond_steady ..
  · split
    · exact respond_steady ..
    · split
      · exact respond_steady ..
      · split
        · exact respond_steady ..
        · split
          · exact respond_steady ..
          · exact amendChecked_steady ..

theorem serveWithdraw_steady : Steady s (s.serveWithdraw p body) := by
  unfold State.serveWithdraw
  split
  · exact respond_steady ..
  · split
    · exact respond_steady ..
    · split
      · exact respond_steady ..
      · split
        · exact respond_steady ..
        · split
          · exact acceptJob_steady _ p s
          · exact ((withdrawNow_kept _ s).steady (withdrawNow_tidy _ s)).trans (respond_steady ..)

theorem serveLookUp_steady : Steady s (s.serveLookUp p body) := by
  unfold State.serveLookUp
  split
  · exact respond_steady ..
  · split
    · exact respond_steady ..
    · split <;> exact respond_steady ..

theorem setCursor_steady (n : Nat) : Steady s (s.setCursor p n) := modPort_steady p _ s id

theorem serveSetCursor_steady : Steady s (s.serveSetCursor p body) := by
  unfold State.serveSetCursor
  split
  · exact respond_steady ..
  · exact (setCursor_steady p s _).trans (respond_steady ..)

theorem serveBrowse_steady : Steady s (s.serveBrowse p) := by
  unfold State.serveBrowse
  split <;> exact (setCursor_steady p s _).trans (respond_steady ..)

/-- R45: READ OUTCOMES keeps the slots of the table and empties the orphan list. -/
theorem markRead_slots (b : Book) : b.markRead.slots.length = b.slots.length := by
  suffices h : ∀ (l : List (Nat × Booking)) (b : Book),
      (l.foldl (fun b e => b.setSlot e.1 (.occupied { e.2 with unread := false })) b).slots.length =
        b.slots.length from h _ _
  intro l
  induction l with
  | nil => exact fun _ => rfl
  | cons e l ih => exact fun b => (ih _).trans (List.length_set ..)

theorem serveReadOutcomes_steady : Steady s (s.serveReadOutcomes p) := by
  have k : Kept s { s with book := s.book.markRead } :=
    .ofTables rfl rfl rfl rfl rfl rfl rfl rfl rfl id (fun _ => Nat.zero_le _) id
  exact (respond_steady ..).after (k.steady (.ofSame (markRead_slots _) rfl rfl id rfl))

theorem createImmediate_steady (n : Nat) (r : BookingRecord) (h : s.book.lowestFree = some n) :
    Steady s (s.createImmediate n r) :=
  Kept.steady ((setBooking_kept _ _ s).trans (handGroup_kept _ _)) (createImmediate_tidy n r s h)

theorem servePlayNow_steady : Steady s (s.servePlayNow p body) := by
  unfold State.servePlayNow
  split
  · exact respond_steady ..
  · split
    · exact respond_steady ..
    · split
      · exact respond_steady ..
      · exact (createImmediate_steady s _ _ ‹_›).trans (respond_steady ..)

theorem serveHalt_steady : Steady s (s.serveHalt p body) := by
  unfold State.serveHalt
  split
  · exact respond_steady ..
  · dsimp only
    split
    · exact respond_steady ..
    · split
      · exact respond_steady ..
      · exact ((halt_kept _ _ s).steady (halt_tidy _ _ s)).trans (respond_steady ..)

theorem serveLiveOpen_steady : Steady s (s.serveLiveOpen p body) := by
  unfold State.serveLiveOpen
  split
  · exact respond_steady ..
  · split
    · exact respond_steady ..
    · split
      · exact respond_steady ..
      · split
        · exact respond_steady ..
        · rename_i n hn
          have hlive : Steady s { s with live := some (.opened n) } :=
            live_steady _ s fun _ l hl => by cases hl; exact Nat.zero_le _
          exact ((respond_steady ..).after (createImmediate_steady { s with live := some (.opened n) } n _ hn)).after hlive

/-- R141: what a request appends fits the stream queue. -/
theorem append_accepted_length (l : LiveFeed) (es : List Event) (h : l.queue.length ≤ Config.streamQueueMax) :
    (l.append (l.accepted es)).queue.length ≤ Config.streamQueueMax := by
  have ha : (l.accepted es).length ≤ Config.streamQueueMax - l.queue.length := by
    unfold LiveFeed.accepted
    split
    · exact Nat.zero_le _
    all_goals
      rw [List.length_take]
      exact min_le_left _ _
  simp only [LiveFeed.append, List.length_append]
  omega

theorem serveLiveNotes_steady : Steady s (s.serveLiveNotes p body) := by
  unfold State.serveLiveNotes
  split
  · exact respond_steady ..
  · split
    · exact respond_steady ..
    · rename_i es _ _ l hl
      have hlive : Steady s { s with live := some (l.append (l.accepted es)) } :=
        live_steady _ s fun h x hx => by cases hx; exact append_accepted_length l es (h l hl)
      exact ((settle_steady _).after (respond_steady ..)).after hlive

theorem close_queue (l : LiveFeed) : l.close.queue = l.queue := by
  unfold LiveFeed.close
  split <;> rfl

theorem serveLiveClose_steady : Steady s (s.serveLiveClose p) := by
  unfold State.serveLiveClose
  split
  · exact respond_steady ..
  · rename_i l hl
    have hlive : Steady s { s with live := some l.close } :=
      live_steady _ s fun h x hx => by cases hx; rw [close_queue]; exact h l hl
    exact ((settle_steady _).after (respond_steady ..)).after hlive

theorem serveDefine_steady : Steady s (s.serveDefine p body) := by
  unfold State.serveDefine
  split
  · exact respond_steady ..
  · split
    · exact respond_steady ..
    · split
      · exact respond_steady ..
      · split
        · exact respond_steady ..
        · exact (modMelody_steady _ _ s).trans (acceptJob_steady _ p _)

theorem serveStoreSegment_steady : Steady s (s.serveStoreSegment p body) := by
  unfold State.serveStoreSegment
  split
  · exact respond_steady ..
  · dsimp only
    split
    · exact respond_steady ..
    · split
      · exact respond_steady ..
      · split
        · exact respond_steady ..
        · split
          · exact respond_steady ..
          · exact (modMelody_steady _ _ s).trans (acceptJob_steady _ p _)

theorem serveReadSegment_steady : Steady s (s.serveReadSegment p body) := by
  unfold State.serveReadSegment
  split
  · exact respond_steady ..
  · dsimp only
    split
    · exact respond_steady ..
    · exact requestRead_steady _ s

theorem serveErase_steady : Steady s (s.serveErase p body) := by
  unfold State.serveErase
  split
  · exact respond_steady ..
  · split
    · exact respond_steady ..
    · split
      · exact respond_steady ..
      · split
        · exact respond_steady ..
        · split
          · exact respond_steady ..
          · exact (modMelody_steady _ _ s).trans (acceptJob_steady _ p _)

theorem serveMelodyInfo_steady : Steady s (s.serveMelodyInfo p body) := by
  unfold State.serveMelodyInfo
  split <;> exact respond_steady ..

theorem serveSetBell_steady : Steady s (s.serveSetBell p body) := by
  unfold State.serveSetBell
  split
  · exact respond_steady ..
  · split
    · exact acceptJob_steady _ p s
    · exact respond_steady ..

theorem serveBellStatus_steady : Steady s (s.serveBellStatus p body) := by
  unfold State.serveBellStatus
  split <;> exact respond_steady ..

theorem serveRestoreBell_steady : Steady s (s.serveRestoreBell p body) := by
  unfold State.serveRestoreBell
  split
  · exact respond_steady ..
  · split
    · exact respond_steady ..
    · exact (((modBell_steady _ _ s).trans (arbiter_steady _)).trans (settle_steady _)).trans (respond_steady ..)
    all_goals exact respond_steady ..

theorem serveTestStrike_steady : Steady s (s.serveTestStrike p body) := by
  unfold State.serveTestStrike
  split
  · exact respond_steady ..
  · exact (((planTest_kept _ s).steady (planTest_tidy _ s)).trans (respond_steady ..)).trans (settle_steady _)

theorem serveSetDrive_steady : Steady s (s.serveSetDrive p body) := by
  unfold State.serveSetDrive
  split
  · exact respond_steady ..
  · split
    · exact acceptJob_steady _ p s
    · exact respond_steady ..

theorem serveProtection_steady : Steady s (s.serveProtection p body) := by
  unfold State.serveProtection
  split
  · exact respond_steady ..
  · split
    · exact respond_steady ..
    · split
      · exact (respond_steady ..).after (library_steady _ s)
      · split
        · exact acceptJob_steady _ p s
        · exact respond_steady ..

theorem serveSetTime_steady : Steady s (s.serveSetTime p body) := by
  unfold State.serveSetTime
  split
  · exact respond_steady ..
  · exact (setCalendar_steady _ s).trans (respond_steady ..)

theorem serveReadNotices_steady : Steady s (s.serveReadNotices p) :=
  (respond_steady ..).after (notices_steady _ s)

theorem serveMask_steady : Steady s (s.serveMask p body) := by
  unfold State.serveMask
  split
  · exact respond_steady ..
  · exact (respond_steady ..).after (notices_steady _ s)

theorem serveReset_steady : Steady s (s.serveReset p) := by
  refine (respond_steady p 0x1E .done [] s).trans ⟨rfl, rfl, ?_, id⟩
  simp only [withinCapacity_iff]
  exact fun ⟨h1, h2, h3, h4, h5, h6, h7⟩ => ⟨h1, h2, h3, h4, h5, h6, fun q => by cases q; exacts [h7 .main, h7 .service]⟩

/-- R184: whatever its code, a request's owner is steady. -/
theorem serve_steady (code : Byte) : Steady s (s.serve p code body) := by
  unfold State.serve
  split
  · exact serveBook_steady ..
  · exact serveAmend_steady ..
  · exact serveWithdraw_steady ..
  · exact serveLookUp_steady ..
  · exact serveSetCursor_steady ..
  · exact serveBrowse_steady ..
  · exact respond_steady ..
  · exact serveReadOutcomes_steady ..
  · exact servePlayNow_steady ..
  · exact serveHalt_steady ..
  · exact respond_steady ..
  · exact serveLiveOpen_steady ..
  · exact serveLiveNotes_steady ..
  · exact serveLiveClose_steady ..
  · exact serveDefine_steady ..
  · exact serveStoreSegment_steady ..
  · exact serveReadSegment_steady ..
  · exact serveErase_steady ..
  · exact serveMelodyInfo_steady ..
  · exact serveSetBell_steady ..
  · exact serveBellStatus_steady ..
  · exact serveRestoreBell_steady ..
  · exact serveTestStrike_steady ..
  · exact serveSetDrive_steady ..
  · exact serveProtection_steady ..
  · exact serveSetTime_steady ..
  · exact respond_steady ..
  · exact serveReadNotices_steady ..
  · exact serveMask_steady ..
  · exact serveReset_steady ..
  · exact .refl s

end

/-! ## Bytes on a port (R179–R181) -/

theorem takeFrame_steady (p : Port) (f : RequestFrame) (s : State) : Steady s (s.takeFrame p f) := by
  unfold State.takeFrame
  split
  · exact .refl s
  · split
    · exact countError_steady p s
    · exact .refl s
    · exact broadcast_steady _ s
    · exact takeRequest_steady p _ _ _ s fun u => serve_steady p _ u _

theorem frames_steady (p : Port) (n : Nat) (bs : List Byte) (s : State) : Steady s (State.frames p n bs s) := by
  induction n generalizing bs s with
  | zero => exact hunt_steady p s
  | succ n ih =>
    have hkept (h : ∀ k, scan bs ≠ .request k ∧ scan bs ≠ .passing k) : Steady s (s.keepBytes p (kept bs)) :=
      keepBytes_steady p _ s (kept_length bs h)
    unfold State.frames
    split
    case h_5 => exact (hunt_steady p s).trans (ih _ _)
    case h_6 => exact ((hunt_steady p s).trans (takeFrame_steady p _ _)).trans (ih _ _)
    all_goals
      rename_i hs
      exact hkept fun k => by rw [hs]; exact ⟨nofun, nofun⟩

theorem receive_steady (p : Port) (bytes : List Byte) (s : State) : Steady s (s.receive p bytes) := by
  unfold State.receive
  split
  · exact .refl s
  · exact frames_steady ..

/-! ## Resets and the load (R174–R177) -/

theorem placesAfterCut_bookings (s : State) (atB : Bool) :
    (s.placesAfterCut atB).bookings.length = s.store.places.bookings.length := by
  unfold State.placesAfterCut
  split
  · split
    · exact aborted_bookings ..
    · rfl
  · rfl

/-- A reset leaves every list within its bounds where the time it hands on is. -/
theorem resetWith_capacity (T : TowerTime) (lock key : Bool) (d : Drive) (straps : Straps) (cause : ResetCause)
    (atB : Bool) (s : State) (history : T.history.length ≤ Config.historyMax) (count : T.count ≤ 3) :
    (s.resetWith T lock key d straps cause atB).withinCapacity = true :=
  (withinCapacity_iff _).2 ⟨Nat.zero_le _, Nat.zero_le _, Nat.zero_le _, history, count, streamBounded_none,
    fun q => by cases q <;> exact Nat.succ_pos _⟩

/-- A reset leaves the tables sound where the booking places of the store are all there. -/
theorem resetWith_tables (T : TowerTime) (lock key : Bool) (d : Drive) (straps : Straps) (cause : ResetCause)
    (atB : Bool) (s : State) (h : s.tablesSound = true) :
    (s.resetWith T lock key d straps cause atB).tablesSound = true := by
  obtain ⟨_, hplaces, _, _⟩ := (tablesSound_iff s).1 h
  exact (tablesSound_iff _).2 ⟨List.length_replicate, (placesAfterCut_bookings s atB).trans hplaces,
    ⟨List.nodup_nil, nofun⟩, Nat.zero_le _⟩

theorem warmReset_steady (straps : Straps) (cause : ResetCause) (atB : Bool) (s : State) :
    Steady s (s.warmReset straps cause atB) where
  clock := rfl
  clockFrac := rfl
  capacity h := by
    obtain ⟨_, _, _, history, count, _⟩ := (withinCapacity_iff s).1 h
    exact resetWith_capacity _ _ _ _ _ _ _ _ history count
  tables := resetWith_tables _ _ _ _ _ _ _ s

theorem finishLoad_steady (s : State) : Steady s s.finishLoad := by
  unfold State.finishLoad
  split
  · refine Steady.trans (t := { s with
      book := ⟨s.store.places.bookings.map (loadedBooking s.time), []⟩
      drive := s.drive.afterLoad s.store.places
      library := s.library.afterLoad s.store.places
      store := { s.store with loading := false, discards := s.store.places.discardCount } }) ?_
      ((raiseIf_steady _ _ _).trans (raiseIf_steady _ _ _))
    refine ⟨rfl, rfl, ?_, ?_⟩
    · simp only [withinCapacity_iff]
      exact fun ⟨h1, h2, _, h4⟩ => ⟨h1, h2, Nat.zero_le _, h4⟩
    · simp only [tablesSound_iff]
      exact fun ⟨_, h2, h3⟩ => ⟨(List.length_map _).trans h2, h2, h3⟩
  · exact .refl s

/-! ## The lines and the clock events (R68–R71, R122–R135, R144, R145) -/

theorem hushAssert_steady (s : State) : Steady s (if s.drive.hush then s else (s.setHush true).hushActive) := by
  split
  · exact .refl s
  · exact (drive_steady _ s).trans ((hushActive_kept _).steady (hushActive_tidy _))

theorem releaseHush_steady (s : State) : Steady s s.releaseHush := by
  refine (drive_steady { s.drive with hush := false } s).trans ?_
  unfold State.releaseHush
  dsimp only
  split
  · exact .refl _
  · exact (arbiter_steady _).trans ((releaseEngine_kept _).steady (releaseEngine_tidy _))

theorem fallReady_steady (s : State) : Steady s s.fallReady :=
  (((drive_steady _ s).trans (releaseAllCoils_steady _)).trans (raise_steady _ _)).trans
    ((loseDrive_kept _).steady (loseDrive_tidy _))

theorem riseReady_steady (s : State) : Steady s s.riseReady :=
  ((((drive_steady _ s).trans (raise_steady _ _)).trans (arbiter_steady _)).trans (settle_steady _)).trans
    ((reconsider_kept _).steady (reconsider_tidy _))

theorem hammerBack_steady (b : Nat) (s : State) : Steady s (s.hammerBack b) := by
  unfold State.hammerBack
  split
  · exact .refl s
  · split
    · exact (toRecovering_steady b _ s).trans (settle_steady _)
    · exact .refl s

theorem endPulse_steady (b : Nat) (c : Cycle) (s : State) : Steady s (s.endPulse b c) :=
  (((coilOff_steady s).trans (arbiter_steady _)).trans (afterPulse_steady b c _)).trans (settle_steady _)

theorem passDeadline_steady (c : Context) (s : State) : Steady s (s.passDeadline c) := by
  refine Steady.trans (t := s.modActive fun c => { c with feedDeadline := none })
    ((modActive_kept _ s).steady (modActive_tidy _ s)) ?_
  unfold State.passDeadline
  dsimp only
  split
  · exact .refl _
  · rename_i l hl
    split
    · exact (raise_steady _ _).after (live_steady _ _ fun h x hx => by cases hx; exact h l hl)
    · exact .refl _

/-! ## Every command -/

/-- A command that answers one given next state is steady when that state is. -/
theorem steady_of_next {s t u : State} (h : Steady s u)
    (e : (Host.Outcome.next u : Host.Outcome State Fault Refusal) = .next t) : Steady s t := by
  cases e
  exact h

/-- Every command but POWER_ON is steady. -/
theorem exec_steady (c : Instr) (s t : State) (hp : ∀ pins straps b, c ≠ .powerOn pins straps b)
    (h : exec c s = .next t) : Steady s t := by
  have request (p : Port) (code : Byte) (body : List Byte) (serve : State → State)
      (hs : ∀ u, Steady u (serve u)) := takeRequest_steady p code body serve s hs
  cases c with
  | powerOn pins straps b => exact absurd rfl (hp pins straps b)
  | towerReset straps b => exact steady_of_next (warmReset_steady ..) h
  | loadComplete => exact steady_of_next (finishLoad_steady s) h
  | referencePulse => exact steady_of_next (pulse_steady s) h
  | pulseTimeout =>
    refine steady_of_next ?_ h
    split
    · exact .refl s
    · split
      · exact expirePulse_steady s
      · exact .refl s
  | normalAdvance => exact steady_of_next (normalAdvance_steady s) h
  | setTime p body => exact steady_of_next (request _ _ _ _ (serveSetTime_steady p body)) h
  | broadcastSetTime body => exact steady_of_next (broadcast_steady body s) h
  | readTime p body => exact steady_of_next (request _ _ _ _ fun u => respond_steady ..) h
  | book p body => exact steady_of_next (request _ _ _ _ (serveBook_steady p body)) h
  | amend p body => exact steady_of_next (request _ _ _ _ (serveAmend_steady p body)) h
  | withdraw p body => exact steady_of_next (request _ _ _ _ (serveWithdraw_steady p body)) h
  | lookUp p body => exact steady_of_next (request _ _ _ _ (serveLookUp_steady p body)) h
  | setCursor p body => exact steady_of_next (request _ _ _ _ (serveSetCursor_steady p body)) h
  | browse p body => exact steady_of_next (request _ _ _ _ (serveBrowse_steady p)) h
  | nextDue p body => exact steady_of_next (request _ _ _ _ fun u => respond_steady ..) h
  | readOutcomes p body => exact steady_of_next (request _ _ _ _ (serveReadOutcomes_steady p)) h
  | playNow p body => exact steady_of_next (request _ _ _ _ (servePlayNow_steady p body)) h
  | halt p body => exact steady_of_next (request _ _ _ _ (serveHalt_steady p body)) h
  | performanceStatus p body => exact steady_of_next (request _ _ _ _ fun u => respond_steady ..) h
  | liveOpen p body => exact steady_of_next (request _ _ _ _ (serveLiveOpen_steady p body)) h
  | liveNotes p body => exact steady_of_next (request _ _ _ _ (serveLiveNotes_steady p body)) h
  | liveClose p body => exact steady_of_next (request _ _ _ _ (serveLiveClose_steady p)) h
  | defineMelody p body => exact steady_of_next (request _ _ _ _ (serveDefine_steady p body)) h
  | storeSegment p body => exact steady_of_next (request _ _ _ _ (serveStoreSegment_steady p body)) h
  | readSegment p body => exact steady_of_next (request _ _ _ _ (serveReadSegment_steady p body)) h
  | eraseMelody p body => exact steady_of_next (request _ _ _ _ (serveErase_steady p body)) h
  | melodyInfo p body => exact steady_of_next (request _ _ _ _ (serveMelodyInfo_steady p body)) h
  | setBell p body => exact steady_of_next (request _ _ _ _ (serveSetBell_steady p body)) h
  | bellStatus p body => exact steady_of_next (request _ _ _ _ (serveBellStatus_steady p body)) h
  | restoreBell p body => exact steady_of_next (request _ _ _ _ (serveRestoreBell_steady p body)) h
  | testStrike p body => exact steady_of_next (request _ _ _ _ (serveTestStrike_steady p body)) h
  | setDrive p body => exact steady_of_next (request _ _ _ _ (serveSetDrive_steady p body)) h
  | setProtection p body => exact steady_of_next (request _ _ _ _ (serveProtection_steady p body)) h
  | readNotices p body => exact steady_of_next (request _ _ _ _ (serveReadNotices_steady p)) h
  | setNoticeMask p body => exact steady_of_next (request _ _ _ _ (serveMask_steady p body)) h
  | reset p body => exact steady_of_next (request _ _ _ _ (serveReset_steady p)) h
  | resetTakesEffect straps b =>
    refine steady_of_next ?_ h
    split
    · exact warmReset_steady ..
    · exact .refl s
  | unknownRequest p code body =>
    exact steady_of_next (request _ _ _ _ fun u => serve_steady p body u code) h
  | frameDiscard p bytes => exact steady_of_next (receive_steady p bytes s) h
  | foreignFrame p bytes => exact steady_of_next (receive_steady p bytes s) h
  | frameGapTimeout p bytes => exact steady_of_next ((receive_steady p bytes s).trans (gap_steady p _)) h
  | answerTransmitStart p => exact steady_of_next (startAnswer_steady p s) h
  | answerSent p => exact steady_of_next (finishAnswer_steady p s) h
  | keyChange on => exact steady_of_next (library_steady _ s) h
  | hushAssert => exact steady_of_next (hushAssert_steady s) h
  | hushRelease =>
    refine steady_of_next ?_ h
    split
    · exact releaseHush_steady s
    · exact .refl s
  | driveReadyFall =>
    refine steady_of_next ?_ h
    split
    · exact fallReady_steady s
    · exact .refl s
  | driveReadyRise =>
    refine steady_of_next ?_ h
    split
    · exact .refl s
    · exact riseReady_steady s
  | bankMeasurement value =>
    refine steady_of_next ?_ h
    split
    · exact drive_steady _ s
    · exact ((drive_steady _ s).trans (reclassify_steady _)).trans (settle_steady _)
  | sensorOpens bell => exact steady_of_next (modBell_steady _ _ s) h
  | sensorCloses bell => exact steady_of_next ((modBell_steady _ _ s).trans (hammerBack_steady _ _)) h
  | fireTimeReached => exact steady_of_next ((arbiter_steady s).trans (settle_steady _)) h
  | pulseEnd bell =>
    refine steady_of_next ?_ h
    split
    · exact .refl s
    · split
      · exact endPulse_steady _ _ s
      · exact .refl s
  | returnLimit bell =>
    refine steady_of_next ?_ h
    split
    · exact (faultBell_steady _ _ s).trans (settle_steady _)
    · exact .refl s
  | recoveryTime bell =>
    refine steady_of_next ?_ h
    split
    · exact .refl s
    · split
      · exact ((modBell_steady _ _ s).trans (arbiter_steady _)).trans (settle_steady _)
      · exact .refl s
  | entryDrop =>
    refine steady_of_next ?_ h
    split
    · exact .refl s
    · exact ((dropEntry_kept _ s).steady (dropEntry_tidy _ s)).trans (settle_steady _)
  | planningHorizonReached => exact steady_of_next (settle_steady s) h
  | feedDeadline =>
    refine steady_of_next ?_ h
    split
    · exact .refl s
    · split
      · exact .refl s
      · split
        · exact passDeadline_steady _ s
        · exact .refl s
  | idleLimit =>
    refine steady_of_next ?_ h
    split
    · exact ((endActive_kept .. : Kept s _).trans (resumeChoice_kept _)).steady
        ((endActive_tidy ..).trans (resumeChoice_tidy _))
    · exact .refl s
  | storeCompletion result =>
    refine steady_of_next ?_ h
    split
    · exact .refl s
    · split
      · exact completeOp_steady _ _ s
      · exact .refl s
  | suspendEnd =>
    refine steady_of_next ?_ h
    split
    · exact store_steady _ s rfl id
    · exact .refl s
  | segmentReadCompletion noise =>
    refine steady_of_next ?_ h
    split
    · exact .refl s
    · rename_i r rest hr
      split
      · have hserved : Steady s { s with store := { s.store with reads := rest } } :=
          store_steady _ s rfl fun hl => by rw [hr, List.length_cons] at hl; exact (Nat.le_succ _).trans hl
        exact (((settle_steady _).after (afterRead_steady _)).after (serveRead_steady r noise _)).after hserved
      · exact .refl s

/-- One step keeps what every command keeps but the clock: POWER_ON and a crystal period do too. -/
theorem step_keeps_bounds {s t : State} (h : step s = .next t) :
    (s.withinCapacity = true → t.withinCapacity = true) ∧ (s.tablesSound = true → t.tablesSound = true) := by
  unfold step at h
  split at h
  · cases h
    exact ⟨id, id⟩
  · rename_i c rest _
    by_cases hp : ∃ pins straps b, c = .powerOn pins straps b
    · obtain ⟨pins, straps, b, rfl⟩ := hp
      cases h
      exact ⟨fun _ => resetWith_capacity _ _ _ _ _ _ _ _ (Nat.zero_le _) (Nat.zero_le _),
        resetWith_tables _ _ _ _ _ _ _ { s with pending := rest }⟩
    · have hs := exec_steady c _ t (fun pins straps b e => hp ⟨pins, straps, b, e⟩) h
      exact ⟨hs.capacity, hs.tables⟩

/-- Settles O8: every command keeps the bounds (`exec_steady`), and so do POWER_ON and a crystal period. -/
theorem capacitiesAreKept : Obligations.CapacitiesAreKept := by
  unfold Obligations.CapacitiesAreKept
  exact ⟨fun s t hc h => (step_keeps_bounds h).1 hc, fun s t hc h => (step_keeps_bounds h).2 hc⟩

/-- Settles O5: every command but POWER_ON is steady, and POWER_ON starts the clock from 0. -/
theorem onlyPowerOnSetsTheClock : Obligations.OnlyPowerOnSetsTheClock := by
  unfold Obligations.OnlyPowerOnSetsTheClock
  intro c s t h
  by_cases hp : ∃ pins straps b, c = .powerOn pins straps b
  · right
    refine ⟨hp, ?_⟩
    obtain ⟨pins, straps, b, rfl⟩ := hp
    cases h
    exact ⟨rfl, rfl⟩
  · have hs := exec_steady c s t (fun pins straps b e => hp ⟨pins, straps, b, e⟩) h
    exact .inl ⟨hs.clock, hs.clockFrac⟩

end Sys2Proof.Machine
end


section
/-! PROOFS. One period of the crystal and any number of them (R1, R2), and the empty-queue step: O4 and O2. -/

namespace Sys2Proof.Machine

/-! ## The performance clock (R1) -/

theorem period_clock (t : TowerTime) :
    t.period.clock * 512 + t.period.clockFrac = t.clock * 512 + t.clockFrac + 15625 := by
  simp only [TowerTime.period, Config.periodTicks]
  omega

theorem period_clockFrac (t : TowerTime) : t.period.clockFrac < 512 := Nat.mod_lt _ (by decide)

/-- R1: no error builds up. -/
theorem iterate_period_clock (n : Nat) (t : TowerTime) :
    (Nat.iterate TowerTime.period n t).clock * 512 + (Nat.iterate TowerTime.period n t).clockFrac =
        t.clock * 512 + t.clockFrac + n * 15625 ∧
      (1 ≤ n → (Nat.iterate TowerTime.period n t).clockFrac < 512) := by
  induction n with
  | zero => simp
  | succ n ih =>
    rw [Function.iterate_succ_apply', period_clock]
    exact ⟨by omega, fun _ => period_clockFrac _⟩

/-! ## The calendar (R2) -/

/-- The ten-millionths of a µs of corrected time in one µs of the performance clock (R2). -/
def TowerTime.rate (t : TowerTime) : Nat := (10000000 + t.correction).toNat

/-- What is left of a slew when `acc` µs of corrected time count toward it (R2). -/
def slewLeft (slew : Int) (acc : Nat) : Int := slew - slewStep slew acc

theorem slewLeft_of_nonneg {slew : Int} (h : 0 ≤ slew) (acc : Nat) :
    slewLeft slew acc = max 0 (slew - (acc / 499 : Nat)) := by
  simp only [slewLeft, slewStep, slewPeriod, if_pos h]
  omega

theorem slewLeft_of_neg {slew : Int} (h : slew < 0) (acc : Nat) :
    slewLeft slew acc = min 0 (slew + (acc / 501 : Nat)) := by
  simp only [slewLeft, slewStep, slewPeriod, if_neg (Int.not_le.2 h)]
  omega

/-- `u` is `t` after its calendar has run on until its fraction has counted `fine` ten-millionths of a µs: the whole
µs are in the sub-second count and the slew together, and count toward what the slew has applied. -/
structure CalendarRun (t u : TowerTime) (fine : Nat) : Prop where
  subFrac : u.subFrac = fine % 10000000
  total : (u.sub : Int) + u.slew = t.sub + t.slew + (fine / 10000000 : Nat)
  slew : u.slew = slewLeft t.slew (t.slewAcc + fine / 10000000)
  counted : u.slew ≠ 0 → u.slewAcc = (t.slewAcc + fine / 10000000) % slewPeriod t.slew
  second : u.second = t.second
  correction : u.correction = t.correction

theorem CalendarRun.refl (t : TowerTime) (hfrac : t.subFrac < 10000000) (hacc : t.slewAcc < slewPeriod t.slew) :
    CalendarRun t t t.subFrac := by
  have hfine : t.subFrac / 10000000 = 0 := Nat.div_eq_of_lt hfrac
  refine ⟨(Nat.mod_eq_of_lt hfrac).symm, by rw [hfine]; omega, ?_, fun _ => ?_, rfl, rfl⟩
  · rw [hfine, Nat.add_zero]
    unfold slewPeriod at hacc
    split at hacc
    case isTrue h => rw [slewLeft_of_nonneg h, Nat.div_eq_of_lt hacc]; omega
    case isFalse h => rw [slewLeft_of_neg (Int.not_le.1 h), Nat.div_eq_of_lt hacc]; omega
  · rw [hfine, Nat.add_zero, Nat.mod_eq_of_lt hacc]

/-- What the calendar takes up of `raw` µs, with a slew pending or not. -/
theorem runCalendar_eq (u : TowerTime) (raw : Nat) :
    let fine := u.subFrac + raw * u.rate
    let acc := if u.slew = 0 then 0 else u.slewAcc + fine / 10000000
    u.runCalendar raw = { u with
      sub := ((u.sub + fine / 10000000 : Nat) + (u.slew - slewLeft u.slew acc)).toNat
      subFrac := fine % 10000000
      slew := slewLeft u.slew acc
      slewAcc := acc % slewPeriod u.slew } := by
  simp [TowerTime.runCalendar, slewLeft, TowerTime.rate]

/-- R2: the calendar runs on for `raw` µs more. -/
theorem CalendarRun.runCalendar {t u : TowerTime} {fine : Nat} (h : CalendarRun t u fine) (raw : Nat) :
    CalendarRun t (u.runCalendar raw) (fine + raw * t.rate) := by
  obtain ⟨hfrac, htotal, hslew, hcounted, hsecond, hcorrection⟩ := h
  have hrate : u.rate = t.rate := by rw [TowerTime.rate, hcorrection]; rfl
  rw [runCalendar_eq, hrate, hfrac]
  generalize raw * t.rate = more
  have hdiv : (fine + more) / 10000000 = fine / 10000000 + (fine % 10000000 + more) / 10000000 := by omega
  have hmod : (fine + more) % 10000000 = (fine % 10000000 + more) % 10000000 := by omega
  generalize (fine % 10000000 + more) / 10000000 = whole at hdiv
  refine ⟨hmod.symm, ?_, ?_, ?_, hsecond, hcorrection⟩ <;> rw [hdiv] <;> dsimp only
  all_goals
    generalize fine / 10000000 = run at *
    rcases Int.lt_or_le t.slew 0 with hneg | hpos
    · rw [slewLeft_of_neg hneg] at *
      rcases Int.lt_or_le u.slew 0 with hu | hu
      · have hne : u.slew ≠ 0 := by omega
        simp only [slewPeriod, if_neg (Int.not_le.2 hneg), if_neg (Int.not_le.2 hu), if_neg hne,
          slewLeft_of_neg hu] at *
        omega
      · have h0 : u.slew = 0 := by omega
        simp only [h0, if_true, slewLeft_of_nonneg (le_refl 0)] at *
        omega
    · rw [slewLeft_of_nonneg hpos] at *
      rcases eq_or_ne u.slew 0 with h0 | hne
      · simp only [h0, if_true, slewLeft_of_nonneg (le_refl 0)] at *
        omega
      · have hu : 0 ≤ u.slew := by omega
        simp only [slewPeriod, if_pos hpos, if_pos hu, if_neg hne, slewLeft_of_nonneg hu] at *
        omega

/-- R1, R2: one period of the crystal more. -/
theorem CalendarRun.period {t u : TowerTime} {fine : Nat} (h : CalendarRun t u fine) :
    CalendarRun t u.period (fine + (u.period.clock - u.clock) * t.rate) := by
  have hclock : u.period.clock - u.clock = (u.clockFrac + Config.periodTicks) / 512 := Nat.add_sub_cancel_left _ _
  rw [hclock]
  obtain ⟨h1, h2, h3, h4, h5, h6⟩ := h.runCalendar ((u.clockFrac + Config.periodTicks) / 512)
  exact ⟨h1, h2, h3, h4, h5, h6⟩

theorem clock_le_period (t : TowerTime) : t.clock ≤ t.period.clock := Nat.le_add_right _ _

/-- R1, R2: any number of periods. -/
theorem CalendarRun.iterate (t : TowerTime) (hfrac : t.subFrac < 10000000) (hacc : t.slewAcc < slewPeriod t.slew)
    (n : Nat) :
    t.clock ≤ (Nat.iterate TowerTime.period n t).clock ∧ CalendarRun t (Nat.iterate TowerTime.period n t)
      (t.subFrac + ((Nat.iterate TowerTime.period n t).clock - t.clock) * t.rate) := by
  induction n with
  | zero => exact ⟨le_refl _, by simpa using CalendarRun.refl t hfrac hacc⟩
  | succ n ih =>
    obtain ⟨hle, hrun⟩ := ih
    rw [Function.iterate_succ_apply']
    generalize Nat.iterate TowerTime.period n t = u at hle hrun
    have hle' := clock_le_period u
    refine ⟨hle.trans hle', ?_⟩
    have hsplit : u.period.clock - t.clock = (u.clock - t.clock) + (u.period.clock - u.clock) := by omega
    rw [hsplit, Nat.add_mul, ← Nat.add_assoc]
    exact hrun.period

/-- R2: with no slew pending one period adds to the calendar what passes, the fraction carried. -/
theorem period_of_noSlew (t : TowerTime) (h : t.slew = 0) :
    t.period.sub * 10000000 + t.period.subFrac =
        t.sub * 10000000 + t.subFrac + (t.period.clock - t.clock) * t.rate ∧
      t.period.subFrac < 10000000 ∧ t.period.slew = 0 ∧ t.period.second = t.second ∧
      t.period.correction = t.correction := by
  have hclock : t.period.clock - t.clock = (t.clockFrac + Config.periodTicks) / 512 := Nat.add_sub_cancel_left _ _
  rw [hclock]
  simp only [TowerTime.period, runCalendar_eq, h, if_true, slewLeft_of_nonneg (le_refl 0)]
  generalize (t.clockFrac + Config.periodTicks) / 512 * t.rate = more
  refine ⟨?_, Nat.mod_lt _ (by decide), by simp, trivial, trivial⟩
  omega

/-- R2: with no slew pending any number of periods does so. -/
theorem iterate_period_of_noSlew (n : Nat) (t : TowerTime) (h : t.slew = 0) :
    let u := Nat.iterate TowerTime.period n t
    t.clock ≤ u.clock ∧
      u.sub * 10000000 + u.subFrac = t.sub * 10000000 + t.subFrac + (u.clock - t.clock) * t.rate ∧
      (1 ≤ n → u.subFrac < 10000000) ∧ u.slew = 0 ∧ u.second = t.second ∧ u.correction = t.correction := by
  induction n with
  | zero => simp [h]
  | succ n ih =>
    rw [Function.iterate_succ_apply']
    generalize Nat.iterate TowerTime.period n t = u at ih
    obtain ⟨hle, hsum, _, hslew, hsecond, hcorrection⟩ := ih
    obtain ⟨hsum', hfrac', hslew', hsecond', hcorrection'⟩ := period_of_noSlew u hslew
    have hle' := clock_le_period u
    refine ⟨hle.trans hle', ?_, fun _ => hfrac', hslew', hsecond'.trans hsecond, hcorrection'.trans hcorrection⟩
    have hrate : u.rate = t.rate := by rw [TowerTime.rate, hcorrection]; rfl
    have hsplit : (u.period.clock - t.clock) * t.rate =
        (u.clock - t.clock) * t.rate + (u.period.clock - u.clock) * t.rate := by
      rw [← Nat.add_mul]
      congr 1
      omega
    rw [hsum', hsum, hrate, hsplit, Nat.add_assoc _ (_ * t.rate)]

/-- Settles O4: the performance clock by `iterate_period_clock`, the calendar by induction over the periods, without
a slew (`iterate_period_of_noSlew`) and with one (`CalendarRun.iterate`). -/
theorem clocksRunExactly : Obligations.ClocksRunExactly := by
  unfold Obligations.ClocksRunExactly
  refine ⟨fun n t hclock hfrac => ?_, fun n t hslew hlow _ => ?_, fun n t _ _ hfrac hacc => ?_⟩
  · obtain ⟨hsum, hlt⟩ := iterate_period_clock n t
    rcases Nat.eq_zero_or_pos n with rfl | hn
    · simp [hclock]
    · have := hlt hn
      omega
  · obtain ⟨hle, hsum, hrest⟩ := iterate_period_of_noSlew n t hslew
    refine ⟨?_, hrest⟩
    have hrate : ((t.rate : Nat) : Int) = 10000000 + t.correction := Int.toNat_of_nonneg (by omega)
    rw [← hrate, ← Int.ofNat_sub hle]
    exact_mod_cast hsum
  · obtain ⟨_, hrun⟩ := CalendarRun.iterate t hfrac hacc n
    refine ⟨hrun.total, fun h => ?_, fun h => ?_, hrun.second, hrun.correction⟩
    · rw [hrun.slew, slewLeft_of_nonneg h]
      rfl
    · rw [hrun.slew, slewLeft_of_neg h]
      rfl

/-! ## The commands that fall due in a period -/

@[simp] theorem mem_whenDue {c : Bool} {i j : Instr} : j ∈ whenDue c i ↔ c = true ∧ j = i := by
  cases c <;> simp [whenDue]

theorem mem_numberedBells {s : State} {e : Fin 64 × Bell} : e ∈ s.numberedBells ↔ e.2 = s.bell e.1 := by
  simp only [State.numberedBells, List.mem_map, List.mem_finRange, true_and]
  exact ⟨fun ⟨i, hi⟩ => by rw [← hi], fun h => ⟨e.1, by rw [← h]⟩⟩

theorem reached_iff {t : Option Nat} {now : Nat} : reached t now = true ↔ ∃ d, t = some d ∧ d ≤ now := by
  cases t <;> simp [reached]

section
variable (s : State) (old : Nat)

theorem normalAdvance_mem_dueCommands :
    Instr.normalAdvance ∈ s.dueCommands old ↔ 1000000 ≤ s.time.sub := by
  simp [State.dueCommands]

theorem pulseTimeout_mem_dueCommands :
    Instr.pulseTimeout ∈ s.dueCommands old ↔ ∃ d, s.time.timeout = some d ∧ d ≤ s.now := by
  simp [State.dueCommands, reached_iff]

theorem feedDeadline_mem_dueCommands : Instr.feedDeadline ∈ s.dueCommands old ↔
    ∃ c d, s.engine.active = some c ∧ c.feedDeadline = some d ∧ d ≤ s.now := by
  simp only [State.dueCommands, List.mem_append, List.mem_flatMap, List.mem_map, mem_whenDue, reached_iff,
    Option.bind_eq_some_iff, reduceCtorEq, and_false, exists_false, false_or, or_false, and_true]
  exact ⟨fun ⟨d, ⟨c, hc, hd⟩, h⟩ => ⟨c, d, hc, hd, h⟩, fun ⟨c, d, hc, hd, h⟩ => ⟨d, ⟨c, hc, hd⟩, h⟩⟩

theorem pulseEnd_mem_dueCommands (b : Fin 64) : Instr.pulseEnd b ∈ s.dueCommands old ↔
    (s.bell b).state = .driven ∧ ∃ c, (s.bell b).cycle = some c ∧ c.a + c.width ≤ s.now := by
  have hover : (s.bell b).pulseOver s.now = true ↔
      (s.bell b).state = .driven ∧ ∃ c, (s.bell b).cycle = some c ∧ c.a + c.width ≤ s.now := by
    simp [Bell.pulseOver, reached_iff, Cycle.pulseEnd]
  rw [← hover]
  simp only [State.dueCommands, List.mem_append, List.mem_flatMap, List.mem_map, mem_whenDue, mem_numberedBells,
    reduceCtorEq, and_false, exists_false, false_or, or_false, Instr.pulseEnd.injEq]
  exact ⟨fun ⟨e, he, h, hb⟩ => by rw [hb, ← he]; exact h, fun h => ⟨(b, s.bell b), rfl, h, rfl⟩⟩

theorem fireTimeReached_mem_dueCommands : Instr.fireTimeReached ∈ s.dueCommands old ↔
    ∃ e ∈ s.planner.queue, old < e.fireTime ∧ e.fireTime ≤ s.now := by
  simp [State.dueCommands, crossed]

end

/-- Settles O2: the period is `period_clock`, and the queue is what `State.dueCommands` lists. -/
theorem emptyQueuePassesOnePeriod : Obligations.EmptyQueuePassesOnePeriod := by
  unfold Obligations.EmptyQueuePassesOnePeriod
  intro s hs
  have hstep : step s = .next s.tick := by simp [step, hs]
  have hpending : s.tick.pending = s.runPeriod.dueCommands s.time.clock := rfl
  refine ⟨s.tick, hstep, period_clock s.time, period_clockFrac s.time, ?_, rfl, hpending, ?_⟩
  · obtain ⟨⟩ := s
    cases hs
    rfl
  · rw [hpending]
    exact ⟨normalAdvance_mem_dueCommands .., pulseTimeout_mem_dueCommands .., feedDeadline_mem_dueCommands ..,
      pulseEnd_mem_dueCommands _ _, fireTimeReached_mem_dueCommands ..⟩

end Sys2Proof.Machine
end


section
/-! PROOFS. The status requests (R14, R73, R121) and what the resets leave (R174, R175): O48 and O18. -/

namespace Sys2Proof.Machine

/-! ## Status requests -/

/-- R182, R184: a request that reaches an owner who answers at once. -/
theorem takeRequest_answered {s : State} {p : Port} {code : Byte} {body : List Byte}
    (h : s.takes p code body.length = true) {serve : State → State} {a : AnswerCode} {answer : List Byte}
    (hs : serve (s.taken p) = (s.taken p).respond p code a answer) :
    s.takeRequest p code body serve = s.answered p code a answer := by
  rw [takeRequest_takes h, hs, respond_taken _ _ _ (resetPending_of_takes h)]

theorem shown_of_lt {t : TowerTime} (h : t.sub < 1000000) : t.shown = t := if_pos h

/-- Log 42: with the normal advance of this instant waiting, the clock is shown as that advance leaves it. -/
theorem shown_of_waiting {t : TowerTime} (h : 1000000 ≤ t.sub) (h2 : t.sub < 2000000)
    (hs : t.second < 3155760000) :
    t.shown = if t.second + 1 = 3155760000
      then { t with second := 0, sub := t.sub - 1000000, state := .unset }
      else { t with second := t.second + 1, sub := t.sub - 1000000 } := by
  have hdiv : t.sub / 1000000 = 1 := by omega
  have hmod : t.sub % 1000000 = t.sub - 1000000 := by omega
  have hcal : Config.calendarSeconds = 3155760000 := rfl
  unfold TowerTime.shown
  rw [if_neg (Nat.not_lt.2 h)]
  simp only [hdiv, hmod, hcal]
  by_cases he : t.second + 1 = 3155760000
  · simp [he]
  · rw [if_neg he, if_pos (by omega)]

theorem byteField_ofNat {b hi : Nat} (h : b ≤ hi) (hhi : hi < 256) : byteField [BitVec.ofNat 8 b] 0 0 hi = some b := by
  have hb : b % 256 = b := Nat.mod_eq_of_lt (by omega)
  simp [byteField, inRange, byteAt, hb, h]

/-- Settles O48: each request is taken and answered at once (`takeRequest_answered`). -/
theorem statusRequestsAnswer : Obligations.StatusRequestsAnswer := by
  unfold Obligations.StatusRequestsAnswer
  intro p s
  refine ⟨fun h => ?_, fun h => ?_, fun b hb h => ?_⟩
  · have hread : exec (.readTime p []) s = .next (s.answered p 0x1B .done s.time.shown.encode) :=
      congrArg Host.Outcome.next (takeRequest_answered (body := []) h rfl)
    refine ⟨fun hsub => ?_, fun hlow hhigh hsecond => ?_⟩
    · rw [hread, shown_of_lt hsub]
    · rw [hread, shown_of_waiting hlow hhigh hsecond, apply_ite TowerTime.encode]
  · exact congrArg Host.Outcome.next (takeRequest_answered (body := []) h rfl)
  · refine congrArg Host.Outcome.next (takeRequest_answered (body := [BitVec.ofNat 8 b]) h ?_)
    simp only [State.serveBellStatus, byteField_ofNat (Nat.le_of_lt_succ hb) (by decide)]
    rfl

/-! ## What a reset leaves -/

/-- R174: the places an operation at work leaves when a reset cuts it. -/
theorem aborted_cutLeaves (places : Places) (atB : Bool) (g : List Byte) (job : StoreJob) :
    job.cutLeaves atB places (places.aborted atB g job) := by
  cases job with
  | segment m i bytes => exact ⟨g, rfl⟩
  | setProtection r => cases atB <;> rfl
  | _ => rfl

/-- R174, log 13: an operation whose work has not begun leaves the places as they are. -/
theorem placesAfterCut_of_idle {s : State} (h : ∀ op, s.store.op = some op → op.begun = false) (atB : Bool) :
    s.placesAfterCut atB = s.store.places := by
  unfold State.placesAfterCut
  split
  · rename_i op hop
    simp [h op hop]
  · rfl

theorem placesAfterCut_of_work {s : State} {job : StoreJob} {p : Port} (h : s.store.op = some ⟨job, p, true⟩)
    (atB : Bool) : job.cutLeaves atB s.store.places (s.placesAfterCut atB) := by
  simp only [State.placesAfterCut, h, if_true]
  exact aborted_cutLeaves ..

/-- R138, log 9: from a reset to the end of the load every bell stands as new at its input level. -/
theorem getD_map_initial (sensors : List Bool) (n : Nat) :
    (sensors.map Bell.initial).getD n (.initial false) = .initial (sensors.getD n false) := by
  rw [List.getD_map]

theorem sensors_getD (d : Drive) (n : Nat) :
    d.sensors.getD n false = (d.bells.getD n (.initial false)).sensorOpen :=
  List.getD_map (d := Bell.initial false) ..

theorem pinLevels_getD (pins : Pins) {n : Nat} (h : n < 64) :
    (pinLevels pins).getD n false = pins.sensors.getLsbD n := by
  have hn : n < Config.bells := h
  simp [pinLevels, List.getD_eq_getElem?_getD, hn]

/-- Settles O18: `State.resetWith` gives the blocks, the two facts above the places. -/
theorem resetsEmptyTheBlocks : Obligations.ResetsEmptyTheBlocks := by
  unfold Obligations.ResetsEmptyTheBlocks
  refine ⟨fun straps b s => ?_, fun pins straps b s => ?_⟩
  · refine ⟨s.warmReset straps .towerReset b, rfl, rfl, rfl, rfl, rfl, rfl, rfl, fun n => ?_, rfl, rfl, rfl, rfl,
      rfl, rfl, rfl, rfl, rfl, rfl, rfl, rfl, rfl, fun h => placesAfterCut_of_idle h b,
      fun job p h => placesAfterCut_of_work h b⟩
    have hbell : (s.warmReset straps .towerReset b).bell n = .initial (s.bell n).sensorOpen :=
      (getD_map_initial _ n).trans (congrArg _ (sensors_getD s.drive n))
    rw [hbell]
    exact ⟨rfl, rfl⟩
  · refine ⟨s.powerUp pins straps b, rfl, rfl, rfl, rfl, rfl, rfl, rfl, fun n hn => ?_, rfl, rfl, rfl, rfl,
      rfl, rfl, rfl, rfl, rfl, rfl, rfl, rfl, rfl, fun h => placesAfterCut_of_idle h b,
      fun job p h => placesAfterCut_of_work h b⟩
    have hbell : (s.powerUp pins straps b).bell n = .initial (pins.sensors.getLsbD n) :=
      (getD_map_initial _ n).trans (congrArg _ (pinLevels_getD pins hn))
    rw [hbell]
    exact ⟨rfl, rfl⟩

end Sys2Proof.Machine
end


section
/-! PROOFS. What a calendar report does to one booking (R25–R37): the report deals with the bookings one by one, and
none of them touches another; then the timeout, the normal advance and the end of the range: O23. -/

namespace Sys2Proof.Machine

/-! ## One slot of the table (R17) -/

theorem booking?_setSlot_ne {s : State} {n m : Nat} (hn : 1 ≤ n) (h : m ≠ n) (v : Slot) :
    (s.setSlot n v).booking? m = s.booking? m := by
  cases m with
  | zero => rfl
  | succ m =>
    have hne : n - 1 ≠ m := by omega
    simp [State.booking?, Book.booking?, State.setSlot, Book.setSlot, List.getElem?_set_ne hne]

/-- The slot of a booking holds what is put there. -/
theorem getElem?_setSlot {s : State} {n : Nat} {b : Booking} (h : s.booking? n = some b) (v : Slot) :
    ∃ k, n = k + 1 ∧ (s.setSlot n v).book.slots[k]? = some v := by
  obtain ⟨hpos, hle⟩ := booking?_range h
  exact ⟨n - 1, by omega, List.getElem?_set_self (by omega)⟩

theorem booking?_setBooking {s : State} {n : Nat} {b : Booking} (h : s.booking? n = some b) (b' : Booking) :
    (s.setBooking n b').booking? n = some b' := by
  obtain ⟨k, rfl, hk⟩ := getElem?_setSlot h (.occupied b')
  simp [State.booking?, Book.booking?, State.setBooking, hk]

theorem booking?_removeBooking {s : State} {n : Nat} {b : Booking} (h : s.booking? n = some b) :
    (s.removeBooking n).booking? n = none := by
  obtain ⟨k, rfl, hk⟩ := getElem?_setSlot h .free
  have hbook : (s.removeBooking (k + 1)).book = (s.setSlot (k + 1) .free).book := rfl
  simp [State.booking?, Book.booking?, hbook, hk]

@[simp] theorem booking?_raise (m : Nat) (k : Notice) (s : State) : (s.raise k).booking? m = s.booking? m := rfl

@[simp] theorem booking?_sortWaiting (m : Nat) (s : State) : s.sortWaiting.booking? m = s.booking? m := rfl

@[simp] theorem booking?_joinWaiting (m : Nat) (ns : List Nat) (s : State) :
    (s.joinWaiting ns).booking? m = s.booking? m := rfl

@[simp] theorem booking?_leaveWaiting (m n : Nat) (s : State) : (s.leaveWaiting n).booking? m = s.booking? m := rfl

/-! ## The booking alone (R22, R23, R30, R31) -/

/-- R23: the state of a booking at rest. -/
theorem restState_not_busy (b : Booking) (t : TowerTime) (h : b.state = b.restState t) : b.busy = false := by
  unfold Booking.restState at h
  unfold Booking.busy
  split at h
  · rw [h]
  · split at h
    · rw [h]
    · split at h <;> rw [h]

/-- R31: a booking that goes on is at rest, its next occurrence found again. -/
theorem goOn_eq (b : Booking) (t : TowerTime) :
    b.goOn t = { b with
      next := b.nextOccurrence t
      state := ({ b with next := b.nextOccurrence t } : Booking).restState t } := rfl

theorem goOn_busy (b : Booking) (t : TowerTime) : (b.goOn t).busy = false := restState_not_busy _ t rfl

/-- R22: an UNSET calendar has no next occurrence. -/
theorem nextOccurrence_of_unset {t : TowerTime} (b : Booking) (h : t.state = .unset) : b.nextOccurrence t = none := by
  simp [Booking.nextOccurrence, Booking.nextAfter, h]

/-- R30, R31: the booking a disposal leaves, where it goes on. -/
theorem dispose_goesOn {s : State} {n : Nat} {b : Booking} (h : s.booking? n = some b)
    (hk : b.record.kind.immediate = false) (k : OutcomeKind) (c : Option OutcomeCause) (x : StrikeCounts) :
    (s.dispose n k c x false).booking? n = some ((b.write ⟨k, c, b.current, x⟩).goOn s.time) := by
  simp only [State.dispose, h, hk, Bool.or_false, Bool.false_eq_true, if_false]
  exact booking?_setBooking (s := s.raise .outcome) h _

/-- R30, R32: a NOW or LIVE booking goes with its disposal. -/
theorem dispose_removes {s : State} {n : Nat} {b : Booking} (h : s.booking? n = some b)
    (hk : b.record.kind.immediate = true) (k : OutcomeKind) (c : Option OutcomeCause) (x : StrikeCounts)
    (w : Bool) : (s.dispose n k c x w).booking? n = none := by
  simp only [State.dispose, h, hk, Bool.true_or, if_true]
  exact booking?_removeBooking (s := { s.raise .outcome with book := (s.raise .outcome).book.orphan _ }) h

/-! ## Operations on one booking -/

/-- From `s` to `t` no booking but `n` changed, and none that did not wait waits. -/
structure OnlyBooking (n : Nat) (s t : State) : Prop where
  book : ∀ m, m ≠ n → t.booking? m = s.booking? m
  waiting : ∀ m, m ∈ t.engine.waiting → m ∈ s.engine.waiting

theorem OnlyBooking.refl (n : Nat) (s : State) : OnlyBooking n s s := ⟨fun _ _ => rfl, fun _ => id⟩

theorem OnlyBooking.trans {n : Nat} {s t u : State} (h : OnlyBooking n s t) (g : OnlyBooking n t u) :
    OnlyBooking n s u :=
  ⟨fun m hm => (g.book m hm).trans (h.book m hm), fun m hm => h.waiting m (g.waiting m hm)⟩

theorem setBooking_only {n : Nat} (hn : 1 ≤ n) (b : Booking) (s : State) : OnlyBooking n s (s.setBooking n b) :=
  ⟨fun _ hm => booking?_setSlot_ne hn hm _, fun _ => id⟩

theorem raise_only (n : Nat) (k : Notice) (s : State) : OnlyBooking n s (s.raise k) :=
  ⟨fun _ _ => rfl, fun _ => id⟩

theorem leaveWaiting_only (n : Nat) (s : State) : OnlyBooking n s (s.leaveWaiting n) :=
  ⟨fun _ _ => rfl, fun _ h => List.mem_of_mem_filter h⟩

theorem not_mem_leaveWaiting (n : Nat) (s : State) : n ∉ (s.leaveWaiting n).engine.waiting := by
  simp [State.leaveWaiting]

theorem dispose_only {n : Nat} (hn : 1 ≤ n) (k : OutcomeKind) (c : Option OutcomeCause) (x : StrikeCounts) (w : Bool)
    (s : State) : OnlyBooking n s (s.dispose n k c x w) := by
  refine ⟨fun m hm => ?_, fun m h => by rwa [dispose_engine] at h⟩
  unfold State.dispose
  split
  · rfl
  · dsimp only
    split
    · exact booking?_setSlot_ne (s := { s with book := s.book.orphan _ }) hn hm _
    · exact booking?_setSlot_ne hn hm _

theorem dueNow_only {n : Nat} (hn : 1 ≤ n) (s : State) : OnlyBooking n s (s.dueNow n).1 := by
  unfold State.dueNow
  split
  · exact .refl n s
  · split
    · split
      · exact setBooking_only hn _ s
      · exact (setBooking_only hn _ s).trans (raise_only n _ _)
      · exact (setBooking_only hn _ s).trans (raise_only n _ _)
      · exact (setBooking_only hn _ s).trans (raise_only n _ _)
      · exact .refl n s
      · exact .refl n s
    · exact .refl n s

/-! ## A pass over the bookings -/

/-- Dealing with one booking: it keeps what the performance side keeps, and touches no other booking. -/
structure OneByOne (f : Nat → Booking → State → State × Bool) : Prop where
  kept : ∀ n b s, Kept s (f n b s).1
  only : ∀ n b s, 1 ≤ n → OnlyBooking n s (f n b s).1

/-- A booking the pass does not come to. -/
theorem passed_over {f : Nat → Booking → State → State × Bool} (hf : OneByOne f) {n : Nat} {l : List Nat}
    (hl : ∀ m ∈ l, 1 ≤ m) (hn : n ∉ l) (p : Pass) :
    Kept p.1 (l.foldl (Pass.one f) p).1 ∧ (l.foldl (Pass.one f) p).1.booking? n = p.1.booking? n ∧
      (n ∈ (l.foldl (Pass.one f) p).2 ↔ n ∈ p.2) ∧
      (n ∈ (l.foldl (Pass.one f) p).1.engine.waiting → n ∈ p.1.engine.waiting) := by
  induction l generalizing p with
  | nil => exact ⟨.refl _, rfl, .rfl, id⟩
  | cons m l ih =>
    have hne : n ≠ m := fun h => hn (h ▸ List.mem_cons_self)
    obtain ⟨hk, hb, hd, hw⟩ := ih (fun k hk => hl k (List.mem_cons_of_mem _ hk))
      (fun h => hn (List.mem_cons_of_mem _ h)) (Pass.one f p m)
    have hone : Kept p.1 (Pass.one f p m).1 ∧ (Pass.one f p m).1.booking? n = p.1.booking? n ∧
        (n ∈ (Pass.one f p m).2 ↔ n ∈ p.2) ∧
        (n ∈ (Pass.one f p m).1.engine.waiting → n ∈ p.1.engine.waiting) := by
      unfold Pass.one
      split
      · exact ⟨.refl _, rfl, .rfl, id⟩
      · rename_i b _
        have hkept := hf.kept m b p.1
        have honly := hf.only m b p.1 (hl m List.mem_cons_self)
        split
        all_goals
          rename_i t ht
          rw [ht] at hkept honly
          exact ⟨hkept, honly.book n hne, by simp [hne], honly.waiting n⟩
    obtain ⟨hk1, hb1, hd1, hw1⟩ := hone
    exact ⟨hk1.trans hk, hb.trans hb1, hd.trans hd1, fun h => hw1 (hw h)⟩

/-- A booking meets the pass in a state `u` that has it as it was, and leaves as it left that state. -/
theorem pass_booking {f : Nat → Booking → State → State × Bool} (hf : OneByOne f) {s : State} {n : Nat} {b : Booking}
    (hb : s.booking? n = some b) (hn : n ≤ Config.bookingSlots) :
    ∃ u, Kept s u ∧ u.booking? n = some b ∧ (s.pass f).1.booking? n = (f n b u).1.booking? n ∧
      (n ∈ (s.pass f).2 ↔ (f n b u).2 = true) ∧
      (n ∈ (s.pass f).1.engine.waiting → n ∈ (f n b u).1.engine.waiting) := by
  obtain ⟨before, after, hsplit⟩ :=
    List.append_of_mem (mem_slotNumbers.2 ⟨(booking?_range hb).1, hn⟩)
  have hnodup := slotNumbers_sound.1
  rw [hsplit, List.nodup_append, List.nodup_cons] at hnodup
  obtain ⟨_, ⟨hafter, _⟩, hdisjoint⟩ := hnodup
  have hbefore : n ∉ before := fun h => hdisjoint n h n List.mem_cons_self rfl
  have hpos (l : List Nat) (hl : ∀ m ∈ l, m ∈ slotNumbers) : ∀ m ∈ l, 1 ≤ m :=
    fun m hm => (mem_slotNumbers.1 (hl m hm)).1
  obtain ⟨hk, hb1, hd1, _⟩ := passed_over hf (hpos before fun m hm => by simp [hsplit, hm]) hbefore (s, [])
  generalize hu : before.foldl (Pass.one f) (s, []) = p at hk hb1 hd1
  obtain ⟨_, hb2, hd2, hw2⟩ := passed_over hf (hpos after fun m hm => by simp [hsplit, hm]) hafter (Pass.one f p n)
  have hpass : s.pass f = after.foldl (Pass.one f) (Pass.one f p n) := by
    rw [State.pass, hsplit, List.foldl_append, hu, List.foldl_cons]
  have hat : p.1.booking? n = some b := hb1.trans hb
  have hfree : n ∉ p.2 := fun h => by simpa using hd1.1 h
  have hone : (Pass.one f p n).1 = (f n b p.1).1 ∧ (n ∈ (Pass.one f p n).2 ↔ (f n b p.1).2 = true) := by
    simp only [Pass.one, hat]
    split <;> rename_i t ht <;> simp [ht, hfree]
  rw [hpass]
  rw [hone.1] at hb2 hw2
  exact ⟨p.1, hk, hat, hb2, hd2.trans hone.2, hw2⟩

/-- A pass in which nothing falls due. -/
theorem pass_none_due {f : Nat → Booking → State → State × Bool} (h : ∀ n b s, (f n b s).2 = false) (s : State) :
    (s.pass f).2 = [] := by
  unfold State.pass
  suffices hl : ∀ (l : List Nat) (p : Pass), p.2 = [] → (l.foldl (Pass.one f) p).2 = [] from hl _ _ rfl
  intro l
  induction l with
  | nil => exact fun _ => id
  | cons n l ih =>
    refine fun p hp => ih _ ?_
    unfold Pass.one
    split
    · exact hp
    · rename_i b _
      have hfalse := h n b p.1
      split
      · rename_i t ht
        rw [ht] at hfalse
        cases hfalse
      · exact hp

/-! ## A report with no start (R52, R68) -/

/-- R68: under HUSH a group joins the waiting list and no start is decided. -/
theorem handGroup_of_hush {s : State} (h : s.drive.hush = true) {ns : List Nat} (hns : ns ≠ []) :
    s.handGroup ns = s.joinWaiting ns := by
  unfold State.handGroup State.reconsider
  rw [if_neg (by simpa using hns)]
  exact if_pos (by rw [joinWaiting_drive, h]; rfl)

/-- A report under HUSH, or one that nothing falls due in, leaves a booking as the report's dealing with it did. -/
theorem report_booking {f : Nat → Booking → State → State × Bool} (hf : OneByOne f) {s : State} {n : Nat} {b : Booking}
    (hq : s.drive.hush = true ∨ (s.pass f).2 = []) (hl : s.store.loading = false)
    (hb : s.booking? n = some b) (hn : n ≤ Config.bookingSlots) :
    ∃ u, Kept s u ∧ u.booking? n = some b ∧ (s.report f).booking? n = (f n b u).1.booking? n ∧
      ((f n b u).2 = true → n ∈ (s.report f).engine.waiting) ∧
      ((f n b u).2 = false → n ∉ (f n b u).1.engine.waiting → n ∉ (s.report f).engine.waiting) := by
  obtain ⟨u, hk, hu, hbook, hdue, hwait⟩ := pass_booking hf hb hn
  refine ⟨u, hk, hu, ?_⟩
  have hreport : s.report f = (s.pass f).1.sortWaiting.handGroup (s.pass f).2 := by simp [State.report, hl]
  rw [hreport, ← hbook, ← hdue, ← Bool.not_eq_true, ← hdue]
  by_cases hnil : (s.pass f).2 = []
  · have hsame : (s.pass f).1.sortWaiting.handGroup (s.pass f).2 = (s.pass f).1.sortWaiting := by
      simp [State.handGroup, hnil]
    rw [hsame, (sortWaiting_perm _).mem_iff]
    exact ⟨booking?_sortWaiting .., fun h => by simp [hnil] at h, fun _ h hw => h (hwait hw)⟩
  · have hhush : (s.pass f).1.sortWaiting.drive.hush = true := by
      rw [sortWaiting_drive, (pass_kept f hf.kept s).hush]
      exact hq.resolve_right hnil
    rw [handGroup_of_hush hhush hnil, mem_joinWaiting, (sortWaiting_perm _).mem_iff, booking?_joinWaiting]
    exact ⟨booking?_sortWaiting .., .inr, fun hd h hw => hw.elim (fun hw => h (hwait hw)) hd⟩

/-! ## The unset report (R37) -/

theorem unsetOne_oneByOne : OneByOne State.unsetOne where
  kept := unsetOne_kept
  only n b s hn := by
    unfold State.unsetOne
    split
    · exact (leaveWaiting_only n s).trans (dispose_only hn ..)
    all_goals exact setBooking_only hn _ s

theorem unsetOne_none_due (n : Nat) (b : Booking) (s : State) : (s.unsetOne n b).2 = false := by
  unfold State.unsetOne
  split <;> rfl

/-- R37: a waiting booking is missed at the end of the range, and every other one only loses its next occurrence. -/
theorem unsetReport_booking {s : State} {n : Nat} {b : Booking} (hs : s.time.state = .unset)
    (hl : s.store.loading = false) (hb : s.booking? n = some b) (hn : n ≤ Config.bookingSlots) :
    (b.state ≠ .due → s.unsetReport.booking? n = some { b with next := none }) ∧
    (b.state = .due → n ∉ s.unsetReport.engine.waiting ∧
      (b.record.kind.immediate = true → s.unsetReport.booking? n = none) ∧
      (b.record.kind.immediate = false → ∃ b', s.unsetReport.booking? n = some b' ∧ b'.busy = false ∧
        b'.next = none ∧ b'.unread = true ∧ b'.missed = min 65535 (b.missed + 1) ∧
        b'.lastOutcome = some ⟨.missed, some .timeStep, b.current, ⟨0, 0, 0, 0⟩⟩)) := by
  obtain ⟨u, hk, hu, hbook, _, hwait⟩ :=
    report_booking unsetOne_oneByOne (.inr (pass_none_due unsetOne_none_due s)) hl hb hn
  refine ⟨fun hne => ?_, fun hdue => ?_⟩
  · have hone : u.unsetOne n b = (u.setBooking n { b with next := none }, false) := by
      unfold State.unsetOne
      split
      · exact absurd ‹_› hne
      all_goals rfl
    rw [hone] at hbook
    exact hbook.trans (booking?_setBooking hu _)
  · have hone : u.unsetOne n b = ((u.leaveWaiting n).disposeWaiting n .timeStep, false) := by
      simp only [State.unsetOne, hdue]
    rw [hone] at hbook hwait
    have hleft : (u.leaveWaiting n).booking? n = some b := hu
    refine ⟨hwait rfl ?_, fun hi => hbook.trans (dispose_removes hleft hi ..), fun hi => ?_⟩
    · simpa [State.disposeWaiting] using not_mem_leaveWaiting n u
    · refine ⟨_, hbook.trans (dispose_goesOn hleft hi ..), goOn_busy _ _, ?_, rfl, rfl, rfl⟩
      exact nextOccurrence_of_unset _ ((congrArg _ hk.time).trans hs)

/-! ## The advance of the second (R3) -/

theorem setTimeState_time (v : TimeState) (s : State) : (s.setTimeState v).time = { s.time with state := v } := by
  simp [State.setTimeState]

/-- R4: a change of the time state raises TIME. -/
theorem setTimeState_flag {v : TimeState} {s : State} (h : s.time.state ≠ v) :
    (s.setTimeState v).notices.flags.time = true := by
  simp [State.setTimeState, State.raiseIf, h, State.raise, NoticeBits.set]

/-- R3: within the range the second moves on, and the Booking Book is told unless the calendar is UNSET. -/
theorem advanceSecond_of_lt {s : State} (h : s.time.second + 1 < 36525 * 86400) :
    s.advanceSecond =
      if s.time.state = .unset then { s with time := { s.time with second := s.time.second + 1 } }
      else ({ s with time := { s.time with second := s.time.second + 1 } } : State).secondBoundary :=
  if_pos h

/-- R3, R37: past the end of 2099 the calendar is UNSET, and the Booking Book is told unless it was. -/
theorem advanceSecond_of_end {s : State} (h : s.time.second + 1 = 36525 * 86400) :
    s.advanceSecond =
      if s.time.state = .unset
      then ({ s with time := { s.time with second := 0, slew := 0, slewAcc := 0 } } : State).setTimeState .unset
      else (({ s with time := { s.time with second := 0, slew := 0, slewAcc := 0 } } : State).setTimeState
        .unset).unsetReport := by
  have hend : ¬ s.time.second + 1 < Config.calendarSeconds := by rw [h]; decide
  unfold State.advanceSecond
  rw [if_neg hend]
  by_cases hs : s.time.state = .unset <;> simp [hs]

/-- R3: the normal advance, with a name for the count it leaves. -/
theorem normalAdvance_of_le {s : State} {rest : Nat} (h : 1000000 ≤ s.time.sub)
    (hrest : s.time.sub - 1000000 = rest) :
    s.normalAdvance = ({ s with time := { s.time with sub := rest } } : State).advanceSecond := by
  subst hrest
  exact if_pos h

theorem normalAdvance_of_lt {s : State} (h : s.time.sub < 1000000) : s.normalAdvance = s := if_neg (Nat.not_le.2 h)

theorem exec_normalAdvance (s : State) : exec .normalAdvance s = .next s.normalAdvance := rfl

/-- R10: the pulse timeout expires. -/
theorem expirePulse_eq (s : State) :
    s.expirePulse = (({ s with time := { s.time with
      locked := false, count := 0, slew := 0, slewAcc := 0, timeout := none
      state := if s.time.state = .locked then .holdover else s.time.state } } : State).raiseIf
        (s.time.state == .locked) .time) := by
  unfold State.expirePulse
  by_cases h : s.time.state = .locked <;> simp [h, State.setTimeState, State.raiseIf]

/-- R3, R37: past the end of 2099 the calendar stands UNSET at 0, and the Booking Book is told unless it was. -/
theorem advanceSecond_past_end {s : State} (h : s.time.second + 1 = 36525 * 86400) :
    ∃ u : State, u.time = { s.time with second := 0, slew := 0, slewAcc := 0, state := .unset } ∧
      u.book = s.book ∧ u.store = s.store ∧ (s.time.state ≠ .unset → u.notices.flags.time = true) ∧
      s.advanceSecond = if s.time.state = .unset then u else u.unsetReport :=
  ⟨({ s with time := { s.time with second := 0, slew := 0, slewAcc := 0 } } : State).setTimeState .unset,
    setTimeState_time _ _, raiseIf_book .., raiseIf_store .., fun hne => setTimeState_flag hne, advanceSecond_of_end h⟩

/-- R3: in UNSET the normal advance moves the second on, and that is all. -/
theorem normalAdvance_of_unset {s : State} {rest : Nat} (hsub : 1000000 ≤ s.time.sub)
    (hrest : s.time.sub - 1000000 = rest) (hstate : s.time.state = .unset)
    (hlt : s.time.second + 1 < 36525 * 86400) :
    s.normalAdvance = { s with time := { s.time with sub := rest, second := s.time.second + 1 } } := by
  have hadvance := advanceSecond_of_lt (s := { s with time := { s.time with sub := rest } }) hlt
  rw [normalAdvance_of_le hsub hrest, hadvance, if_pos hstate]

/-- R3, R37: the normal advance past the end of 2099. -/
theorem normalAdvance_past_end {s : State} {rest : Nat} (hsub : 1000000 ≤ s.time.sub)
    (hrest : s.time.sub - 1000000 = rest) (hend : s.time.second + 1 = 36525 * 86400) :
    ∃ u : State, u.time = { s.time with sub := rest, second := 0, slew := 0, slewAcc := 0, state := .unset } ∧
      u.book = s.book ∧ u.store = s.store ∧ (s.time.state ≠ .unset → u.notices.flags.time = true) ∧
      s.normalAdvance = if s.time.state = .unset then u else u.unsetReport := by
  rw [normalAdvance_of_le hsub hrest]
  exact advanceSecond_past_end (s := { s with time := { s.time with sub := rest } }) hend

/-- Settles O23: `expirePulse_eq` for the timeout; the advance by `advanceSecond_of_lt` within the range, and past
its end by what the unset report does to each booking (`unsetReport_booking`). -/
theorem timeoutAndAdvance : Obligations.TimeoutAndAdvance := by
  unfold Obligations.TimeoutAndAdvance
  refine ⟨fun d s htimeout hd => ?_, fun s hsub hstate hlt => ?_, fun s hsub hend => ?_, fun s hsub => ?_,
    fun s hnone => ?_⟩
  · have hexec : exec .pulseTimeout s = .next s.expirePulse := by
      have hnow : d ≤ s.now := hd
      simp [exec, execPulseTimeout, htimeout, hnow]
    rw [hexec, expirePulse_eq]
  · rw [exec_normalAdvance, normalAdvance_of_unset hsub rfl hstate hlt]
  · obtain ⟨u, htime, hbook, hstore, hflag, hadvance⟩ := normalAdvance_past_end hsub rfl hend
    refine ⟨s.normalAdvance, exec_normalAdvance s, ?_, fun hne => ?_, fun n b hne hl hn hb => ?_⟩
    · rw [hadvance]
      split
      · exact htime
      · exact (unsetReport_kept u).time.trans htime
    · rw [hadvance, if_neg hne]
      exact (unsetReport_tidy u).flags .time (hflag hne)
    · rw [hadvance, if_neg hne]
      exact unsetReport_booking (by rw [htime]) (by rw [hstore]; exact hl)
        (by rw [State.booking?, hbook]; exact hb) hn
  · rw [exec_normalAdvance, normalAdvance_of_lt hsub]
  · refine congrArg Host.Outcome.next ?_
    split
    · rfl
    · rename_i d hd
      exact if_neg (Nat.not_le.2 (hnone d hd))

end Sys2Proof.Machine
end


section
/-! PROOFS. The reference pulse (R5–R9): what it measures, then the lock, then the phase: O22. -/

namespace Sys2Proof.Machine

/-! ## Measuring (R5, R6) -/

theorem pulseValid_iff {t : TowerTime} {a : Nat} (h : t.anchor = some a) :
    t.pulseValid = true ↔ 998000 ≤ localInterval (t.clock - a) t.correction ∧
      localInterval (t.clock - a) t.correction ≤ 1002000 := by
  simp [TowerTime.pulseValid, h]

/-- R5, R6: the Tower Time Unit after a valid pulse, the pulses before it anchored at `a`. -/
def TowerTime.measuredFrom (t : TowerTime) (a : Nat) : TowerTime :=
  let h : List Int := (t.history ++ [1000000 - ((t.clock - a : Nat) : Int)]).drop (t.history.length + 1 - 16)
  { t with
    history := h
    correction := max (-2000) (min 2000 (Int.tdiv (10 * h.sum) h.length))
    count := min 3 (t.count + 1)
    anchor := some t.clock }

theorem measure_eq {t : TowerTime} {a : Nat} (h : t.anchor = some a) : t.measure = t.measuredFrom a := by
  unfold TowerTime.measure
  rw [h]
  rfl

/-- R8: the Tower Time Unit phase-locked at a pulse, the pulse timeout started afresh. -/
def TowerTime.phaseLocked (t : TowerTime) : TowerTime :=
  { t with locked := true, timeout := some (t.clock + 3000000) }

/-- R5: a valid pulse that is neither the third in a row nor one of a phase-locked unit only measures. -/
theorem pulse_measures {s : State} (hv : s.time.pulseValid = true) (hl : s.time.locked = false)
    (hc : s.time.count < 2) : s.pulse = { s with time := s.time.measure } := by
  have hlocked : s.time.measure.locked = false := hl
  have hcount : s.time.measure.count ≠ 3 := by
    show min 3 (s.time.count + 1) ≠ 3
    omega
  simp [State.pulse, hv, hlocked, hcount]

/-- R8: the third valid pulse in a row, and each of a phase-locked unit, locks. -/
theorem pulse_locks {s : State} (hv : s.time.pulseValid = true) (h : s.time.locked = true ∨ 2 ≤ s.time.count) :
    s.pulse = ({ s with time := s.time.measure.phaseLocked } : State).lockState.phaseAtPulse := by
  have hlock : (s.time.measure.locked || decide (s.time.measure.count = 3)) = true := by
    rw [Bool.or_eq_true, decide_eq_true_eq]
    refine h.imp id fun hc => ?_
    show min 3 (s.time.count + 1) = 3
    omega
  simp only [State.pulse, hv, if_true, hlock]
  rfl

/-- R5: any other pulse sets the count to 0 and becomes the anchor. -/
theorem pulse_invalid {s : State} (hv : s.time.pulseValid = false) :
    s.pulse = { s with time := { s.time with count := 0, anchor := some s.time.clock } } := by
  simp [State.pulse, hv]

/-! ## The lock (R8) -/

/-- R8: outside UNSET the third valid pulse finds or makes the unit LOCKED. -/
theorem lockState_eq {s : State}
    (h : ((s.time.state = .free ∨ s.time.state = .holdover) ∧ s.time.count = 3) ∨ s.time.state = .locked) :
    s.lockState = ({ s with time := { s.time with state := .locked } } : State).raiseIf
      (s.time.state != .locked) .time := by
  rcases h with ⟨hfree | hhold, hc⟩ | hlocked
  · simp [State.lockState, hfree, hc, State.setTimeState]
  · simp [State.lockState, hhold, hc, State.setTimeState]
  · have hsame : ({ s.time with state := .locked } : TowerTime) = s.time := by rw [← hlocked]
    simp [State.lockState, hlocked, hsame, State.raiseIf]

theorem lockState_of_unset {s : State} (h : s.time.state = .unset) : s.lockState = s := by
  simp [State.lockState, h]

/-- A change of the time beside a raise. -/
theorem raiseIf_withTime (c : Bool) (k : Notice) (T : TowerTime) (s : State) :
    { s.raiseIf c k with time := T } = ({ s with time := T } : State).raiseIf c k := by
  cases c <;> rfl

/-! ## The phase (R7, R9) -/

/-- R7: a step before the middle of the second goes back to its start. -/
theorem phaseStep_of_lt {s : State} (h : s.time.sub < 500000) :
    s.phaseStep = { s with time := { s.time with sub := 0, subFrac := 0 } } := by
  simp [State.phaseStep, Nat.not_le.2 h]

/-- R7: a step from its middle on goes to the start of the next second. -/
theorem phaseStep_of_le {s : State} (h : 500000 ≤ s.time.sub) :
    s.phaseStep = ({ s with time := { s.time with sub := 0, subFrac := 0 } } : State).advanceSecond := by
  simp [State.phaseStep, h]

/-- R7: a step in UNSET tells the Booking Book nothing. -/
theorem phaseStep_of_unset {s : State} (hs : s.time.state = .unset) (hlt : s.time.second + 1 < 36525 * 86400) :
    s.phaseStep = { s with time := { s.time with
      sub := 0, subFrac := 0
      second := if 500000 ≤ s.time.sub then s.time.second + 1 else s.time.second } } := by
  by_cases h : 500000 ≤ s.time.sub
  · have hadvance := advanceSecond_of_lt (s := { s with time := { s.time with sub := 0, subFrac := 0 } }) hlt
    rw [phaseStep_of_le h, hadvance, if_pos hs, if_pos h]
  · rw [phaseStep_of_lt (Nat.lt_of_not_le h), if_neg h]

/-- R9: a phase error of at most 20,000 µs is slewed. -/
theorem dealPhase_slews {s : State} (h : s.time.sub ≤ 20000 ∨ (980000 ≤ s.time.sub ∧ s.time.sub ≤ 1000000)) :
    s.dealPhase = { s with time := { s.time with
      slew := if s.time.sub < 500000 then -(s.time.sub : Int) else 1000000 - (s.time.sub : Int), slewAcc := 0 } } := by
  have herror : (phaseError s.time.sub).1 ≤ Config.slewLimit ∧ (phaseError s.time.sub).2 =
      if s.time.sub < 500000 then -(s.time.sub : Int) else 1000000 - (s.time.sub : Int) := by
    have hlimit : Config.slewLimit = 20000 := rfl
    unfold phaseError
    split
    · exact ⟨by omega, rfl⟩
    · exact ⟨by omega, by omega⟩
  unfold State.dealPhase
  dsimp only
  rw [if_pos herror.1, herror.2]

/-- R9: a larger one is stepped. -/
theorem dealPhase_steps {s : State} (h : 20000 < s.time.sub) (h' : s.time.sub < 980000) :
    s.dealPhase = { s.phaseStep with time := { s.phaseStep.time with slew := 0, slewAcc := 0 } } := by
  have herror : ¬ (phaseError s.time.sub).1 ≤ Config.slewLimit := by
    have hlimit : Config.slewLimit = 20000 := rfl
    unfold phaseError
    split <;> omega
  exact if_neg herror

theorem dealPhase_steps_back {s : State} (h : 20000 < s.time.sub) (h' : s.time.sub < 500000) :
    s.dealPhase = { s with time := { s.time with sub := 0, subFrac := 0, slew := 0, slewAcc := 0 } } := by
  rw [dealPhase_steps h (by omega), phaseStep_of_lt h']

/-- R9: a step that moves the second on: the time is stepped, and no notice is lost. -/
theorem dealPhase_steps_on {s : State} (h : 500000 ≤ s.time.sub) (h' : s.time.sub < 980000)
    (hs : s.time.state ≠ .unset) (hlt : s.time.second + 1 < 36525 * 86400) :
    s.dealPhase.time = { s.time with
      sub := 0, subFrac := 0, slew := 0, slewAcc := 0, second := s.time.second + 1 } ∧
      (s.notices.flags.time = true → s.dealPhase.notices.flags.time = true) := by
  have hadvance := advanceSecond_of_lt (s := { s with time := { s.time with sub := 0, subFrac := 0 } }) hlt
  rw [if_neg hs] at hadvance
  have hstep := (phaseStep_of_le h).trans hadvance
  generalize hu : ({ s with time := { s.time with
    sub := 0, subFrac := 0, second := s.time.second + 1 } } : State) = u at hstep
  have hkept := (secondBoundary_kept u).time
  have hflags := (secondBoundary_tidy u).flags .time
  rw [← hstep] at hkept hflags
  have hdeal := dealPhase_steps (Nat.lt_of_lt_of_le (by decide) h) h'
  subst hu
  rw [hdeal, hkept]
  exact ⟨rfl, hflags⟩

theorem exec_referencePulse (s : State) : exec .referencePulse s = .next s.pulse := rfl

theorem phaseAtPulse_of_unset {s : State} (h : s.time.state = .unset) : s.phaseAtPulse = s.phaseStep := by
  simp [State.phaseAtPulse, h]

/-- R8: outside UNSET a pulse that locks leaves the phase to be dealt with in LOCKED. -/
theorem pulse_deals {s : State} (hv : s.time.pulseValid = true)
    (h : ((s.time.state = .free ∨ s.time.state = .holdover) ∧ 2 ≤ s.time.count) ∨
      (s.time.state = .locked ∧ (s.time.locked = true ∨ 2 ≤ s.time.count))) :
    s.pulse = (({ s with time := { s.time.measure.phaseLocked with state := .locked } } : State).raiseIf
      (s.time.state != .locked) .time).dealPhase := by
  have hlock : s.time.locked = true ∨ 2 ≤ s.time.count := h.elim (fun h => .inr h.2) fun h => h.2
  have hstate : ((s.time.state = .free ∨ s.time.state = .holdover) ∧ min 3 (s.time.count + 1) = 3) ∨
      s.time.state = .locked := h.imp (fun h => ⟨h.1, by omega⟩) fun h => h.1
  rw [pulse_locks hv hlock, lockState_eq (s := { s with time := s.time.measure.phaseLocked }) hstate]
  simp only [State.phaseAtPulse, raiseIf_time]
  rfl

/-- Settles O22: what the pulse measures (`measure_eq`), whether it locks (`pulse_measures`, `pulse_locks`,
`pulse_deals`), and the phase by its size (`dealPhase_slews`, `dealPhase_steps_back`, `dealPhase_steps_on`). -/
theorem referencePulseMeasures : Obligations.ReferencePulseMeasures := by
  unfold Obligations.ReferencePulseMeasures
  refine ⟨fun a s ha hlow hhigh => ?_, fun s hinvalid => ?_⟩
  · have hv := (pulseValid_iff ha).2 ⟨hlow, hhigh⟩
    intro h T L
    have hT : s.time.measure = T := measure_eq ha
    refine ⟨fun hl hc => ?_, fun hlock hs hlt => ?_, fun hstate => ⟨fun hsub => ?_, fun hsub hsub' => ?_,
      fun hsub hsub' hlt => ?_⟩⟩
    · rw [exec_referencePulse, pulse_measures hv hl hc, hT]
    · rw [exec_referencePulse, pulse_locks hv hlock, hT,
        lockState_of_unset (s := { s with time := T.phaseLocked }) hs,
        phaseAtPulse_of_unset (s := { s with time := T.phaseLocked }) hs,
        phaseStep_of_unset (s := { s with time := T.phaseLocked }) hs hlt]
      rfl
    · rw [exec_referencePulse, pulse_deals hv hstate, hT, dealPhase_slews (by rwa [raiseIf_time]), raiseIf_withTime]
      simp only [raiseIf_time]
      rfl
    · rw [exec_referencePulse, pulse_deals hv hstate, hT, dealPhase_steps_back (by rwa [raiseIf_time])
        (by rwa [raiseIf_time]), raiseIf_withTime]
      simp only [raiseIf_time]
      rfl
    · have hpulse := pulse_deals hv hstate
      rw [hT] at hpulse
      generalize hu : (({ s with time := { T.phaseLocked with state := .locked } } : State).raiseIf
        (s.time.state != .locked) .time) = u at hpulse
      have htime : u.time = { T.phaseLocked with state := .locked } := by rw [← hu, raiseIf_time]
      obtain ⟨hsteps, hflags⟩ := dealPhase_steps_on (s := u) (by rw [htime]; exact hsub) (by rw [htime]; exact hsub')
        (by rw [htime]; exact nofun) (by rw [htime]; exact hlt)
      refine ⟨u.dealPhase, congrArg _ hpulse, by rw [hsteps, htime]; rfl, fun hne => hflags ?_⟩
      rw [← hu]
      simp [State.raiseIf, hne, State.raise, NoticeBits.set]
  · rw [exec_referencePulse]
    refine congrArg _ (pulse_invalid ?_)
    cases ha : s.time.anchor with
    | none => simp [TowerTime.pulseValid, ha]
    | some a =>
      have := hinvalid a ha
      rw [← Bool.not_eq_true, pulseValid_iff ha]
      omega

end Sys2Proof.Machine
end


section
/-! PROOFS. What the set and step reports do to one booking (R22, R33–R36). -/

namespace Sys2Proof.Machine

/-! ## Next occurrences (R20–R22) -/

theorem searchFrom_ge {r : BookingRecord} {lo n day t : Nat} (h : r.searchFrom lo n day = some t) : lo ≤ t := by
  induction n generalizing day with
  | zero => cases h
  | succ n ih =>
    unfold BookingRecord.searchFrom at h
    split at h
    · rename_i x hx
      cases h
      simpa using List.find?_some hx
    · exact ih h

/-- R22: an occurrence looked for from a second on is not before it. -/
theorem firstFrom_ge {r : BookingRecord} {lo t : Nat} (h : r.firstFrom lo = some t) : lo ≤ t := by
  unfold BookingRecord.firstFrom at h
  split at h
  · simpa using List.find?_some h
  all_goals exact searchFrom_ge h

/-- R22: only an enabled booking has a next occurrence, and it is later than the current one. -/
theorem nextOccurrence_some {b : Booking} {T : TowerTime} {t : Nat} (h : b.nextOccurrence T = some t) :
    b.record.enabled = true ∧ ∀ c, b.current = some c → c < t := by
  unfold Booking.nextOccurrence Booking.nextAfter at h
  split at h
  · rename_i hen
    refine ⟨(Bool.and_eq_true_iff.1 hen).1, fun c hc => ?_⟩
    have hge := firstFrom_ge h
    simp only [hc, laterThan] at hge
    omega
  · cases h

theorem mem_occurrencesFrom {r : BookingRecord} {lo hi n day t : Nat} (h : t ∈ r.occurrencesFrom lo hi n day) :
    lo < t := by
  induction n generalizing day with
  | zero => cases h
  | succ n ih =>
    rcases List.mem_append.1 h with h | h
    · have := (List.mem_filter.1 h).2
      simp only [Bool.and_eq_true, decide_eq_true_eq] at this
      exact this.1
    · exact ih h

/-- R35: the occurrences a step considers are later than the current one. -/
theorem current_lt_steppedOver {b : Booking} {t0 t1 l c : Nat} (h : l ∈ b.steppedOver t0 t1) (hc : b.current = some c) :
    c < l := by
  unfold Booking.steppedOver at h
  split at h
  · have hlt := mem_occurrencesFrom h
    simp only [hc, Option.getD_some] at hlt
    omega
  · cases h

/-! ## The booking recomputed (R22, R23) -/

/-- R23: the state of a booking at rest under a calendar that is not UNSET. -/
theorem restState_of_set {b : Booking} {T : TowerTime} (hT : T.state ≠ .unset) :
    b.restState T = if b.record.enabled = false then .dormant else if b.next = none then .spent else .armed := by
  unfold Booking.restState
  cases b.record.enabled <;> cases b.next <;> simp [hT]

/-- R22, R23: a booking at rest is recomputed as one that goes on is. -/
theorem recompute_eq_goOn {b : Booking} {T : TowerTime} (hb : b.busy = false) : b.recompute T = b.goOn T := by
  have hbusy : ({ b with next := b.nextOccurrence T } : Booking).busy = false := hb
  rw [goOn_eq]
  simp [Booking.recompute, hbusy]

/-- R23: a booking at rest as a calendar that is not UNSET finds it. -/
theorem recompute_rest {b : Booking} {T : TowerTime} (hb : b.busy = false) (hT : T.state ≠ .unset) :
    b.recompute T = { b with
      next := b.nextOccurrence T
      state := if b.record.enabled = false then .dormant
        else if b.nextOccurrence T = none then .spent else .armed } := by
  rw [recompute_eq_goOn hb, goOn_eq, restState_of_set hT]

/-- R23: a booking at rest stays so. -/
theorem recompute_not_busy {b : Booking} {T : TowerTime} (hb : b.busy = false) : (b.recompute T).busy = false := by
  rw [recompute_eq_goOn hb]
  exact goOn_busy b T

theorem not_rest_of_busy {b : Booking} (hb : b.busy = true) : b.state ≠ .dormant ∧ b.state ≠ .spent :=
  ⟨fun hs => by simp [Booking.busy, hs] at hb, fun hs => by simp [Booking.busy, hs] at hb⟩

theorem recompute_busy {b : Booking} {T : TowerTime} (hb : b.busy = true) :
    b.recompute T = { b with next := b.nextOccurrence T } := if_pos hb

/-- R34: occurrences that go silently are counted, and nothing of the booking but its last disposal changes. -/
theorem foldl_disposeSilently (gone : List Nat) (b : Booking) (hm : b.missed ≤ 65535) :
    ∃ d, gone.foldl Booking.disposeSilently b =
      { b with missed := min 65535 (b.missed + gone.length), lastDisposed := d } := by
  induction gone generalizing b with
  | nil => exact ⟨b.lastDisposed, by rw [List.length_nil, Nat.add_zero, Nat.min_eq_right hm]; rfl⟩
  | cons o rest ih =>
    obtain ⟨d, hd⟩ := ih (b.disposeSilently o) (Nat.min_le_left _ _)
    refine ⟨d, hd.trans ?_⟩
    have hcount : min 65535 (min 65535 (b.missed + 1) + rest.length) = min 65535 (b.missed + (rest.length + 1)) := by
      omega
    simp only [Booking.disposeSilently, sat16, hcount, List.length_cons]

/-! ## Falling due now (R23) -/

section
variable {w : State} {n : Nat} {x : Booking}

theorem dueNow_of_ne (h : w.booking? n = some x) (hx : x.next ≠ some w.time.second) : w.dueNow n = (w, false) := by
  simp [State.dueNow, h, hx]

theorem dueNow_armed (h : w.booking? n = some x) (hx : x.next = some w.time.second) (hs : x.state = .armed) :
    w.dueNow n = (w.setBooking n (x.fallDue w.time), true) := by
  simp [State.dueNow, h, hx, hs]

theorem dueNow_due (h : w.booking? n = some x) (hx : x.next = some w.time.second) (hs : x.state = .due) :
    w.dueNow n = ((w.setBooking n (x.takeNewOccurrence w.time)).raise .outcome, false) := by
  simp [State.dueNow, h, hx, hs]

theorem dueNow_sounding (h : w.booking? n = some x) (hx : x.next = some w.time.second)
    (hs : x.state = .sounding ∨ x.state = .suspended) :
    w.dueNow n = ((w.setBooking n ((x.missSounding w.time.second).renext w.time)).raise .outcome, false) := by
  rcases hs with hs | hs <;> simp [State.dueNow, h, hx, hs]

end

/-- R33, R36: a booking recomputed at a report, and whether it fell due. -/
def State.recomputeNow (n : Nat) (b : Booking) (s : State) : State × Bool :=
  (s.setBooking n (b.recompute s.time)).dueNow n

theorem setReportOne_recomputes {n : Nat} {b : Booking} (hk : b.record.kind.immediate = false) (hs : b.state ≠ .dormant)
    (u : State) : u.setReportOne n b = u.recomputeNow n b := by
  simp [State.setReportOne, State.recomputeNow, hk, hs]

theorem backwardOne_recomputes {n : Nat} {b : Booking} (hs : b.state ≠ .dormant) (hs' : b.state ≠ .spent) (u : State) :
    u.backwardOne n b = u.recomputeNow n b := by
  unfold State.backwardOne State.recomputeNow
  split
  case h_5 h => exact absurd h hs
  case h_6 h => exact absurd h hs'
  all_goals rfl

/-! ## A booking that a report has dealt with -/

/-- In `t` booking `n`, which stood as `b`, is as dealing with it by `f` left it at the time `T`; it waits if it fell
due. -/
def dealtWith (T : TowerTime) (n : Nat) (b : Booking) (f : State → State × Bool) (t : State) : Prop :=
  ∃ u : State, u.time = T ∧ u.booking? n = some b ∧ t.booking? n = (f u).1.booking? n ∧
    ((f u).2 = true → n ∈ t.engine.waiting)

theorem dealtWith.congr {T : TowerTime} {n : Nat} {b : Booking} {f g : State → State × Bool} {t : State}
    (h : dealtWith T n b f t) (hfg : ∀ u : State, u.time = T → f u = g u) : dealtWith T n b g t := by
  obtain ⟨u, hT, hu, hbook, hwait⟩ := h
  rw [hfg u hT] at hbook hwait
  exact ⟨u, hT, hu, hbook, hwait⟩

/-- A booking that is left alone. -/
theorem dealtWith.same {T : TowerTime} {n : Nat} {b : Booking} {f : State → State × Bool} {t : State}
    (h : dealtWith T n b f t) (hf : ∀ u : State, f u = (u, false)) : t.booking? n = some b := by
  obtain ⟨u, _, hu, hbook, _⟩ := h
  rw [hbook, hf u]
  exact hu

/-- A booking that is written once. -/
theorem dealtWith.written {T : TowerTime} {n : Nat} {b b' : Booking} {f : State → State × Bool} {t : State} {due : Bool}
    (h : dealtWith T n b f t) (hf : ∀ u : State, u.time = T → f u = (u.setBooking n b', due)) :
    t.booking? n = some b' ∧ (due = true → n ∈ t.engine.waiting) := by
  obtain ⟨u, hT, hu, hbook, hwait⟩ := h
  rw [hf u hT] at hbook hwait
  exact ⟨hbook.trans (booking?_setBooking hu b'), hwait⟩

/-- R33, R36: a booking at rest is found again, and falls due when its next occurrence is now. -/
theorem recomputeNow_rest {T : TowerTime} {n : Nat} {b : Booking} {t : State}
    (h : dealtWith T n b (State.recomputeNow n b) t) (hT : T.state ≠ .unset) (hb : b.busy = false) :
    (b.nextOccurrence T ≠ some T.second → t.booking? n = some { b with
      next := b.nextOccurrence T
      state := if b.record.enabled = false then .dormant
        else if b.nextOccurrence T = none then .spent else .armed }) ∧
    (b.nextOccurrence T = some T.second → n ∈ t.engine.waiting ∧
      ∃ b', t.booking? n = some b' ∧ b.fallenDue b' T.second 0 ∧ b'.lastOutcome = b.lastOutcome) := by
  obtain ⟨u, rfl, hu, hbook, hwait⟩ := h
  have hset := booking?_setBooking hu (b.recompute u.time)
  have hfound := recompute_rest hb hT
  dsimp only [State.recomputeNow] at hbook hwait
  refine ⟨fun hne => ?_, fun heq => ?_⟩
  · rw [dueNow_of_ne hset (by rw [hfound]; exact hne)] at hbook
    rw [hbook, hset, hfound]
  · have harmed : (b.recompute u.time).state = .armed := by
      simp [hfound, heq, (nextOccurrence_some heq).1]
    have hdue := dueNow_armed hset (by rw [hfound]; exact heq) harmed
    rw [hdue] at hbook hwait
    refine ⟨hwait rfl, _, hbook.trans (booking?_setBooking hset _), ⟨?_, rfl, ?_, rfl⟩, ?_⟩
    all_goals rw [hfound]
    · rfl
    · exact heq
    · rfl

/-- R33, R36: a booking that waits or sounds has its next occurrence found again, and one reached now is missed. -/
theorem recomputeNow_busy {T : TowerTime} {n : Nat} {b : Booking} {t : State}
    (h : dealtWith T n b (State.recomputeNow n b) t) (hb : b.busy = true) :
    (b.nextOccurrence T ≠ some T.second → t.booking? n = some { b with next := b.nextOccurrence T }) ∧
    (b.nextOccurrence T = some T.second → ∃ b', t.booking? n = some b' ∧ b'.state = b.state ∧ b'.unread = true ∧
      b'.missed = min 65535 (b.missed + 1) ∧
      (b.state = .due → b'.current = some T.second ∧ b'.waiting = some 0 ∧
        b'.lastOutcome = some ⟨.missed, some .patience, b.current, ⟨0, 0, 0, 0⟩⟩) ∧
      (b.state ≠ .due → b'.current = b.current ∧
        b'.lastOutcome = some ⟨.missed, some .stillSounding, some T.second, ⟨0, 0, 0, 0⟩⟩)) := by
  obtain ⟨u, rfl, hu, hbook, _⟩ := h
  have hset := booking?_setBooking hu (b.recompute u.time)
  dsimp only [State.recomputeNow] at hbook
  rw [recompute_busy hb] at hset hbook
  refine ⟨fun hne => ?_, fun heq => ?_⟩
  · rw [dueNow_of_ne hset hne] at hbook
    exact hbook.trans hset
  · by_cases hdue : b.state = .due
    · rw [dueNow_due hset heq hdue] at hbook
      exact ⟨_, hbook.trans (booking?_setBooking hset _), rfl, rfl, rfl, fun _ => ⟨heq, rfl, rfl⟩,
        fun hne => absurd hdue hne⟩
    · have hsounding : b.state = .sounding ∨ b.state = .suspended := by
        unfold Booking.busy at hb
        cases hs : b.state <;> simp_all
      rw [dueNow_sounding hset heq hsounding] at hbook
      have hlater : b.current ≠ some u.time.second := fun hc =>
        absurd ((nextOccurrence_some heq).2 _ hc) (Nat.lt_irrefl _)
      refine ⟨_, hbook.trans (booking?_setBooking hset _), rfl, rfl, rfl, fun h => absurd h hdue, fun _ => ⟨?_, rfl⟩⟩
      simp [Booking.renext, Booking.missSounding, Booking.write, missedRecord, hlater]

/-! ## A forward step (R34, R35) -/

section
variable {u : State} {n : Nat} {x : Booking} {front : List Nat} {l : Nat}

/-- R34: the latest occurrence stepped over is still within the patience: it is taken. -/
theorem stepArmed_taken (hp : u.time.second - l ≤ x.record.patience) (hm : x.missed ≤ 65535) :
    ∃ b', u.stepArmed n (front ++ [l]) x = (u.setBooking n b', true) ∧ x.fallenDue b' l (u.time.second - l) ∧
      b'.missed = min 65535 (x.missed + front.length) ∧ b'.lastOutcome = x.lastOutcome ∧ b'.unread = x.unread := by
  obtain ⟨d, hd⟩ := foldl_disposeSilently front x hm
  simp only [State.stepArmed, List.getLast?_concat, List.dropLast_concat, hd, hp, if_true]
  exact ⟨_, rfl, ⟨rfl, rfl, rfl, rfl⟩, rfl, rfl, rfl⟩

/-- R34: the latest occurrence stepped over is past the patience: it is missed. -/
theorem stepArmed_missed (hp : x.record.patience < u.time.second - l) (hm : x.missed ≤ 65535) :
    ∃ b', u.stepArmed n (front ++ [l]) x = ((u.setBooking n b').raise .outcome, false) ∧ b'.busy = false ∧
      b'.unread = true ∧ b'.missed = min 65535 (x.missed + (front.length + 1)) ∧
      b'.lastOutcome = some ⟨.missed, some .timeStep, some l, ⟨0, 0, 0, 0⟩⟩ := by
  obtain ⟨d, hd⟩ := foldl_disposeSilently front x hm
  simp only [State.stepArmed, List.getLast?_concat, List.dropLast_concat, hd, Nat.not_le.2 hp, if_false]
  refine ⟨_, rfl, goOn_busy _ _, rfl, ?_, rfl⟩
  show min 65535 (min 65535 (x.missed + front.length) + 1) = _
  omega

/-- R35: an occurrence stepped over while the booking sounds is missed. -/
theorem stepSounding_missed {t0 : Nat} (hx : x.steppedOver t0 u.time.second = front ++ [l]) (hm : x.missed ≤ 65535) :
    ∃ b', u.stepSounding n t0 x = ((u.setBooking n b').raise .outcome, false) ∧ b'.state = x.state ∧
      b'.current = x.current ∧ b'.unread = true ∧ b'.missed = min 65535 (x.missed + (front.length + 1)) ∧
      b'.lastOutcome = some ⟨.missed, some .stillSounding, some l, ⟨0, 0, 0, 0⟩⟩ := by
  obtain ⟨d, hd⟩ := foldl_disposeSilently front x hm
  have hlater : x.current ≠ some l := fun hc =>
    absurd (current_lt_steppedOver (t0 := t0) (t1 := u.time.second) (by simp [hx]) hc) (Nat.lt_irrefl _)
  simp only [State.stepSounding, hx, List.getLast?_concat, List.dropLast_concat, hd]
  refine ⟨_, rfl, rfl, ?_, rfl, ?_, rfl⟩
  · simp [Booking.renext, Booking.missSounding, Booking.write, missedRecord, hlater]
  · show min 65535 (min 65535 (x.missed + front.length) + 1) = _
    omega

/-- R35: a waiting booking within its patience and with nothing stepped over waits on. -/
theorem stepWaiting_waits {t0 w : Nat} (hw : x.waiting = some w) (hx : x.steppedOver t0 u.time.second = [])
    (hp : w + (u.time.second - t0) ≤ x.record.patience) :
    u.stepWaiting n t0 x = (u.setBooking n
      ({ x with waiting := some (w + (u.time.second - t0)) }.renext u.time), false) := by
  simp [State.stepWaiting, hw, hx, Nat.not_lt.2 hp]

/-- R35: a waiting booking whose occurrence is lost to the step is dealt with as an ARMED one then. -/
theorem stepWaiting_missed {t0 : Nat} (hu : u.booking? n = some x) (hk : x.record.kind.immediate = false)
    (h : x.record.patience < x.waiting.getD 0 + (u.time.second - t0) ∨ x.steppedOver t0 u.time.second ≠ []) :
    ∃ (v : State) (y : Booking), u.stepWaiting n t0 x = v.stepArmed n (x.steppedOver t0 u.time.second) y ∧ v.booking? n = some y ∧
      v.time = u.time ∧ y.record = x.record ∧ y.busy = false ∧ y.unread = true ∧
      y.missed = min 65535 (x.missed + 1) ∧
      y.lastOutcome = some ⟨.missed, some .timeStep, x.current, ⟨0, 0, 0, 0⟩⟩ := by
  have hgone := dispose_goesOn (s := u.leaveWaiting n) hu hk .missed (some .timeStep) .zero
  refine ⟨(u.leaveWaiting n).disposeWaiting n .timeStep, _, ?_, hgone, (disposeWaiting_kept ..).time, rfl,
    goOn_busy _ _, rfl, rfl, rfl⟩
  simp only [State.stepWaiting, h, if_true, State.disposeWaiting, hgone]

/-- R31, R35: a NOW or LIVE booking lost to the step goes. -/
theorem stepWaiting_removed {t0 : Nat} (hu : u.booking? n = some x) (hk : x.record.kind.immediate = true)
    (h : x.record.patience < x.waiting.getD 0 + (u.time.second - t0)) :
    (u.stepWaiting n t0 x).1.booking? n = none := by
  have hgone := dispose_removes (s := u.leaveWaiting n) hu hk .missed (some .timeStep) .zero false
  simp only [State.stepWaiting, h, true_or, if_true, State.disposeWaiting, hgone]

end

end Sys2Proof.Machine
end


section
/-! PROOFS. Setting the time (R11, R13, R33–R36): the calendar set, the reports' dealings booking by booking, and what
each of them leaves: O21. -/

namespace Sys2Proof.Machine

/-! ## The calendar set (R11, R33, R34) -/

/-- R11: the Tower Time Unit set to a calendar second. -/
def TowerTime.setTo (t : TowerTime) (t1 : Nat) : TowerTime :=
  { t with
    second := t1
    state := if t.locked then .locked else .free
    sub := if t.locked then t.sub else 0
    subFrac := if t.locked then t.subFrac else 0 }

/-- R11: the state with its time set, TIME raised for a change of the time state, and no report made yet. -/
def State.timeSet (t1 : Nat) (s : State) : State :=
  ({ s with time := s.time.setTo t1 } : State).raiseIf (s.time.state != (s.time.setTo t1).state) .time

@[simp] theorem timeSet_time (t1 : Nat) (s : State) : (s.timeSet t1).time = s.time.setTo t1 := raiseIf_time ..

/-- R8, R11: a calendar that has been set is not UNSET. -/
theorem setTo_state (t : TowerTime) (t1 : Nat) : (t.setTo t1).state ≠ .unset := by
  cases hl : t.locked <;> simp [TowerTime.setTo, hl]

/-- R33, R34: out of UNSET the set report follows, and at a step the step report. -/
theorem setCalendar_eq (t1 : Nat) (s : State) :
    s.setCalendar t1 = if s.time.state = .unset then (s.timeSet t1).calendarSet
      else if s.time.second = t1 then s.timeSet t1 else (s.timeSet t1).stepReport s.time.second := by
  unfold State.setCalendar State.timeSet TowerTime.setTo State.setTimeState
  cases hl : s.time.locked <;> simp [hl]

theorem setCalendar_kept (t1 : Nat) (s : State) : Kept (s.timeSet t1) (s.setCalendar t1) := by
  rw [setCalendar_eq]
  split
  · exact calendarSet_kept _
  · split
    · exact .refl _
    · exact stepReport_kept _ _

theorem setCalendar_time (t1 : Nat) (s : State) : (s.setCalendar t1).time = s.time.setTo t1 :=
  (setCalendar_kept t1 s).time.trans (timeSet_time t1 s)

theorem setCalendar_links (t1 : Nat) (s : State) : (s.setCalendar t1).links = s.links :=
  (setCalendar_kept t1 s).links.trans (raiseIf_links ..)

theorem setCalendar_places (t1 : Nat) (s : State) : (s.setCalendar t1).store.places = s.store.places :=
  (setCalendar_kept t1 s).places.trans (congrArg Store.places (raiseIf_store ..))

/-! ## An empty Booking Book -/

theorem pass_of_empty {f : Nat → Booking → State → State × Bool} {s : State} (h : ∀ n, s.booking? n = none) :
    s.pass f = (s, []) := by
  unfold State.pass
  induction slotNumbers with
  | nil => rfl
  | cons n l ih =>
    have hone : Pass.one f (s, []) n = (s, []) := by simp [Pass.one, h n]
    rw [List.foldl_cons, hone, ih]

/-- With no booking and nobody waiting a report changes nothing. -/
theorem report_of_empty {f : Nat → Booking → State → State × Bool} {s : State} (h : ∀ n, s.booking? n = none)
    (hw : s.engine.waiting = []) : s.report f = s := by
  have hsort : s.sortWaiting = s := by
    unfold State.sortWaiting
    rw [hw, List.foldr_nil, ← hw]
  simp [State.report, pass_of_empty h, hsort, State.handGroup]

theorem setCalendar_of_empty {t1 : Nat} {s : State} (h : ∀ n, s.booking? n = none) (hw : s.engine.waiting = []) :
    s.setCalendar t1 = s.timeSet t1 := by
  have hbook (n : Nat) : (s.timeSet t1).booking? n = none := by
    rw [State.booking?, State.timeSet, raiseIf_book]
    exact h n
  have hwaiting : (s.timeSet t1).engine.waiting = [] := by
    rw [State.timeSet, raiseIf_engine]
    exact hw
  have hreport (f : Nat → Booking → State → State × Bool) : (s.timeSet t1).report f = s.timeSet t1 :=
    report_of_empty hbook hwaiting
  rw [setCalendar_eq, State.calendarSet, State.stepReport, hreport, hreport, ite_self, ite_self]

/-! ## The two commands (R11, R13) -/

theorem loading_of_takes {s : State} {p : Port} {code : Byte} {len : Nat} (h : s.takes p code len = true) :
    s.store.loading = false := by
  have hgate := ((takes_iff ..).1 h).2
  cases hl : s.store.loading with
  | false => rfl
  | true => simp [State.gate, hl] at hgate

/-- R11: what SET_TIME leaves: the port taken, the calendar set, the answer ready. -/
def State.timeSetOn (p : Port) (t1 : Nat) (s : State) : State :=
  ((s.taken p).setCalendar t1).modPort p fun q => { q with ready := q.ready ++ [⟨.done, 0x1A, []⟩] }

theorem exec_setTime {p : Port} {body : List Byte} {t1 : Nat} {s : State} (hb : secondField body 0 = some t1)
    (h : s.takes p 0x1A body.length = true) : exec (.setTime p body) s = .next (s.timeSetOn p t1) := by
  have hpending : ((s.taken p).setCalendar t1).links.resetPending = false := by
    rw [setCalendar_links, ← resetPending_of_takes h]
    cases p <;> rfl
  have hserve : (s.taken p).serveSetTime p body = ((s.taken p).setCalendar t1).respond p 0x1A .done [] := by
    simp [State.serveSetTime, hb]
  refine congrArg Host.Outcome.next ?_
  rw [takeRequest_takes h, hserve, respond_eq _ _ _ _ _ hpending, State.timeSetOn]

theorem timeSetOn_links (p : Port) (t1 : Nat) (s : State) :
    (s.timeSetOn p t1).links = (s.answered p 0x1A .done []).links := by
  rw [State.timeSetOn, State.modPort]
  dsimp only
  rw [setCalendar_links]
  cases p <;> rfl

/-- With no booking and nobody waiting the answer and the TIME notice are all the rest. -/
theorem timeSetOn_of_empty {p : Port} {t1 : Nat} {s : State} (h : ∀ n, s.booking? n = none)
    (hw : s.engine.waiting = []) :
    s.timeSetOn p t1 = ({ s.answered p 0x1A .done [] with time := s.time.setTo t1 } : State).raiseIf
      (s.time.state != (s.time.setTo t1).state) .time := by
  rw [State.timeSetOn, setCalendar_of_empty (s := s.taken p) h hw, State.timeSet, taken_time]
  cases p <;> cases s.time.state != (s.time.setTo t1).state <;> rfl

/-- R13: a broadcast SET TIME that is received sets the calendar. -/
theorem exec_broadcastSetTime {body : List Byte} {t1 : Nat} {s : State} (hb : secondField body 0 = some t1)
    (hr : s.receives .main = true) (hrx : s.links.main.rx = []) (hl : s.store.loading = false)
    (hlen : body.length = 7) : exec (.broadcastSetTime body) s = .next (s.setCalendar t1) := by
  have hhears : s.links.resetPending = false ∧ s.links.main.sending.isSome = false := by
    simpa [State.receives, State.closed] using hr
  refine congrArg Host.Outcome.next ?_
  simp [State.broadcast, hhears, gap_of_empty .main s hrx, hl, hlen, hb]

/-- `t` has the Booking Book and the engine that setting the calendar leaves, from a state with the time, the book, the
drive and the loaded store of `s`. -/
def setsCalendar (t1 : Nat) (s t : State) : Prop :=
  ∃ r : State, r.time = s.time ∧ r.book = s.book ∧ r.drive = s.drive ∧ r.store.loading = false ∧
    t.book = (r.setCalendar t1).book ∧ t.engine = (r.setCalendar t1).engine

theorem setsCalendar_of_exec {body : List Byte} {t1 : Nat} {s t : State} (hb : secondField body 0 = some t1)
    (h : (∃ p, s.takes p 0x1A body.length = true ∧ exec (.setTime p body) s = .next t) ∨
      (s.receives .main = true ∧ s.links.main.rx = [] ∧ s.store.loading = false ∧ body.length = 7 ∧
        exec (.broadcastSetTime body) s = .next t)) : setsCalendar t1 s t := by
  rcases h with ⟨p, htakes, hexec⟩ | ⟨hr, hrx, hl, hlen, hexec⟩
  · rw [exec_setTime hb htakes] at hexec
    cases hexec
    exact ⟨s.taken p, rfl, rfl, rfl, loading_of_takes (s := s) htakes, rfl, rfl⟩
  · rw [exec_broadcastSetTime hb hr hrx hl hlen] at hexec
    cases hexec
    exact ⟨s, rfl, rfl, rfl, hl, rfl, rfl⟩

/-! ## The reports deal with the bookings one by one -/

theorem recompute_dueNow_only {n : Nat} (hn : 1 ≤ n) (b : Booking) (s : State) :
    OnlyBooking n s ((s.setBooking n b).dueNow n).1 :=
  (setBooking_only hn b s).trans (dueNow_only hn _)

theorem setReportOne_oneByOne : OneByOne State.setReportOne where
  kept := setReportOne_kept
  only n b s hn := by
    unfold State.setReportOne
    split
    · exact .refl n s
    · exact recompute_dueNow_only hn _ s

theorem backwardOne_oneByOne : OneByOne State.backwardOne where
  kept := backwardOne_kept
  only n b s hn := by
    unfold State.backwardOne
    split
    case h_5 => exact .refl n s
    case h_6 => exact .refl n s
    all_goals exact recompute_dueNow_only hn _ s

theorem setBooking_raise_only {n : Nat} (hn : 1 ≤ n) (b : Booking) (k : Notice) (s : State) :
    OnlyBooking n s ((s.setBooking n b).raise k) :=
  (setBooking_only hn b s).trans (raise_only n k _)

theorem stepArmed_only {n : Nat} (hn : 1 ≤ n) (l : List Nat) (b : Booking) (s : State) :
    OnlyBooking n s (s.stepArmed n l b).1 := by
  unfold State.stepArmed
  split
  · exact setBooking_only hn _ s
  · dsimp only
    split
    · exact setBooking_only hn _ s
    · exact setBooking_raise_only hn _ _ s

theorem stepWaiting_only {n : Nat} (hn : 1 ≤ n) (t0 : Nat) (b : Booking) (s : State) :
    OnlyBooking n s (s.stepWaiting n t0 b).1 := by
  have hmissed : OnlyBooking n s ((s.leaveWaiting n).disposeWaiting n .timeStep) :=
    (leaveWaiting_only n s).trans (dispose_only hn ..)
  unfold State.stepWaiting
  dsimp only
  split
  · split
    · exact hmissed
    · exact hmissed.trans (stepArmed_only hn ..)
  · exact setBooking_only hn _ s

theorem stepSounding_only {n : Nat} (hn : 1 ≤ n) (t0 : Nat) (b : Booking) (s : State) :
    OnlyBooking n s (s.stepSounding n t0 b).1 := by
  unfold State.stepSounding
  dsimp only
  split
  · exact setBooking_only hn _ s
  · exact setBooking_raise_only hn _ _ s

theorem forwardOne_oneByOne (t0 : Nat) : OneByOne (State.forwardOne t0) where
  kept := forwardOne_kept t0
  only n b s hn := by
    unfold State.forwardOne
    split
    · exact stepArmed_only hn ..
    · exact stepWaiting_only hn ..
    · exact stepSounding_only hn ..
    · exact stepSounding_only hn ..
    · exact .refl n s
    · exact .refl n s

/-! ## What a report leaves of a booking, under HUSH -/

section
variable {t1 n : Nat} {b : Booking} {s t : State}

/-- A report made with the time set, and starts held by HUSH, leaves a booking as its dealing with it does. -/
theorem report_dealtWith {f : Nat → Booking → State → State × Bool} (hf : OneByOne f) {r : State}
    (hhush : r.drive.hush = true) (hl : r.store.loading = false) (hb : r.booking? n = some b) (hn : n ≤ 96)
    (hbook : t.book = ((r.timeSet t1).report f).book) (hengine : t.engine = ((r.timeSet t1).report f).engine) :
    dealtWith (r.time.setTo t1) n b (f n b) t := by
  have hhush' : (r.timeSet t1).drive.hush = true := by rw [State.timeSet, raiseIf_drive]; exact hhush
  have hl' : (r.timeSet t1).store.loading = false := by rw [State.timeSet, raiseIf_store]; exact hl
  have hb' : (r.timeSet t1).booking? n = some b := by rw [State.booking?, State.timeSet, raiseIf_book]; exact hb
  obtain ⟨u, hk, hu, hsame, hwait, _⟩ := report_booking hf (.inl hhush') hl' hb' hn
  refine ⟨u, hk.time.trans (timeSet_time ..), hu, ?_, fun hdue => ?_⟩
  · rw [← hsame, State.booking?, hbook]
    rfl
  · rw [hengine]
    exact hwait hdue

variable (h : setsCalendar t1 s t) (hhush : s.drive.hush = true) (hb : s.booking? n = some b) (hn : n ≤ 96)
include h hhush hb hn

/-- R33: out of UNSET the set report deals with the booking. -/
theorem setsCalendar.set_dealt (hs : s.time.state = .unset) :
    dealtWith (s.time.setTo t1) n b (State.setReportOne n b) t := by
  obtain ⟨r, htime, hbook, hdrive, hl, htbook, htengine⟩ := h
  rw [setCalendar_eq, htime, if_pos hs] at htbook htengine
  rw [← htime]
  exact report_dealtWith setReportOne_oneByOne (by rw [hdrive]; exact hhush) hl
    (by rw [State.booking?, hbook]; exact hb) hn htbook htengine

/-- R34, R35: at a step forward each booking is dealt with by `State.forwardOne`. -/
theorem setsCalendar.forward_dealt (hs : s.time.state ≠ .unset) (hlt : s.time.second < t1) :
    dealtWith (s.time.setTo t1) n b (State.forwardOne s.time.second n b) t := by
  obtain ⟨r, htime, hbook, hdrive, hl, htbook, htengine⟩ := h
  have hforward : s.time.second < (r.timeSet t1).time.second := by rw [timeSet_time]; exact hlt
  rw [setCalendar_eq, htime, if_neg hs, if_neg (Nat.ne_of_lt hlt), State.stepReport, if_pos hforward]
    at htbook htengine
  rw [← htime] at htbook htengine ⊢
  exact report_dealtWith (forwardOne_oneByOne _) (by rw [hdrive]; exact hhush) hl
    (by rw [State.booking?, hbook]; exact hb) hn htbook htengine

/-- R36: at a step backward each booking is dealt with by `State.backwardOne`. -/
theorem setsCalendar.backward_dealt (hs : s.time.state ≠ .unset) (hlt : t1 < s.time.second) :
    dealtWith (s.time.setTo t1) n b (State.backwardOne n b) t := by
  obtain ⟨r, htime, hbook, hdrive, hl, htbook, htengine⟩ := h
  have hbackward : ¬ s.time.second < (r.timeSet t1).time.second := by
    rw [timeSet_time]
    exact Nat.not_lt.2 (Nat.le_of_lt hlt)
  rw [setCalendar_eq, htime, if_neg hs, if_neg (Nat.ne_of_gt hlt), State.stepReport, if_neg hbackward]
    at htbook htengine
  rw [← htime]
  exact report_dealtWith backwardOne_oneByOne (by rw [hdrive]; exact hhush) hl
    (by rw [State.booking?, hbook]; exact hb) hn htbook htengine

omit hhush hn in
/-- A calendar set to the second it holds makes no report. -/
theorem setsCalendar.same_second (hs : s.time.state ≠ .unset) (heq : s.time.second = t1) : t.booking? n = some b := by
  obtain ⟨r, htime, hbook, _, _, htbook, _⟩ := h
  rw [setCalendar_eq, htime, if_neg hs, if_pos heq, State.timeSet, raiseIf_book] at htbook
  rw [State.booking?, htbook]
  exact (congrArg (Book.booking? · n) hbook).trans hb

/-- R33–R36: a booking at rest with nothing to look for is left alone. -/
theorem setsCalendar.left_alone (hrest : b.state = .dormant ∨ (b.state = .spent ∧ s.time.state ≠ .unset)) :
    t.booking? n = some b := by
  by_cases hs : s.time.state = .unset
  · have hdormant : b.state = .dormant := hrest.resolve_right fun hspent => hspent.2 hs
    exact (h.set_dealt hhush hb hn hs).same fun u => by simp [State.setReportOne, hdormant]
  · have hstate : b.state = .dormant ∨ b.state = .spent := hrest.imp_right And.left
    rcases Nat.lt_trichotomy s.time.second t1 with hlt | heq | hgt
    · exact (h.forward_dealt hhush hb hn hs hlt).same fun u => by
        rcases hstate with hd | hd <;> simp [State.forwardOne, hd]
    · exact h.same_second hb hs heq
    · exact (h.backward_dealt hhush hb hn hs hgt).same fun u => by
        rcases hstate with hd | hd <;> simp [State.backwardOne, hd]

/-- R33: out of UNSET a NOW or LIVE booking is left alone. -/
theorem setsCalendar.immediate_alone (hs : s.time.state = .unset) (hk : b.record.kind.immediate = true) :
    t.booking? n = some b :=
  (h.set_dealt hhush hb hn hs).same fun u => by simp [State.setReportOne, hk]

/-- R33, R36: the set report and a step backward recompute a booking that is not at rest for good. -/
theorem setsCalendar.recomputed
    (hreport : (s.time.state = .unset ∧ b.record.kind.immediate = false ∧ b.state ≠ .dormant) ∨
      (s.time.state ≠ .unset ∧ t1 < s.time.second ∧ b.state ≠ .dormant ∧ b.state ≠ .spent)) :
    dealtWith (s.time.setTo t1) n b (State.recomputeNow n b) t := by
  rcases hreport with ⟨hs, hk, hd⟩ | ⟨hs, hlt, hd, hd'⟩
  · exact (h.set_dealt hhush hb hn hs).congr fun u _ => setReportOne_recomputes hk hd u
  · exact (h.backward_dealt hhush hb hn hs hlt).congr fun u _ => backwardOne_recomputes hd hd' u

end

/-! ## A booking after a step forward (R34, R35) -/

section
variable {T : TowerTime} {t0 n : Nat} {b : Booking} {t : State} {front : List Nat} {l : Nat}
variable (h : dealtWith T n b (State.forwardOne t0 n b) t)
include h

theorem forward_armed (hs : b.state = .armed) :
    dealtWith T n b (State.stepArmed n (b.steppedOver t0 T.second) b) t :=
  h.congr fun u hu => by simp [State.forwardOne, hs, hu]

theorem forward_due (hs : b.state = .due) : dealtWith T n b (State.stepWaiting n t0 b) t :=
  h.congr fun u _ => by simp [State.forwardOne, hs]

theorem forward_sounding (hs : b.state = .sounding ∨ b.state = .suspended) :
    dealtWith T n b (State.stepSounding n t0 b) t :=
  h.congr fun u _ => by rcases hs with hs | hs <;> simp [State.forwardOne, hs]

/-- R34: with nothing stepped over an ARMED booking is found again. -/
theorem forward_armed_found (hs : b.state = .armed) (hT : T.state ≠ .unset) (hx : b.steppedOver t0 T.second = []) :
    t.booking? n = some { b with
      next := b.nextOccurrence T
      state := if b.record.enabled = false then .dormant
        else if b.nextOccurrence T = none then .spent else .armed } := by
  have hrest : b.busy = false := by rw [Booking.busy, hs]
  rw [← recompute_rest hrest hT]
  exact ((forward_armed h hs).written fun u hu => by rw [hx, ← hu]; rfl).1

/-- R34: the latest occurrence stepped over is taken within the patience. -/
theorem forward_armed_taken (hs : b.state = .armed) (hm : b.missed ≤ 65535)
    (hx : b.steppedOver t0 T.second = front ++ [l]) (hp : T.second - l ≤ b.record.patience) :
    n ∈ t.engine.waiting ∧ ∃ b', t.booking? n = some b' ∧ b.fallenDue b' l (T.second - l) ∧
      b'.missed = min 65535 (b.missed + front.length) ∧ b'.lastOutcome = b.lastOutcome ∧ b'.unread = b.unread := by
  obtain ⟨u, rfl, hu, hbook, hwait⟩ := forward_armed h hs
  obtain ⟨b', hstep, hrest⟩ := stepArmed_taken (n := n) (front := front) hp hm
  rw [hx, hstep] at hbook hwait
  exact ⟨hwait rfl, b', hbook.trans (booking?_setBooking hu b'), hrest⟩

/-- R34: the latest occurrence stepped over is missed past the patience. -/
theorem forward_armed_missed (hs : b.state = .armed) (hm : b.missed ≤ 65535)
    (hx : b.steppedOver t0 T.second = front ++ [l]) (hp : b.record.patience < T.second - l) :
    ∃ b', t.booking? n = some b' ∧ b'.busy = false ∧ b'.unread = true ∧
      b'.missed = min 65535 (b.missed + (front.length + 1)) ∧
      b'.lastOutcome = some ⟨.missed, some .timeStep, some l, ⟨0, 0, 0, 0⟩⟩ := by
  obtain ⟨u, rfl, hu, hbook, _⟩ := forward_armed h hs
  obtain ⟨b', hstep, hrest⟩ := stepArmed_missed (n := n) (front := front) hp hm
  rw [hx, hstep] at hbook
  exact ⟨b', hbook.trans (booking?_setBooking hu b'), hrest⟩

/-- R35: a waiting booking within its patience waits on. -/
theorem forward_due_waits {w : Nat} (hs : b.state = .due) (hw : b.waiting = some w)
    (hx : b.steppedOver t0 T.second = []) (hp : w + (T.second - t0) ≤ b.record.patience) :
    t.booking? n = some { b with waiting := some (w + (T.second - t0)), next := b.nextOccurrence T } :=
  ((forward_due h hs).written (due := false) fun u hu => by rw [← hu] at hx hp ⊢; exact stepWaiting_waits hw hx hp).1

/-- R35: a waiting booking past its patience is missed. -/
theorem forward_due_missed {w : Nat} (hs : b.state = .due) (hw : b.waiting = some w)
    (hk : b.record.kind.immediate = false) (hT : T.state ≠ .unset) (hx : b.steppedOver t0 T.second = [])
    (hp : b.record.patience < w + (T.second - t0)) :
    ∃ b', t.booking? n = some b' ∧ b'.busy = false ∧ b'.unread = true ∧ b'.missed = min 65535 (b.missed + 1) ∧
      b'.lastOutcome = some ⟨.missed, some .timeStep, b.current, ⟨0, 0, 0, 0⟩⟩ := by
  obtain ⟨u, rfl, hu, hbook, _⟩ := forward_due h hs
  obtain ⟨v, y, hstep, hv, htime, _, hrest, hunread, hmissed, hlast⟩ :=
    stepWaiting_missed (t0 := t0) hu hk (.inl (by rw [hw]; exact hp))
  have hagain : (v.stepArmed n [] y).1.booking? n = some (y.recompute v.time) := booking?_setBooking hv _
  rw [hstep, hx, hagain, htime] at hbook
  refine ⟨_, hbook, recompute_not_busy hrest, ?_⟩
  rw [recompute_rest hrest hT]
  exact ⟨hunread, hmissed, hlast⟩

/-- R31, R35: a waiting NOW or LIVE booking past its patience goes. -/
theorem forward_due_removed {w : Nat} (hs : b.state = .due) (hw : b.waiting = some w)
    (hk : b.record.kind.immediate = true) (hp : b.record.patience < w + (T.second - t0)) : t.booking? n = none := by
  obtain ⟨u, rfl, hu, hbook, _⟩ := forward_due h hs
  exact hbook.trans (stepWaiting_removed hu hk (by rw [hw]; exact hp))

/-- R35: an occurrence stepped over within the patience replaces the waiting one. -/
theorem forward_due_taken (hs : b.state = .due) (hk : b.record.kind.immediate = false)
    (hx : b.steppedOver t0 T.second = front ++ [l]) (hp : T.second - l ≤ b.record.patience) :
    n ∈ t.engine.waiting ∧ ∃ b', t.booking? n = some b' ∧ b.fallenDue b' l (T.second - l) ∧
      b'.missed = min 65535 (b.missed + (front.length + 1)) ∧
      b'.lastOutcome = some ⟨.missed, some .timeStep, b.current, ⟨0, 0, 0, 0⟩⟩ := by
  obtain ⟨u, rfl, hu, hbook, hwait⟩ := forward_due h hs
  obtain ⟨v, y, hstep, hv, htime, hrecord, _, _, hmissed, hlast⟩ :=
    stepWaiting_missed (t0 := t0) hu hk (.inr (by simp [hx]))
  obtain ⟨b', htaken, ⟨hrecord', hstate, hcurrent, hwaiting⟩, hmissed', hlast', _⟩ :=
    stepArmed_taken (u := v) (n := n) (x := y) (front := front) (l := l) (by rw [htime, hrecord]; exact hp)
      (by rw [hmissed]; exact Nat.min_le_left ..)
  rw [hstep, hx, htaken] at hbook hwait
  refine ⟨hwait rfl, b', hbook.trans (booking?_setBooking hv b'),
    ⟨hrecord'.trans hrecord, hstate, hcurrent, hwaiting.trans (by rw [htime])⟩, ?_, hlast'.trans hlast⟩
  rw [hmissed', hmissed]
  omega

/-- R35: a sounding booking with nothing stepped over only has its next occurrence found again. -/
theorem forward_sounding_renewed (hs : b.state = .sounding ∨ b.state = .suspended)
    (hx : b.steppedOver t0 T.second = []) : t.booking? n = some { b with next := b.nextOccurrence T } :=
  ((forward_sounding h hs).written (due := false) fun u hu => by simp [State.stepSounding, hu, hx, Booking.renext]).1

/-- R35: an occurrence stepped over while a booking sounds is missed. -/
theorem forward_sounding_missed (hs : b.state = .sounding ∨ b.state = .suspended) (hm : b.missed ≤ 65535)
    (hx : b.steppedOver t0 T.second = front ++ [l]) :
    ∃ b', t.booking? n = some b' ∧ b'.state = b.state ∧ b'.current = b.current ∧ b'.unread = true ∧
      b'.missed = min 65535 (b.missed + (front.length + 1)) ∧
      b'.lastOutcome = some ⟨.missed, some .stillSounding, some l, ⟨0, 0, 0, 0⟩⟩ := by
  obtain ⟨u, rfl, hu, hbook, _⟩ := forward_sounding h hs
  obtain ⟨b', hstep, hrest⟩ := stepSounding_missed (n := n) hx hm
  rw [hstep] at hbook
  exact ⟨b', hbook.trans (booking?_setBooking hu b'), hrest⟩

end

/-- Settles O21: `exec_setTime` and `exec_broadcastSetTime` for the calendar; for a booking, the report that
`setCalendar_eq` names deals with it alone (`report_dealtWith`). -/
theorem settingTheTime : Obligations.SettingTheTime := by
  unfold Obligations.SettingTheTime
  intro body t1 s hsecond
  refine ⟨fun p htakes => ?_, fun hr hrx hl hlen => ?_, fun t n b hexec hhush hn hb hm => ?_⟩
  · exact ⟨_, exec_setTime hsecond htakes, setCalendar_time t1 _, timeSetOn_links p t1 s, setCalendar_places t1 _,
      timeSetOn_of_empty⟩
  · exact ⟨_, exec_broadcastSetTime hsecond hr hrx hl hlen, setCalendar_time t1 s, setCalendar_links t1 s,
      setCalendar_places t1 s⟩
  · have h := setsCalendar_of_exec hsecond hexec
    have hT : (s.time.setTo t1).state ≠ .unset := setTo_state s.time t1
    refine ⟨h.same_second hb, h.left_alone hhush hb hn, h.immediate_alone hhush hb hn, fun hreport => ?_,
      fun hreport hbusy => ?_, fun hs hlt => ?_⟩
    · have hstate : b.state = .armed ∨ b.state = .spent :=
        hreport.elim (fun hset => hset.2.2) fun hback => .inl hback.2.2
      have hrest : b.busy = false := by rcases hstate with hs | hs <;> rw [Booking.busy, hs]
      refine recomputeNow_rest (h.recomputed hhush hb hn (hreport.imp ?_ ?_)) hT hrest
      · rintro ⟨hs, hk, -⟩
        exact ⟨hs, hk, by rcases hstate with hs | hs <;> simp [hs]⟩
      · rintro ⟨hs, hlt, harmed⟩
        simp [hs, hlt, harmed]
    · obtain ⟨hdormant, hspent⟩ := not_rest_of_busy hbusy
      refine recomputeNow_busy (h.recomputed hhush hb hn (hreport.imp ?_ ?_)) hbusy
      · rintro ⟨hs, hk⟩
        exact ⟨hs, hk, hdormant⟩
      · rintro ⟨hs, hlt⟩
        exact ⟨hs, hlt, hdormant, hspent⟩
    · have hf := h.forward_dealt hhush hb hn hs hlt
      exact ⟨fun harmed => forward_armed_found hf harmed hT, fun _ _ harmed => forward_armed_taken hf harmed hm,
        fun _ _ harmed => forward_armed_missed hf harmed hm, fun _ hdue hw => forward_due_waits hf hdue hw,
        fun _ hdue hw hk => forward_due_missed hf hdue hw hk hT, fun _ hdue hw => forward_due_removed hf hdue hw,
        fun _ _ hdue hk => forward_due_taken hf hdue hk, fun hs => forward_sounding_renewed hf hs,
        fun _ _ hs => forward_sounding_missed hf hs hm⟩

end Sys2Proof.Machine
end

section
/-! PROOFS. The requests that ask the booking table or begin a store operation (R39–R45, R118, R136): O28, O29, O30,
O31 and O32; and the invariants at power-on: O6. -/

namespace Sys2Proof.Machine

/-! ## A taken request and its answer (R169, R182, R183) -/

/-- R169: a taken request that begins a store operation. -/
theorem takeRequest_accepted {s : State} {p : Port} {code : Byte} {body : List Byte}
    (h : s.takes p code body.length = true) {serve : State → State} {job : StoreJob}
    (hs : serve (s.taken p) = (s.taken p).acceptJob job p) :
    s.takeRequest p code body serve = s.accepted p job := by
  rw [takeRequest_takes h, hs, acceptJob_taken]

/-- R183: the owner's work has left the links of the taken request as they were, and the answer joins them. -/
theorem respond_of_links {s t : State} {p : Port} (h : s.links.resetPending = false)
    (ht : t.links = (s.taken p).links) (code : Byte) (a : AnswerCode) (answer : List Byte) :
    t.respond p code a answer = { t with links := (s.answered p code a answer).links } := by
  have hreset : (s.taken p).links.resetPending = false := by simpa [State.taken] using h
  rw [respond_eq _ _ _ _ _ (by rw [ht]; exact hreset)]
  unfold State.modPort
  rw [ht]
  cases p <;> rfl

@[simp] theorem taken_booking? (s : State) (p : Port) (n : Nat) : (s.taken p).booking? n = s.booking? n := rfl

@[simp] theorem taken_privilege (s : State) (p q : Port) : (s.taken p).privilege q = s.privilege q := rfl

theorem isIdle_iff (st : Store) : st.isIdle = true ↔ st.state = .idle := by simp [Store.isIdle]

theorem isIdle_eq_false {st : Store} (h : st.state ≠ .idle) : st.isIdle = false := by simp [Store.isIdle, h]

/-- Section 12.4: the booking number that opens a body. -/
theorem numberField_cons {n : Nat} (h1 : 1 ≤ n) (h2 : n ≤ 96) (bs : List Byte) :
    numberField (BitVec.ofNat 8 n :: bs) = some n := by
  have hn : n % 256 = n := Nat.mod_eq_of_lt (by omega)
  simp [numberField, byteField, inRange, byteAt, hn, h1, h2, Config.bookingSlots]

/-! ## Requests that begin a store operation (R39–R42, R118, R136) -/

section
variable {p : Port} {body : List Byte} {n : Nat} {r : BookingRecord} {b : Booking} {s : State}

/-- R38, R39: a BOOK whose record its port may make, with a slot free for it. -/
theorem serveBook_kept (hr : parseRecord body = some r) (hrank : r.rank ≤ s.privilege p)
    (hfree : s.book.lowestFree = some n) (hkept : r.kept = true) :
    (s.taken p).serveBook p body =
      if s.store.isIdle then ((s.taken p).setSlot n .reserved).acceptJob (.book n r) p
      else (s.taken p).respond p 0x01 .storeBusy [] := by
  simp only [State.serveBook, hr, taken_privilege, Nat.not_lt.2 hrank, taken_book, hfree, hkept, if_true, if_false]
  rfl

/-- R38, R40: an AMEND whose ranks its port may touch comes to the checks of the store. -/
theorem serveAmend_checked {bs : List Byte} (h1 : 1 ≤ n) (h2 : n ≤ 96) (hb : s.booking? n = some b)
    (hk : b.record.kind.immediate = false) (hr : parseRecord bs = some r) (hold : b.record.rank ≤ s.privilege p)
    (hnew : r.rank ≤ s.privilege p) :
    (s.taken p).serveAmend p (BitVec.ofNat 8 n :: bs) = (s.taken p).amendChecked p n b r := by
  simp [State.serveAmend, numberField_cons h1 h2, hb, hk, hr, Nat.not_lt.2 hold, Nat.not_lt.2 hnew]

/-- R42: a WITHDRAW of a booking its port may touch, with no operation pending at the slot. -/
theorem serveWithdraw_checked (h1 : 1 ≤ n) (h2 : n ≤ 96) (hb : s.booking? n = some b)
    (hrank : b.record.rank ≤ s.privilege p) (hpending : s.store.pendingAt n = false) :
    (s.taken p).serveWithdraw p [BitVec.ofNat 8 n] =
      if b.record.kept && !s.store.isIdle then (s.taken p).respond p 0x03 .storeBusy []
      else if b.record.kept then (s.taken p).acceptJob (.withdraw n) p
      else ((s.taken p).withdrawNow n).respond p 0x03 .done [] := by
  simp [State.serveWithdraw, numberField_cons h1 h2, hb, Nat.not_lt.2 hrank, hpending]

end

/-- Settles O28: each request passes its owner's checks, and then the state of the store decides. -/
theorem storedRequestsBegin : Obligations.StoredRequestsBegin := by
  unfold Obligations.StoredRequestsBegin
  refine ⟨fun p body r n s htakes hr hrank hfree hkept => ?_,
    fun p n bs b r s h1 h2 htakes hb hk hr hold hnew hkept hpending hidle => ?_,
    fun p n b s h1 h2 htakes hb hrank hkept hpending hidle => ?_, fun p body b r s htakes hr => ?_,
    fun p body d s htakes hd => ?_⟩
  · have hserve := serveBook_kept hr hrank hfree hkept
    refine ⟨fun hidle => ?_, fun hbusy => ?_⟩
    · rw [if_pos ((isIdle_iff _).2 hidle)] at hserve
      exact congrArg Host.Outcome.next ((takeRequest_takes htakes _).trans hserve)
    · rw [isIdle_eq_false hbusy] at hserve
      exact congrArg Host.Outcome.next (takeRequest_answered htakes hserve)
  · have hserve := serveAmend_checked h1 h2 hb hk hr hold hnew
    have hstoring : (b.record.kept || r.kept) = true := by simpa using hkept
    have hchecked : (s.taken p).amendChecked p n b r = (s.taken p).acceptJob (.amend n r) p := by
      simp [State.amendChecked, hstoring, hpending, (isIdle_iff _).2 hidle]
    exact congrArg Host.Outcome.next
      (takeRequest_accepted (body := BitVec.ofNat 8 n :: bs) htakes (hserve.trans hchecked))
  · have hserve := serveWithdraw_checked h1 h2 hb hrank hpending
    simp only [hkept, (isIdle_iff _).2 hidle, Bool.not_true, Bool.and_false, Bool.false_eq_true, if_false, if_true]
      at hserve
    exact congrArg Host.Outcome.next (takeRequest_accepted (body := [BitVec.ofNat 8 n]) htakes hserve)
  · refine ⟨fun hidle => ?_, fun hbusy => ?_⟩
    · refine congrArg Host.Outcome.next (takeRequest_accepted htakes ?_)
      simp [State.serveSetBell, hr, (isIdle_iff _).2 hidle]
    · refine congrArg Host.Outcome.next (takeRequest_answered htakes ?_)
      simp [State.serveSetBell, hr, isIdle_eq_false hbusy]
  · refine ⟨fun hidle => ?_, fun hbusy => ?_⟩
    · refine congrArg Host.Outcome.next (takeRequest_accepted htakes ?_)
      simp [State.serveSetDrive, hd, (isIdle_iff _).2 hidle]
    · refine congrArg Host.Outcome.next (takeRequest_answered htakes ?_)
      simp [State.serveSetDrive, hd, isIdle_eq_false hbusy]

/-! ## LOOK UP (R43) -/

section Lengths

@[simp] theorem be_length (n v : Nat) : (be n v).length = n := by
  induction n with
  | zero => rfl
  | succ n ih => rw [be, List.length_cons, ih]

@[simp] theorem absentBytes_length (n : Nat) : (absentBytes n).length = n := List.length_replicate ..

@[simp] theorem beOpt_length (n : Nat) (v : Option Nat) : (beOpt n v).length = n := by cases v <;> simp [beOpt]

@[simp] theorem beInt_length (n : Nat) (v : Int) : (beInt n v).length = n := be_length ..

@[simp] theorem yesNo_length (b : Bool) : (yesNo b).length = 1 := rfl

@[simp] theorem encDate_length (d : Option Nat) : (encDate d).length = 4 := by cases d <;> simp [encDate]

@[simp] theorem encTime_length (t : Option TimeOfDay) : (encTime t).length = 3 := by cases t <;> simp [encTime]

@[simp] theorem encSecond_length (t : Option Nat) : (encSecond t).length = 7 := by cases t <;> simp [encSecond]

@[simp] theorem encOutcome_length (o : Option OutcomeRecord) : (encOutcome o).length = 17 := by
  cases o <;> simp [encOutcome, encCounts]

@[simp] theorem encRecord_length (r : BookingRecord) : (encRecord r).length = 40 := by
  unfold encRecord
  cases r.window <;> simp

theorem encBooking_length (n : Nat) (b : Booking) : (encBooking n b).length = 92 := by
  simp [encBooking]

end Lengths

/-- Settles O29: an occupied slot is answered at once, by whether an operation is pending there; the lengths of the
fields add up (`encBooking_length`). -/
theorem lookUpAnswersTheRecord : Obligations.LookUpAnswersTheRecord := by
  unfold Obligations.LookUpAnswersTheRecord
  intro p n b s h1 h2 hb htakes
  refine ⟨fun hfree => ⟨?_, encBooking_length n b⟩, fun hpending => ?_⟩
  all_goals
    refine congrArg Host.Outcome.next (takeRequest_answered (body := [BitVec.ofNat 8 n]) htakes ?_)
  · simp [State.serveLookUp, numberField_cons h1 h2, hb, hfree]
  · simp [State.serveLookUp, numberField_cons h1 h2, hb, hpending]

/-! ## The occupied slots in order (R17) -/

theorem booking?_zero (b : Book) : b.booking? 0 = none := rfl

/-- R17: the list of the occupied slots holds each of them. -/
theorem mem_bookings {b : Book} {e : Nat × Booking} :
    e ∈ b.bookings ↔ e.1 ≤ 96 ∧ b.booking? e.1 = some e.2 := by
  obtain ⟨n, x⟩ := e
  simp only [Book.bookings, List.mem_filterMap, Option.map_eq_some_iff, Prod.mk.injEq]
  constructor
  · rintro ⟨m, hm, y, hy, rfl, rfl⟩
    exact ⟨(mem_slotNumbers.1 hm).2, hy⟩
  · rintro ⟨hn, hx⟩
    have hpos : 1 ≤ n := Nat.one_le_iff_ne_zero.2 fun h => by rw [h, booking?_zero] at hx; cases hx
    exact ⟨n, mem_slotNumbers.2 ⟨hpos, hn⟩, x, hx, rfl, rfl⟩

/-- R17: in number order. -/
theorem bookings_sorted (b : Book) : b.bookings.Pairwise fun x y => x.1 < y.1 := by
  have hnumbers : slotNumbers.Pairwise (· < ·) :=
    List.pairwise_map.2 (List.pairwise_lt_range.imp Nat.succ_lt_succ)
  refine List.Pairwise.filterMap _ (fun n m hlt x hx y hy => ?_) hnumbers
  obtain ⟨_, _, rfl⟩ := Option.map_eq_some_iff.1 hx
  obtain ⟨_, _, rfl⟩ := Option.map_eq_some_iff.1 hy
  exact hlt

/-! ## SET CURSOR and BROWSE (R44) -/

section
variable {p : Port} {n : Nat} {b : Booking} {s : State}

/-- R44: the slot the cursor comes to. -/
theorem firstFrom_eq_some {book : Book} {cursor : Nat} (hc : cursor ≤ n) (hn : n ≤ 96) (hb : book.booking? n = some b)
    (hbelow : ∀ m, cursor ≤ m → m < n → book.booking? m = none) : book.firstFrom cursor = some (n, b) := by
  have hmem : (n, b) ∈ book.bookings := mem_bookings.2 ⟨hn, hb⟩
  cases hfind : book.firstFrom cursor with
  | none => exact absurd hc (by simpa using List.find?_eq_none.1 hfind _ hmem)
  | some e =>
    obtain ⟨hle, before, after, hsplit, hbefore⟩ := List.find?_eq_some_iff_append.1 hfind
    have hsorted := bookings_sorted book
    rw [hsplit] at hmem hsorted
    rcases List.mem_append.1 hmem with h | h
    · simpa [hc] using hbefore _ h
    · rcases List.mem_cons.1 h with h | h
      · rw [h]
      · have hlt : e.1 < n := (List.pairwise_cons.1 (List.pairwise_append.1 hsorted).2.1).1 _ h
        have hbook : book.booking? e.1 = some e.2 := (mem_bookings.1 (by simp [hsplit])).2
        rw [hbelow e.1 (by simpa using hle) hlt] at hbook
        cases hbook

theorem firstFrom_eq_none {book : Book} {cursor : Nat} (h : ∀ m, cursor ≤ m → m ≤ 96 → book.booking? m = none) :
    book.firstFrom cursor = none := by
  refine List.find?_eq_none.2 fun e he => ?_
  obtain ⟨hn, hb⟩ := mem_bookings.1 he
  simp only [decide_eq_true_eq]
  intro hc
  rw [h e.1 hc hn] at hb
  cases hb

/-- R44: an answer with the cursor moved. -/
theorem respond_setCursor (h : s.links.resetPending = false) (code : Byte) (a : AnswerCode) (answer : List Byte) :
    ((s.taken p).setCursor p n).respond p code a answer =
      (s.answered p code a answer).modPort p fun q => { q with cursor := n } := by
  rw [respond_eq _ _ _ _ _ (by simpa [State.setCursor, State.taken] using h)]
  simp only [State.setCursor, State.taken, State.answered, modPort_modPort]

theorem taken_cursor : ((s.taken p).port p).cursor = (s.port p).cursor := by
  rw [State.taken, port_modPort]

end

/-- R44, R187: every reset leaves the links as new. -/
theorem resetWith_cursor (time : TowerTime) (lock key : Bool) (drive : Drive) (straps : Straps) (cause : ResetCause)
    (atB : Bool) (s : State) (p : Port) :
    ((s.resetWith time lock key drive straps cause atB).port p).cursor = 1 := by
  cases p <;> rfl

/-- Settles O30: BROWSE answers the slot `firstFrom_eq_some` gives, and moves the cursor (`respond_setCursor`). -/
theorem cursorAndBrowse : Obligations.CursorAndBrowse := by
  unfold Obligations.CursorAndBrowse
  refine ⟨fun p n s h1 h2 htakes => ?_, fun p n b s htakes hc hn hb hbelow => ?_, fun p s htakes hnone => ?_,
    fun straps b p s t hreset => ?_⟩
  · have hfield : byteField [BitVec.ofNat 8 n] 0 1 97 = some n := by
      have hn : n % 256 = n := Nat.mod_eq_of_lt (by omega)
      simp [byteField, inRange, byteAt, hn, h1, h2]
    refine congrArg Host.Outcome.next ((takeRequest_takes (body := [BitVec.ofNat 8 n]) htakes _).trans ?_)
    simp only [State.serveSetCursor, hfield]
    exact respond_setCursor (resetPending_of_takes htakes) ..
  · refine congrArg Host.Outcome.next ((takeRequest_takes (body := []) htakes _).trans ?_)
    simp only [State.serveBrowse, taken_cursor, taken_book, firstFrom_eq_some hc hn hb hbelow]
    exact respond_setCursor (resetPending_of_takes htakes) ..
  · refine congrArg Host.Outcome.next ((takeRequest_takes (body := []) htakes _).trans ?_)
    simp only [State.serveBrowse, taken_cursor, taken_book, firstFrom_eq_none hnone]
    exact respond_setCursor (resetPending_of_takes htakes) ..
  · rcases hreset with ⟨pins, h⟩ | h | ⟨hdrained, h⟩
    · cases h
      exact resetWith_cursor ..
    · cases h
      exact resetWith_cursor ..
    · simp only [exec, execResetTakesEffect, hdrained, if_true] at h
      cases h
      exact resetWith_cursor ..

/-! ## NEXT DUE (R45) -/

/-- The entry of a booking in the NEXT DUE list, if it has a next occurrence. -/
def dueEntry (e : Nat × Booking) : Option DueEntry :=
  e.2.next.map fun t => ⟨e.1, t, e.2.record.rank, e.2.state⟩

/-- R45: the order of the list. -/
theorem DueEntry.before_iff (a b : DueEntry) : a.before b = true ↔ a.next < b.next ∨ (a.next = b.next ∧
    (b.rank < a.rank ∨ (a.rank = b.rank ∧ a.number ≤ b.number))) := by
  simp [DueEntry.before]

theorem DueEntry.before_trans {a b c : DueEntry} (hab : a.before b = true) (hbc : b.before c = true) :
    a.before c = true := by
  rw [DueEntry.before_iff] at *
  omega

theorem DueEntry.before_total (a b : DueEntry) : a.before b = true ∨ b.before a = true := by
  simp only [DueEntry.before_iff]
  omega

theorem insertDue_eq_orderedInsert (e : DueEntry) (l : List DueEntry) :
    insertDue e l = l.orderedInsert (fun a b => a.before b = true) e := by
  induction l with
  | nil => rfl
  | cons x xs ih => rw [insertDue, List.orderedInsert, ih]

/-- R45: the list is the entries sorted. -/
theorem dueEntries_eq (b : Book) :
    b.dueEntries = (b.bookings.filterMap dueEntry).insertionSort (fun a b => a.before b = true) := by
  unfold Book.dueEntries
  rw [funext fun e => funext (insertDue_eq_orderedInsert e)]
  rfl

/-- R45: a number stands in the list once. -/
theorem dueEntries_numbers (b : Book) : b.dueEntries.Pairwise fun x y => x.number ≠ y.number := by
  rw [dueEntries_eq]
  refine ((List.perm_insertionSort _ _).pairwise_iff fun h => h.symm).2 ?_
  refine List.Pairwise.filterMap _ (fun e f hlt x hx y hy => ?_) (bookings_sorted b)
  obtain ⟨_, _, rfl⟩ := Option.map_eq_some_iff.1 hx
  obtain ⟨_, _, rfl⟩ := Option.map_eq_some_iff.1 hy
  exact Nat.ne_of_lt hlt

theorem dueEntries_sorted (b : Book) : b.dueEntries.Pairwise fun x y => x.before y = true := by
  rw [dueEntries_eq]
  have : Std.Total fun x y : DueEntry => x.before y = true := ⟨DueEntry.before_total⟩
  have : IsTrans DueEntry fun x y => x.before y = true := ⟨fun _ _ _ => DueEntry.before_trans⟩
  exact List.pairwise_insertionSort _ _

theorem mem_dueEntries {b : Book} {e : DueEntry} : e ∈ b.dueEntries ↔ e.number ≤ 96 ∧
    ∃ x, b.booking? e.number = some x ∧ x.next = some e.next ∧ e.rank = x.record.rank ∧ e.state = x.state := by
  rw [dueEntries_eq, (List.perm_insertionSort _ _).mem_iff]
  simp only [List.mem_filterMap, mem_bookings, dueEntry, Option.map_eq_some_iff]
  constructor
  · rintro ⟨⟨n, x⟩, ⟨hn, hx⟩, t, ht, rfl⟩
    exact ⟨hn, x, hx, ht, rfl, rfl⟩
  · rintro ⟨hn, x, hx, ht, hrank, hstate⟩
    refine ⟨(e.number, x), ⟨hn, hx⟩, e.next, ht, ?_⟩
    rw [← hrank, ← hstate]

/-- Settles O31: the list is sorted (`dueEntries_sorted`), each number once, and complete (`mem_dueEntries`). -/
theorem nextDueIsInOrder : Obligations.NextDueIsInOrder := by
  unfold Obligations.NextDueIsInOrder
  refine fun p s htakes => ⟨?_, ?_, fun e => mem_dueEntries⟩
  · refine congrArg Host.Outcome.next (takeRequest_answered (body := []) htakes ?_)
    rw [← List.length_take]
    rfl
  · refine (dueEntries_sorted s.book).imp₂ (fun x y hbefore hne => ?_) (dueEntries_numbers s.book)
    rw [DueEntry.before_iff] at hbefore
    omega

/-! ## READ OUTCOMES (R45) -/

/-- What READ_OUTCOMES makes of a booking whose outcome it returned. -/
def Booking.markedRead (b : Booking) : Booking := { b with unread := false }

/-- R45: the slots of these bookings marked read, and no other. -/
theorem booking?_markSlots (chosen : List (Nat × Booking)) (hsorted : chosen.Pairwise fun x y => x.1 < y.1)
    (s : State) (hs : ∀ e ∈ chosen, s.booking? e.1 = some e.2) (n : Nat) :
    (chosen.foldl (fun b e => b.setSlot e.1 (.occupied e.2.markedRead)) s.book).booking? n =
      if n ∈ chosen.map Prod.fst then (s.booking? n).map Booking.markedRead else s.booking? n := by
  induction chosen generalizing s with
  | nil => rfl
  | cons e rest ih =>
    obtain ⟨hhead, htail⟩ := List.pairwise_cons.1 hsorted
    have hbook := hs e List.mem_cons_self
    have hpos := (booking?_range hbook).1
    have hother (m : Nat) (hm : m ≠ e.1) : (s.setBooking e.1 e.2.markedRead).booking? m = s.booking? m :=
      booking?_setSlot_ne hpos hm _
    have hrest := ih htail (s.setBooking e.1 e.2.markedRead) fun x hx =>
      (hother x.1 (Nat.ne_of_gt (hhead x hx))).trans (hs x (List.mem_cons_of_mem _ hx))
    refine Eq.trans hrest ?_
    by_cases hn : n = e.1
    · subst hn
      have hnot : e.1 ∉ rest.map Prod.fst := fun h => by
        obtain ⟨x, hx, hxe⟩ := List.mem_map.1 h
        exact absurd hxe (Nat.ne_of_gt (hhead x hx))
      rw [if_neg hnot, if_pos (List.mem_map_of_mem List.mem_cons_self), hbook]
      exact booking?_setBooking hbook _
    · simp only [hother n hn, List.map_cons, List.mem_cons, hn, false_or]

theorem unread_sublist (b : Book) : b.unread.Sublist b.bookings :=
  (List.take_sublist _ _).trans List.filter_sublist

theorem mem_unread {b : Book} {e : Nat × Booking} (h : e ∈ b.unread) :
    e.1 ≤ 96 ∧ b.booking? e.1 = some e.2 ∧ e.2.unread = true := by
  obtain ⟨hmem, hunread⟩ := List.mem_filter.1 ((List.take_sublist _ _).subset h)
  obtain ⟨hn, hb⟩ := mem_bookings.1 hmem
  exact ⟨hn, hb, hunread⟩

/-- R45: an unread outcome is left out only where sixteen of lower numbers are returned. -/
theorem not_mem_unread {b : Book} {n : Nat} {x : Booking} (hn : n ≤ 96) (hx : b.booking? n = some x)
    (hunread : x.unread = true) (hnot : (n, x) ∉ b.unread) : b.unread.length = 16 ∧ ∀ e ∈ b.unread, e.1 < n := by
  have hmem : (n, x) ∈ b.bookings.filter fun e => e.2.unread :=
    List.mem_filter.2 ⟨mem_bookings.2 ⟨hn, hx⟩, hunread⟩
  have hsorted : (b.bookings.filter fun e => e.2.unread).Pairwise fun x y => x.1 < y.1 := (bookings_sorted b).filter _
  rw [← List.take_append_drop 16 (b.bookings.filter _)] at hmem hsorted
  have hlate : (n, x) ∈ (b.bookings.filter fun e => e.2.unread).drop 16 :=
    (List.mem_append.1 hmem).resolve_left hnot
  refine ⟨?_, fun e he => (List.pairwise_append.1 hsorted).2.2 e he _ hlate⟩
  have hlength := List.length_pos_of_mem hlate
  rw [List.length_drop] at hlength
  rw [Book.unread, List.length_take]
  omega

/-- R45: the answer, and the table marked read. -/
theorem serveReadOutcomes_eq {s : State} {p : Port} (h : s.links.resetPending = false) :
    (s.taken p).serveReadOutcomes p =
      { s.answered p 0x08 .done s.book.encodeOutcomes with book := s.book.markRead } :=
  respond_of_links (t := { s.taken p with book := s.book.markRead }) h rfl ..

/-- Settles O32: the bookings returned are the first sixteen of the unread ones in number order, and
`booking?_markSlots` says what becomes of them. -/
theorem readOutcomesMarksRead : Obligations.ReadOutcomesMarksRead := by
  unfold Obligations.ReadOutcomesMarksRead
  intro p s htakes
  have hsorted := (bookings_sorted s.book).sublist (unread_sublist s.book)
  refine ⟨s.book.unread, { s.answered p 0x08 .done s.book.encodeOutcomes with book := s.book.markRead },
    List.length_take_le _ _, hsorted, fun e he => mem_unread he, fun n b => not_mem_unread, ?_, rfl, rfl, fun n => ?_⟩
  · exact congrArg Host.Outcome.next ((takeRequest_takes (body := []) htakes _).trans
      (serveReadOutcomes_eq (resetPending_of_takes htakes)))
  · exact booking?_markSlots _ hsorted s (fun e he => (mem_unread he).2.1) n

/-! ## Power-on -/

/-- Settles O6: the lists of the reset state are empty or full of their initial values. -/
theorem boundsHoldAtReset : Obligations.BoundsHoldAtReset := by
  unfold Obligations.BoundsHoldAtReset
  refine ⟨rfl, rfl, List.Pairwise.nil, rfl, rfl⟩

end Sys2Proof.Machine
end

section
/-! PROOFS. What a failed store operation leaves (R166, R172): O46. -/

namespace Sys2Proof.Machine

/-! ## A failed completion (R166, R172) -/

/-- R172: the places after a verify failure. -/
theorem failed_failureLeaves (places : Places) (atB : Bool) (g : List Byte) (job : StoreJob) :
    job.failureLeaves atB places (places.failed atB g job) := by
  cases job with
  | segment m i bytes => exact ⟨g, rfl⟩
  | setProtection r => cases atB <;> rfl
  | _ => rfl

/-- R168, R172: an operation at work completes. -/
theorem exec_storeCompletion {s : State} {job : StoreJob} {p : Port} (hop : s.store.op = some ⟨job, p, true⟩)
    (hstate : s.store.state = .programming ∨ s.store.state = .erasing) (hsuspend : s.store.suspending = false)
    (x : Completion) : exec (.storeCompletion x) s = .next (s.completeOp ⟨job, p, true⟩ x) := by
  have hworking : s.store.working = true := by
    rcases hstate with h | h <;> simp [Store.working, hop, h]
  refine congrArg Host.Outcome.next ?_
  simp [hop, hworking, hsuspend]

/-- R172: an answer to the port that asked for the operation. -/
theorem respond_completed {s t : State} {p : Port} (h : s.links.resetPending = false) (ht : t.links = s.links)
    (code : Byte) (a : AnswerCode) (answer : List Byte) :
    t.respond p code a answer =
      { t with links := (s.modPort p fun q => { q with ready := q.ready ++ [⟨a, code, answer⟩] }).links } := by
  rw [respond_eq _ _ _ _ _ (by rw [ht]; exact h)]
  unfold State.modPort
  rw [ht]

theorem melody_modMelody_self {s : State} {m : Nat} (h : m < s.library.slots.length) (f : MelodySlot → MelodySlot) :
    (s.modMelody m f).melody m = f (s.melody m) := by
  simp [State.modMelody, State.melody, List.getD_eq_getElem?_getD, h]

/-- R151: a slot whose header cannot be read. -/
theorem unreadable_fields {x : MelodySlot} {positions : List SegmentPosition} (h : x = .unreadable positions) :
    x.header = .unreadable ∧ x.damaged = true ∧ x.state = .complete ∧ x.pending = .none ∧ x.positions = positions := by
  subst h
  exact ⟨rfl, rfl, rfl, rfl, rfl⟩

/-- R166, R172: the state after a failed completion. -/
theorem completeOp_failed {s : State} {job : StoreJob} {p : Port} {x : Completion} (hx : x ≠ .verified) (begun : Bool) :
    s.completeOp ⟨job, p, begun⟩ x = ((((({ s with
      store := { s.store with places := s.store.places.failed (decide (x = .failedAtCopyB)) s.garbage job }
      freeCount := if job.drawsBytes then s.freeCount + 1 else s.freeCount } : State).applyFailed job).raise
        .store).storeIdle).respond p job.code .storeFault []) := by
  cases x with
  | verified => exact absurd rfl hx
  | failed => rfl
  | failedAtCopyB => rfl

/-- R172: what the owner makes of a failed completion stays in the table and the slots of the library. -/
theorem applyFailed_frame (job : StoreJob) (s : State) :
    (s.applyFailed job).time = s.time ∧ (s.applyFailed job).engine = s.engine ∧ (s.applyFailed job).drive = s.drive ∧
      (s.applyFailed job).links = s.links ∧ (s.applyFailed job).store = s.store ∧
      (s.applyFailed job).notices = s.notices ∧ (s.applyFailed job).library.protection = s.library.protection := by
  cases job <;> exact ⟨rfl, rfl, rfl, rfl, rfl, rfl, rfl⟩

theorem applyFailed_library {job : StoreJob} (h : job.melodySlot? = none) (s : State) :
    (s.applyFailed job).library = s.library := by
  cases job with
  | define | segment | erase => cases h
  | _ => rfl

theorem applyFailed_book {job : StoreJob} (h : ∀ n r, job ≠ .book n r) (s : State) :
    (s.applyFailed job).book = s.book := by
  cases job with
  | book n r => exact absurd rfl (h n r)
  | _ => rfl

/-- Settles O46: the places by `failed_failureLeaves`, the rest by what the owner makes of the failure. -/
theorem failedCompletionApplies : Obligations.FailedCompletionApplies := by
  unfold Obligations.FailedCompletionApplies
  intro job p x s hx hop hstate hsuspend hreset
  let w : State := { s with
    store := { s.store with places := s.store.places.failed (decide (x = .failedAtCopyB)) s.garbage job }
    freeCount := if job.drawsBytes then s.freeCount + 1 else s.freeCount }
  obtain ⟨htime, hengine, hdrive, hlinks, hstore, hnotices, hprotection⟩ := applyFailed_frame job w
  have hrespond := respond_completed (p := p) hreset (t := ((w.applyFailed job).raise .store).storeIdle) hlinks
    job.code .storeFault []
  refine ⟨_, (exec_storeCompletion hop hstate hsuspend x).trans
    (congrArg Host.Outcome.next ((completeOp_failed hx true).trans hrespond)), rfl, rfl, ?_, rfl, htime, hengine,
    hdrive, hprotection, ?_, ?_, ?_, ?_, ?_, fun h => applyFailed_library h w, fun h => applyFailed_book h w⟩
  · exact congrArg (fun k : Notices => { k with flags := k.flags.set .store }) hnotices
  · exact (congrArg (job.failureLeaves _ s.store.places) (congrArg Store.places hstore)).mpr
      (failed_failureLeaves s.store.places _ s.garbage job)
  · rintro n r rfl - -
    rfl
  · rintro m h rfl hm
    have hslot := melody_modMelody_self (s := w) hm fun x => .unreadable x.positions
    exact unreadable_fields hslot
  · rintro m i bytes rfl hm
    have hslot := melody_modMelody_self (s := w) hm (·.segmentDone i .spoiled)
    exact ⟨congrArg MelodySlot.positions hslot, congrArg MelodySlot.pending hslot⟩
  · rintro m rfl hm
    have hslot := melody_modMelody_self (s := w) hm fun x => .unreadable x.positions
    exact unreadable_fields hslot

end Sys2Proof.Machine
end

section
/-! PROOFS. What the start-up load hands over (R47, R117, R133, R136, R163, R165, R176, R177): O20. -/

namespace Sys2Proof.Machine

/-! ## A place at the load (R166, R176) -/

section
variable {α : Type}

theorem loaded_of_whole (v : α) : (⟨.whole v, false⟩ : Place α).loaded = some v := rfl

theorem loaded_of_givesNothing {p : Place α} (h : p.givesNothing) : p.loaded = none := by
  unfold Place.loaded
  rcases h with h | h | h <;> simp [h]

/-- R176: the places that the load discards. -/
theorem fails_iff {p : Place α} : p.fails = true ↔ p.discarded := by
  unfold Place.fails Place.discarded
  cases p.content <;> simp

theorem fails_eq [DecidableEq α] (p : Place α) :
    p.fails = (p.content == .failing || (p.content != .empty && p.failedProgram)) := by
  unfold Place.fails
  cases p.content <;> simp [bne, BEq.beq]

end

/-! ## Bookings (R47) -/

theorem nextAfter_ge {b : Booking} {unset : Bool} {lo t : Nat} (h : b.nextAfter unset lo = some t) : lo ≤ t := by
  unfold Booking.nextAfter at h
  split at h
  · exact (Nat.le_max_left ..).trans (firstFrom_ge h)
  · cases h

/-- R47: a loaded booking is at rest, and its next occurrence is yet to come. -/
theorem loadedBooking_whole (T : TowerTime) (r : BookingRecord) :
    ∃ b, loadedBooking T ⟨.whole r, false⟩ = .occupied b ∧ b.record = r ∧ b.busy = false ∧ b.lastOutcome = none ∧
      ∀ x, b.next = some x → T.second < x :=
  ⟨_, rfl, rfl, restState_not_busy _ T rfl, rfl, fun _ hx => nextAfter_ge hx⟩

theorem loadedBooking_nothing (T : TowerTime) {p : Place BookingRecord} (h : p.givesNothing) :
    loadedBooking T p = .free := by
  rw [loadedBooking, loaded_of_givesNothing h]

/-! ## Bells (R117, R138) -/

theorem getD_zipWith_afterLoad {bells : List Bell} {places : List (Place BellRecord)} {n : Nat} {p : Place BellRecord}
    (hn : n < bells.length) (hp : places[n]? = some p) :
    ∃ b : Bell, (List.zipWith Bell.afterLoad bells places).getD n (.initial false) = b.afterLoad p := by
  refine ⟨bells[n], ?_⟩
  simp [List.getD_eq_getElem?_getD, List.getElem?_zipWith, hn, hp]

theorem afterLoad_whole (b : Bell) (r : BellRecord) :
    (b.afterLoad ⟨.whole r, false⟩).record = r ∧
      (b.afterLoad ⟨.whole r, false⟩).state = if r.present then .ready else .off := ⟨rfl, rfl⟩

theorem afterLoad_nothing (b : Bell) {p : Place BellRecord} (h : p.givesNothing) :
    (b.afterLoad p).record = .default ∧ (b.afterLoad p).state = .off := by
  unfold Bell.afterLoad
  rw [loaded_of_givesNothing h]
  exact ⟨rfl, rfl⟩

/-! ## The protection record (R163) -/

theorem newerCopy_of_step {x y : ProtectionRecord} (h : x.sequence = y.sequence ∨
    y.sequence = (x.sequence + 1) % 256 ∨ x.sequence = (y.sequence + 1) % 256) :
    newerCopy x y = if y.sequence = (x.sequence + 1) % 256 then y else x := by
  unfold newerCopy
  by_cases hy : y.sequence = (x.sequence + 1) % 256
  · rw [if_pos hy, if_pos hy]
  · rw [if_neg hy, if_neg hy, if_pos (h.imp_right fun h => h.resolve_left hy)]

section
variable {a b : Content ProtectionRecord}

theorem chooseProtection_first {x : ProtectionRecord} (hb : b = .empty ∨ b = .failing) :
    chooseProtection (.whole x) b = (x, false) := by
  rcases hb with rfl | rfl <;> rfl

theorem chooseProtection_second {y : ProtectionRecord} (ha : a = .empty ∨ a = .failing) :
    chooseProtection a (.whole y) = (y, false) := by
  rcases ha with rfl | rfl <;> rfl

theorem chooseProtection_fallback (ha : a = .empty ∨ a = .failing) :
    chooseProtection a .failing = (.fallback, true) := by
  rcases ha with rfl | rfl <;> rfl

theorem chooseProtection_default (ha : a = .empty ∨ a = .failing) :
    chooseProtection a .empty = (.default, false) := by
  rcases ha with rfl | rfl <;> rfl

theorem chooseProtection_falls_back :
    (chooseProtection a b).2 = true ↔ (a = .empty ∨ a = .failing) ∧ b = .failing := by
  cases a <;> cases b <;> simp [chooseProtection]

end

theorem fallback_guards {m : Nat} (h : m < 64) : ProtectionRecord.fallback.guard.guarded m = true := by
  simp [ProtectionRecord.fallback, Guard.guarded, Guard.inBase, GuardExtent.slots, h]

theorem default_guards (m : Nat) : ProtectionRecord.default.guard.guarded m = false := by
  simp [ProtectionRecord.default, Guard.guarded, Guard.inBase, GuardExtent.slots]

/-! ## Melody slots (R151, R165, R176) -/

theorem getElem?_loadedPositions (begun : List Bool) (count : Nat) {i : Nat} (h : i < 16) :
    (loadedPositions begun count)[i]? =
      some (if i < count ∧ begun.getD i false = true then .present else .absent) := by
  have hi : i < Config.segments := h
  simp [loadedPositions, hi]

/-- R151: a SCORE is complete when the program of each of its segments has begun. -/
theorem allPresent_loadedPositions {begun : List Bool} {count : Nat} :
    allPresent (loadedPositions begun count) count = true ↔ ∀ i, i < count → i < 16 → begun.getD i false = true := by
  have hlength : (loadedPositions begun count).length = 16 := by simp [loadedPositions, Config.segments]
  simp only [allPresent, List.all_eq_true, beq_iff_eq]
  constructor
  · intro hall i hi h16
    have hat := getElem?_loadedPositions begun count h16
    have hmem := List.mem_of_getElem? ((List.getElem?_take_of_lt hi).trans hat)
    by_contra hnot
    have hpresent := hall _ hmem
    rw [if_neg fun h => hnot h.2] at hpresent
    cases hpresent
  · intro hbegun p hp
    obtain ⟨i, hi⟩ := List.mem_iff_getElem?.1 hp
    rw [List.getElem?_take] at hi
    split at hi
    · rename_i hlt
      have h16 : i < 16 := by
        rw [← hlength]
        exact (List.getElem?_eq_some_iff.1 hi).1
      rw [getElem?_loadedPositions begun count h16, if_pos ⟨hlt, hbegun i hlt h16⟩] at hi
      exact (Option.some.inj hi).symm
    · cases hi

section
variable {places : Places} {m : Nat} {x : Place MelodyHeader} (hx : places.headers[m]? = some x)
include hx

/-- R151, R176: the slot of a cut erase, or of a header that does not pass. -/
theorem loadedSlot_unreadable (h : places.eraseBegun.getD m false = true ∨ x.discarded) :
    places.loadedSlot m = .unreadable (loadedPositions (places.programBegun.getD m []) 16) := by
  have hheader : places.headers.getD m Place.blank = x := by simp [List.getD_eq_getElem?_getD, hx]
  have hcond : (places.eraseBegun.getD m false || x.fails) = true := by
    rw [Bool.or_eq_true, fails_iff]
    exact h
  unfold Places.loadedSlot
  simp only [hheader, hcond, if_true]
  rfl

/-- Log 49: a blank header place gives an EMPTY slot, whatever its failed-program marker. -/
theorem loadedSlot_empty (he : places.eraseBegun.getD m false = false) (hc : x.content = .empty) :
    places.loadedSlot m = .initial := by
  have hheader : places.headers.getD m Place.blank = x := by simp [List.getD_eq_getElem?_getD, hx]
  have hfails : x.fails = false := by simp [Place.fails, hc]
  unfold Places.loadedSlot
  simp only [hheader, he, hfails, loaded_of_givesNothing (.inl hc), Bool.or_false, Bool.false_eq_true, if_false]

end

section
variable {places : Places} {m : Nat} {h : MelodyHeader} (hx : places.headers[m]? = some ⟨.whole h, false⟩)
  (he : places.eraseBegun.getD m false = false)
include hx he

/-- R165: a slot whose header passes, by its kind. -/
theorem loadedSlot_known : places.loadedSlot m =
    match h.shape with
    | .toll .. => { MelodySlot.initial with state := .complete, header := .known h }
    | .score count =>
      let positions := loadedPositions (places.programBegun.getD m []) count
      { MelodySlot.initial with
        state := if allPresent positions count then .complete else .defined
        header := .known h
        positions := positions } := by
  have hheader : places.headers.getD m Place.blank = ⟨.whole h, false⟩ := by simp [List.getD_eq_getElem?_getD, hx]
  unfold Places.loadedSlot
  simp only [hheader, he, loaded_of_whole]
  rfl

theorem loadedSlot_header : (places.loadedSlot m).header = .known h ∧ (places.loadedSlot m).damaged = false ∧
    (places.loadedSlot m).pending = .none := by
  rw [loadedSlot_known hx he]
  cases h.shape <;> exact ⟨rfl, rfl, rfl⟩

theorem loadedSlot_toll {a b c : Nat} {d : CountMode} (hs : h.shape = .toll a b c d) :
    (places.loadedSlot m).state = .complete := by
  rw [loadedSlot_known hx he, hs]

theorem loadedSlot_score {n : Nat} (hs : h.shape = .score n) :
    (places.loadedSlot m).positions = loadedPositions (places.programBegun.getD m []) n ∧
      (places.loadedSlot m).state =
        if allPresent (loadedPositions (places.programBegun.getD m []) n) n = true then .complete else .defined := by
  rw [loadedSlot_known hx he, hs]
  exact ⟨rfl, rfl⟩

end

/-! ## The whole hand-over (R177) -/

/-- What the load hands to the owners, its notices not yet raised. -/
def State.handedOver (s : State) : State :=
  { s with
    book := ⟨s.store.places.bookings.map (loadedBooking s.time), []⟩
    drive := s.drive.afterLoad s.store.places
    library := s.library.afterLoad s.store.places
    store := { s.store with loading := false, discards := s.store.places.discardCount } }

theorem finishLoad_eq {s : State} (h : s.store.loading = true) :
    s.finishLoad = (s.handedOver.raiseIf s.handedOver.loadRaisesStore .store).raiseIf
      (s.handedOver.drive.level != .normal) .drive := if_pos h

theorem booking?_of_occupied {b : Book} {n : Nat} {x : Booking} (h : b.slots[n]? = some (.occupied x)) :
    b.booking? (n + 1) = some x := by
  simp only [Book.booking?, h]

theorem booking?_of_free {b : Book} {n : Nat} (h : b.slots[n]? = some .free) : b.booking? (n + 1) = none := by
  simp only [Book.booking?, h]

/-- R17, R47: slot `n + 1` after the load is made from place `n`. -/
theorem getElem?_handedOver {s : State} {n : Nat} {x : Place BookingRecord}
    (hx : s.store.places.bookings[n]? = some x) {slot : Slot} (hslot : loadedBooking s.time x = slot) :
    s.handedOver.book.slots[n]? = some slot := by
  show (s.store.places.bookings.map (loadedBooking s.time))[n]? = some slot
  rw [List.getElem?_map, hx, Option.map_some, hslot]

/-- R117, R138: bell `n` after the load is made from place `n`. -/
theorem bell_handedOver {s : State} {n : Nat} {x : Place BellRecord} (hn : n < s.drive.bells.length)
    (hx : s.store.places.bells[n]? = some x) : ∃ b : Bell, s.handedOver.bell n = b.afterLoad x :=
  getD_zipWith_afterLoad hn hx

theorem melody_handedOver (s : State) {m : Nat} (h : m < 64) :
    s.handedOver.melody m = s.store.places.loadedSlot m := by
  have hm : m < Config.melodySlots := h
  show ((List.range Config.melodySlots).map s.store.places.loadedSlot).getD m .initial = _
  simp [List.getD_eq_getElem?_getD, hm]

/-- R163, R176: STORE is raised for a place discarded and for a DAMAGED slot. -/
theorem loadRaisesStore_iff (s : State) : s.handedOver.loadRaisesStore = true ↔
    s.handedOver.store.discards ≠ 0 ∨ ∃ m, m < 64 ∧ (s.handedOver.melody m).damaged = true := by
  have hslots : s.handedOver.library.slots.any MelodySlot.damaged = true ↔
      ∃ m, m < 64 ∧ (s.handedOver.melody m).damaged = true := by
    show ((List.range Config.melodySlots).map s.store.places.loadedSlot).any MelodySlot.damaged = true ↔ _
    simp only [List.any_map, List.any_eq_true, List.mem_range, Function.comp]
    exact exists_congr fun m => and_congr_right fun hm => by rw [melody_handedOver s hm]
  rw [State.loadRaisesStore, Bool.or_eq_true, hslots, bne_iff_ne]

/-- R188: two notices raised, each on its condition. -/
theorem raiseIf_store_drive (s : State) (a b : Bool) :
    (s.raiseIf a .store).raiseIf b .drive = { s with notices := { s.notices with flags := { s.notices.flags with
      store := s.notices.flags.store || a, drive := s.notices.flags.drive || b } } } := by
  cases a <;> cases b <;> simp [State.raiseIf, State.raise, NoticeBits.set]

/-- R133, R136: the drive settings after the load. -/
theorem drive_handedOver (s : State) : s.handedOver.drive.k = (s.store.places.drive.loaded.getD .default).k ∧
    s.handedOver.drive.low = (s.store.places.drive.loaded.getD .default).low ∧
    s.handedOver.drive.critical = (s.store.places.drive.loaded.getD .default).critical := ⟨rfl, rfl, rfl⟩

/-- R176: the discard count. -/
theorem discards_handedOver (s : State) : s.handedOver.store.discards = min 255 (
    s.store.places.bookings.countP (fun x => x.content == .failing || (x.content != .empty && x.failedProgram))
      + s.store.places.bells.countP (fun x => x.content == .failing || (x.content != .empty && x.failedProgram))
      + (if s.store.places.drive.content = .failing ∨
          (s.store.places.drive.content ≠ .empty ∧ s.store.places.drive.failedProgram = true) then 1 else 0)
      + (if (s.store.places.copyA = .empty ∨ s.store.places.copyA = .failing) ∧ s.store.places.copyB = .failing
          then 1 else 0)) := by
  show min 255 s.store.places.discards = _
  have hdrive : s.store.places.drive.fails = true ↔ s.store.places.drive.content = .failing ∨
      (s.store.places.drive.content ≠ .empty ∧ s.store.places.drive.failedProgram = true) := fails_iff
  simp only [Places.discards, hdrive, chooseProtection_falls_back]
  rw [funext fun p : Place BookingRecord => fails_eq p, funext fun p : Place BellRecord => fails_eq p]

/-- The state the load leaves: what was handed over, with the notices it raises. -/
def State.loadDone (s : State) : State := { s.handedOver with notices := { s.notices with flags := { s.notices.flags with
  store := s.notices.flags.store || s.handedOver.loadRaisesStore
  drive := s.notices.flags.drive || s.handedOver.drive.level != .normal } } }

theorem exec_loadComplete {s : State} (h : s.store.loading = true) : exec .loadComplete s = .next s.loadDone :=
  congrArg Host.Outcome.next ((finishLoad_eq h).trans (raiseIf_store_drive ..))

theorem protection_loadDone (s : State) :
    s.loadDone.library.protection = (chooseProtection s.store.places.copyA s.store.places.copyB).1 := rfl

theorem guarded_loadDone (s : State) (m : Nat) : s.loadDone.guarded m = s.loadDone.library.protection.guard.guarded m :=
  rfl

theorem melody_loadDone (s : State) {m : Nat} (h : m < 64) : s.loadDone.melody m = s.store.places.loadedSlot m :=
  melody_handedOver s h

/-- Settles O20: owner by owner, in the state `State.loadDone`. -/
theorem loadCompleteHandsOver : Obligations.LoadCompleteHandsOver := by
  unfold Obligations.LoadCompleteHandsOver
  intro s hloading hbookings hbells hdrive
  refine ⟨s.loadDone, exec_loadComplete hloading, rfl, rfl, rfl, rfl, rfl, rfl, rfl, fun n r _ hx => ?_,
    fun n x _ hx hnothing => ?_, fun n r hn hx => ?_, fun n x hn hx hnothing => ?_, fun d hd => ?_, fun hnothing => ?_,
    rfl, rfl, rfl, fun x y ha hb hstep => ?_, fun x ha hb => ?_, fun y ha hb => ?_, fun ha hb => ?_, fun ha hb => ?_,
    fun m x hm hx => ⟨fun hbad => ?_, fun he hc => ?_, fun h he hwhole => ?_⟩, discards_handedOver s, ?_, ?_, rfl⟩
  · obtain ⟨b, hloaded, hrest⟩ := loadedBooking_whole s.time r
    exact ⟨b, booking?_of_occupied (getElem?_handedOver hx hloaded), hrest⟩
  · exact booking?_of_free (getElem?_handedOver hx (loadedBooking_nothing s.time hnothing))
  · obtain ⟨b, hb⟩ := bell_handedOver (hdrive ▸ hn) hx
    have hbell : s.loadDone.bell n = b.afterLoad _ := hb
    rw [hbell]
    exact afterLoad_whole b r
  · obtain ⟨b, hb⟩ := bell_handedOver (hdrive ▸ hn) hx
    have hbell : s.loadDone.bell n = b.afterLoad _ := hb
    rw [hbell]
    exact afterLoad_nothing b hnothing
  · have hsettings := drive_handedOver s
    rw [hd] at hsettings
    exact hsettings
  · have hsettings := drive_handedOver s
    rw [loaded_of_givesNothing hnothing] at hsettings
    exact hsettings
  · rw [protection_loadDone, ha, hb]
    exact newerCopy_of_step hstep
  · rw [protection_loadDone, ha, chooseProtection_first hb]
  · rw [protection_loadDone, hb, chooseProtection_second ha]
  · simp only [guarded_loadDone, protection_loadDone, hb, chooseProtection_fallback ha]
    exact ⟨rfl, fun m hm => fallback_guards hm⟩
  · simp only [guarded_loadDone, protection_loadDone, hb, chooseProtection_default ha]
    exact ⟨rfl, default_guards⟩
  · rw [melody_loadDone s hm, loadedSlot_unreadable hx hbad]
    refine ⟨rfl, rfl, rfl, fun i hi => ⟨fun hbegun => ?_, fun hbegun => ?_⟩⟩
    · exact (getElem?_loadedPositions _ _ hi).trans (congrArg some (if_pos ⟨hi, hbegun⟩))
    · exact (getElem?_loadedPositions _ _ hi).trans (congrArg some (if_neg fun h => hbegun h.2))
  · rw [melody_loadDone s hm, loadedSlot_empty hx he hc]
    rfl
  · subst hwhole
    rw [melody_loadDone s hm]
    obtain ⟨hheader, hdamaged, hpending⟩ := loadedSlot_header hx he
    refine ⟨hheader, hdamaged, hpending, fun a b c d hs => loadedSlot_toll hx he hs, fun n hs => ?_⟩
    obtain ⟨hpositions, hstate⟩ := loadedSlot_score hx he hs
    rw [hpositions, hstate]
    refine ⟨fun i hi => ?_, fun hall => if_pos (allPresent_loadedPositions.2 hall),
      fun hall => if_neg fun h => hall (allPresent_loadedPositions.1 h)⟩
    rw [getElem?_loadedPositions _ _ hi]
    exact ⟨fun h => congrArg some (if_pos h), fun h => congrArg some (if_neg h)⟩
  · exact Bool.or_eq_true_iff.trans (or_congr_right (loadRaisesStore_iff s))
  · exact Bool.or_eq_true_iff.trans (or_congr_right bne_iff_ne)

end Sys2Proof.Machine
end

section
/-! PROOFS. The occurrences of a booking and the search for the next one (R20–R22, R34, R35): O25 and O26. -/

namespace Sys2Proof.Machine

/-! ## What a BOOK can carry (R18) -/

/-- The pattern of a record that a BOOK or AMEND can carry (R18): a kind with occurrences, a time of day in range with
an hour where the kind has one, a date where it is ONCE, and an hour window in order. -/
structure BookingRecord.Patterned (r : BookingRecord) : Prop where
  dated : r.kind.immediate = false
  time : ∃ tod, r.time = some tod ∧ tod.minute < 60 ∧ tod.second < 60 ∧
    (r.kind ≠ .hourly → ∃ h, tod.hour = some h ∧ h < 24)
  date : r.kind = .once → ∃ d, r.date = some d
  window : ∀ w, r.window = some w → w.1 ≤ w.2 ∧ w.2 < 24

theorem byteField_le {bs : List Byte} {i lo hi v : Nat} (h : byteField bs i lo hi = some v) : lo ≤ v ∧ v ≤ hi := by
  unfold byteField inRange at h
  split at h
  · cases h
    assumption
  · cases h

theorem timeField_range {bs : List Byte} {t : TimeOfDay} (h : timeField bs = some t) :
    t.minute < 60 ∧ t.second < 60 ∧ ∃ x, t.hour = some x ∧ x < 24 := by
  simp only [timeField, Option.bind_eq_bind, Option.bind_eq_some_iff, Option.pure_def, Option.some.injEq] at h
  obtain ⟨x, hx, m, hm, s, hs, rfl⟩ := h
  exact ⟨Nat.lt_succ_of_le (byteField_le hm).2, Nat.lt_succ_of_le (byteField_le hs).2, x, rfl,
    Nat.lt_succ_of_le (byteField_le hx).2⟩

theorem hourlyTimeField_range {bs : List Byte} {t : TimeOfDay} (h : hourlyTimeField bs = some t) :
    t.minute < 60 ∧ t.second < 60 := by
  simp only [hourlyTimeField, Option.bind_eq_bind, Option.bind_eq_some_iff, Option.pure_def, Option.some.injEq] at h
  obtain ⟨m, hm, s, hs, rfl⟩ := h
  exact ⟨Nat.lt_succ_of_le (byteField_le hm).2, Nat.lt_succ_of_le (byteField_le hs).2⟩

theorem windowField_range {bs : List Byte} {w : Nat × Nat} (h : windowField bs = some (some w)) :
    w.1 ≤ w.2 ∧ w.2 < 24 := by
  unfold windowField at h
  split at h
  · cases h
  · simp only [Option.bind_eq_bind, Option.bind_eq_some_iff] at h
    obtain ⟨a, _, b, hb, hab⟩ := h
    split at hab
    · cases hab
      exact ⟨‹_›, Nat.lt_succ_of_le (byteField_le hb).2⟩
    · cases hab

/-- R18: the pattern fields of a record are those its kind reads. -/
theorem parseRecord_fields {bs : List Byte} {r : BookingRecord} (h : parseRecord bs = some r) :
    patternFields bs r.kind = some ⟨r.date, r.time, r.weekdays, r.window⟩ := by
  unfold parseRecord at h
  obtain ⟨kind, -, h⟩ := Option.bind_eq_some_iff.1 h
  obtain ⟨fields, hfields, h⟩ := Option.bind_eq_some_iff.1 h
  iterate 2 obtain ⟨_, -, h⟩ := Option.bind_eq_some_iff.1 h
  dsimp only at h
  split at h
  · cases h
  · iterate 11 obtain ⟨_, -, h⟩ := Option.bind_eq_some_iff.1 h
    split at h
    · cases h
    · cases h
      exact hfields

/-- R18: a record that a BOOK or AMEND can carry has the pattern of its kind. -/
theorem patterned_of_parse {bs : List Byte} {r : BookingRecord} (h : parseRecord bs = some r) : r.Patterned := by
  have hfields := parseRecord_fields h
  obtain ⟨kind, date, time, weekdays, window⟩ := r
  cases kind with
  | once =>
    obtain ⟨d, -, hfields⟩ := Option.bind_eq_some_iff.1 hfields
    obtain ⟨t, ht, hfields⟩ := Option.bind_eq_some_iff.1 hfields
    cases hfields
    obtain ⟨hm, hs, hh⟩ := timeField_range ht
    exact ⟨rfl, ⟨t, rfl, hm, hs, fun _ => hh⟩, fun _ => ⟨d, rfl⟩, nofun⟩
  | daily =>
    obtain ⟨t, ht, hfields⟩ := Option.bind_eq_some_iff.1 hfields
    cases hfields
    obtain ⟨hm, hs, hh⟩ := timeField_range ht
    exact ⟨rfl, ⟨t, rfl, hm, hs, fun _ => hh⟩, nofun, nofun⟩
  | weekly =>
    obtain ⟨t, ht, hfields⟩ := Option.bind_eq_some_iff.1 hfields
    obtain ⟨w, -, hfields⟩ := Option.bind_eq_some_iff.1 hfields
    cases hfields
    obtain ⟨hm, hs, hh⟩ := timeField_range ht
    exact ⟨rfl, ⟨t, rfl, hm, hs, fun _ => hh⟩, nofun, nofun⟩
  | hourly =>
    obtain ⟨t, ht, hfields⟩ := Option.bind_eq_some_iff.1 hfields
    obtain ⟨w, hwindow, hfields⟩ := Option.bind_eq_some_iff.1 hfields
    cases hfields
    obtain ⟨hm, hs⟩ := hourlyTimeField_range ht
    exact ⟨rfl, ⟨t, rfl, hm, hs, fun hk => absurd rfl hk⟩, nofun, fun v hv => windowField_range (hv ▸ hwindow)⟩
  | now => cases hfields
  | live => cases hfields

/-! ## Seconds and days (R3, R20) -/

/-- The fields of a calendar second, and the second they name. -/
theorem eq_secondAt_iff {t d h m s : Nat} (hh : h < 24) (hm : m < 60) (hs : s < 60) :
    t = secondAt d h m s ↔ dayOfSecond t = d ∧ hourOf t = h ∧ minuteOf t = m ∧ secondOf t = s := by
  simp only [secondAt, dayOfSecond, hourOf, minuteOf, secondOf, Config.daySeconds]
  omega

theorem hourOf_lt (t : Nat) : hourOf t < 24 := by
  simp only [hourOf, Config.daySeconds]
  omega

theorem secondAt_lt {d h h' m s : Nat} (hlt : h < h') : secondAt d h m s < secondAt d h' m s := by
  simp only [secondAt]
  omega

/-- Weekdays come again after seven days. -/
theorem weekday_add_seven (d k : Nat) : weekday (d + 7 * k) = weekday d := by
  simp only [weekday]
  omega

/-! ## The occurrences of a date (R20, R21) -/

theorem validOn_iff {r : BookingRecord} {d : Nat} : r.validOn d = true ↔
    d < 36525 ∧ (∀ x, r.validFrom = some x → x ≤ d) ∧ ∀ x, r.validUntil = some x → d ≤ x := by
  have hdays : Config.calendarDays = 36525 := rfl
  simp only [BookingRecord.validOn, hdays, Bool.and_eq_true, decide_eq_true_eq, and_assoc]
  cases r.validFrom <;> cases r.validUntil <;> simp

section
variable {r : BookingRecord} (hr : r.Patterned)
include hr

/-- R20: the hours of a record's pattern. -/
theorem mem_hours_iff {tod : TimeOfDay} (ht : r.time = some tod) {h : Nat} : h ∈ r.hours ↔
    h < 24 ∧ (r.kind ≠ .hourly → tod.hour = some h) ∧
      (r.kind = .hourly → ∀ w, r.window = some w → w.1 ≤ h ∧ h ≤ w.2) := by
  obtain ⟨tod', ht', -, -, hhour⟩ := hr.time
  obtain rfl : tod' = tod := Option.some.inj (ht'.symm.trans ht)
  have hdated := hr.dated
  by_cases hk : r.kind = .hourly
  · have hmem : h ∈ r.hours ↔ (r.window.getD (0, 23)).1 ≤ h ∧ h ≤ (r.window.getD (0, 23)).2 := by
      simp only [BookingRecord.hours, hk, List.mem_map, List.mem_range]
      exact ⟨fun ⟨i, hi, hih⟩ => by omega, fun ⟨h1, h2⟩ => ⟨h - (r.window.getD (0, 23)).1, by omega, by omega⟩⟩
    rw [hmem]
    cases hw : r.window with
    | none => simp [hk]; omega
    | some w =>
      have hrange := hr.window w hw
      simp only [hk, Option.getD_some, Option.some.injEq, forall_eq', ne_eq, not_true_eq_false, false_implies,
        true_implies, true_and]
      omega
  · obtain ⟨x, hx, hx24⟩ := hhour hk
    have hmem : r.hours = [x] := by
      unfold BookingRecord.hours
      cases hkind : r.kind with
      | once | daily | weekly => simp [ht, hx]
      | hourly => exact absurd hkind hk
      | now | live => rw [hkind] at hdated; cases hdated
    simp only [hmem, List.mem_singleton, hx, Option.some.injEq, hk, ne_eq, not_false_eq_true, true_implies,
      false_implies, and_true]
    omega

end

/-- R20: the hours are in order. -/
theorem hours_sorted (r : BookingRecord) : r.hours.Pairwise (· < ·) := by
  unfold BookingRecord.hours
  cases r.kind with
  | once | daily | weekly => cases r.time <;> simp
  | hourly => exact List.pairwise_map.2 (List.pairwise_lt_range.imp fun h => Nat.add_lt_add_right h _)
  | now | live => exact .nil

theorem occurrencesOn_sorted (r : BookingRecord) (d : Nat) : (r.occurrencesOn d).Pairwise (· < ·) := by
  unfold BookingRecord.occurrencesOn
  split
  · exact .nil
  · split
    · exact List.pairwise_map.2 ((hours_sorted r).imp secondAt_lt)
    · exact .nil

/-- NOW and LIVE bookings have no occurrence (R20, R46). -/
theorem occurrencesOn_immediate {r : BookingRecord} (hk : r.kind.immediate = true) (d : Nat) :
    r.occurrencesOn d = [] := by
  have hpattern : r.patternOn d = false := by
    unfold BookingRecord.patternOn
    cases hkind : r.kind <;> rw [hkind] at hk <;> first | rfl | cases hk
  unfold BookingRecord.occurrencesOn
  split
  · rfl
  · simp [hpattern]

theorem occursAt_iff {r : BookingRecord} {t : Nat} : r.occursAt t = true ↔ t ∈ r.occurrencesOn (dayOfSecond t) := by
  rw [BookingRecord.occursAt, List.contains_iff_mem]

section
variable {r : BookingRecord} (hr : r.Patterned)
include hr

/-- R20, R21: an occurrence of a date. -/
theorem mem_occurrencesOn {t d : Nat} : t ∈ r.occurrencesOn d ↔ dayOfSecond t = d ∧ r.validOn d = true ∧
    r.patternOn d = true ∧ hourOf t ∈ r.hours ∧
    ∃ tod, r.time = some tod ∧ minuteOf t = tod.minute ∧ secondOf t = tod.second := by
  obtain ⟨tod, ht, hm, hs, -⟩ := hr.time
  have hat : ∀ h ∈ r.hours, (secondAt d h tod.minute tod.second = t ↔
      dayOfSecond t = d ∧ hourOf t = h ∧ minuteOf t = tod.minute ∧ secondOf t = tod.second) := fun h hh =>
    eq_comm.trans (eq_secondAt_iff ((mem_hours_iff hr ht).1 hh).1 hm hs)
  simp only [BookingRecord.occurrencesOn, ht, Option.some.injEq, exists_eq_left']
  by_cases hon : (r.validOn d && r.patternOn d) = true
  · obtain ⟨hv, hp⟩ := Bool.and_eq_true_iff.1 hon
    simp only [hv, hp, Bool.and_self, if_true, List.mem_map, true_and]
    constructor
    · rintro ⟨h, hh, htime⟩
      obtain ⟨hd, rfl, hrest⟩ := (hat h hh).1 htime
      exact ⟨hd, hh, hrest⟩
    · rintro ⟨hd, hh, hrest⟩
      exact ⟨_, hh, (hat _ hh).2 ⟨hd, rfl, hrest⟩⟩
  · rw [if_neg hon]
    simp only [List.not_mem_nil, false_iff]
    rintro ⟨-, hv, hp, -⟩
    exact hon (Bool.and_eq_true_iff.2 ⟨hv, hp⟩)

/-- R20: the pattern of each kind, on a date and at an hour. -/
theorem pattern_iff {tod : TimeOfDay} (ht : r.time = some tod) {d h : Nat} (hh : h < 24) :
    r.patternOn d = true ∧ h ∈ r.hours ↔
      (r.kind = .once → r.date = some d ∧ tod.hour = some h) ∧ (r.kind = .daily → tod.hour = some h) ∧
      (r.kind = .weekly → tod.hour = some h ∧ r.weekdays.getLsbD (weekday d) = true) ∧
      (r.kind = .hourly → ∀ w, r.window = some w → w.1 ≤ h ∧ h ≤ w.2) := by
  have hdated := hr.dated
  rw [mem_hours_iff hr ht]
  unfold BookingRecord.patternOn
  cases hk : r.kind with
  | now | live => rw [hk] at hdated; cases hdated
  | weekly => simp [hh, and_comm]
  | once | daily | hourly => simp [hh]

end

/-- Settles O25: an occurrence of a second's own date (`mem_occurrencesOn`), its pattern kind by kind
(`pattern_iff`). -/
theorem occurrencesFollowThePattern : Obligations.OccurrencesFollowThePattern := by
  unfold Obligations.OccurrencesFollowThePattern
  refine ⟨fun bs r t hparse => ?_, fun r t hk => ?_, rfl, fun day => ?_⟩
  · have hr := patterned_of_parse hparse
    obtain ⟨tod, ht, -⟩ := hr.time
    rw [occursAt_iff, mem_occurrencesOn hr, validOn_iff, ← and_assoc (a := r.patternOn _ = true),
      pattern_iff hr ht (hourOf_lt t)]
    simp only [ht, Option.some.injEq, exists_eq_left', true_and]
    tauto
  · have himmediate : r.kind.immediate = true := by rcases hk with hk | hk <;> rw [hk] <;> rfl
    simp [BookingRecord.occursAt, occurrencesOn_immediate himmediate]
  · simp only [weekday]
    omega

/-! ## The search over dates (R22) -/

section
variable {r : BookingRecord} (hr : r.Patterned) {lo : Nat}

/-- R22: what the search finds is an occurrence, of the earliest date that has one. -/
theorem searchFrom_some {n day t : Nat} (h : r.searchFrom lo n day = some t) :
    ∃ d, day ≤ d ∧ t ∈ r.occurrencesOn d ∧ lo ≤ t ∧ (∀ u ∈ r.occurrencesOn d, lo ≤ u → t ≤ u) ∧
      ∀ e, day ≤ e → e < d → ∀ u ∈ r.occurrencesOn e, u < lo := by
  induction n generalizing day with
  | zero => cases h
  | succ n ih =>
    unfold BookingRecord.searchFrom at h
    split at h
    · rename_i x hx
      cases h
      obtain ⟨hlo, before, after, hsplit, hbefore⟩ := List.find?_eq_some_iff_append.1 hx
      have hsorted := occurrencesOn_sorted r day
      refine ⟨day, Nat.le_refl _, by rw [hsplit]; simp, by simpa using hlo, fun u hu hlu => ?_, by omega⟩
      rw [hsplit] at hu hsorted
      rcases List.mem_append.1 hu with hu | hu
      · simpa [hlu] using hbefore u hu
      · rcases List.mem_cons.1 hu with rfl | hu
        · exact Nat.le_refl _
        · exact Nat.le_of_lt ((List.pairwise_cons.1 (List.pairwise_append.1 hsorted).2.1).1 u hu)
    · rename_i hnone
      obtain ⟨d, hd, hmem, hlo, hleast, hearlier⟩ := ih h
      refine ⟨d, by omega, hmem, hlo, hleast, fun e he hed u hu => ?_⟩
      rcases Nat.eq_or_lt_of_le he with rfl | he
      · simpa using List.find?_eq_none.1 hnone u hu
      · exact hearlier e he hed u hu

theorem searchFrom_none {n day : Nat} (h : r.searchFrom lo n day = none) {e u : Nat} (he : day ≤ e)
    (hen : e < day + n) (hu : u ∈ r.occurrencesOn e) : u < lo := by
  induction n generalizing day with
  | zero => omega
  | succ n ih =>
    unfold BookingRecord.searchFrom at h
    split at h
    · cases h
    · rename_i hnone
      rcases Nat.eq_or_lt_of_le he with rfl | he
      · simpa using List.find?_eq_none.1 hnone u hu
      · exact ih h he (by omega)

include hr

/-- R20: a repeating pattern that comes at all after a date comes within a week of it, within the validity dates. -/
theorem repeats_within_week (hk : r.kind ≠ .once) {d : Nat} (hd : r.validFrom.getD 0 ≤ d) {u : Nat}
    (hu : u ∈ r.occurrencesOn (dayOfSecond u)) (hdu : d + 8 < dayOfSecond u) :
    ∃ e v, d < e ∧ e < d + 9 ∧ v ∈ r.occurrencesOn e := by
  obtain ⟨-, hvalid, hpattern, hhour, tod, ht, hminute, hsecond⟩ := (mem_occurrencesOn hr).1 hu
  obtain ⟨h100, hfrom, huntil⟩ := validOn_iff.1 hvalid
  -- the date in the week after `d` that shares its weekday with the date of `u`
  let e := d + 1 + (dayOfSecond u - (d + 1)) % 7
  have hrange : d < e ∧ e < d + 8 := by omega
  have hweek : dayOfSecond u = e + 7 * ((dayOfSecond u - (d + 1)) / 7) := by omega
  let v := secondAt e (hourOf u) (minuteOf u) (secondOf u)
  have hv : dayOfSecond v = e ∧ hourOf v = hourOf u ∧ minuteOf v = minuteOf u ∧ secondOf v = secondOf u :=
    (eq_secondAt_iff (hourOf_lt u) (by simp only [minuteOf]; omega) (by simp only [secondOf]; omega)).1 rfl
  obtain ⟨hday, hh, hm, hs⟩ := hv
  refine ⟨e, v, hrange.1, by omega, (mem_occurrencesOn hr).2 ⟨hday, ?_, ?_, hh ▸ hhour, tod, ht, hm.trans hminute,
    hs.trans hsecond⟩⟩
  · refine validOn_iff.2 ⟨by omega, fun x hx => ?_, fun x hx => ?_⟩
    · rw [hx, Option.getD_some] at hd
      omega
    · have := huntil x hx
      omega
  · have hdated := hr.dated
    unfold BookingRecord.patternOn at hpattern ⊢
    cases hkind : r.kind with
    | once => exact absurd hkind hk
    | weekly =>
      simp only [hkind] at hpattern ⊢
      rwa [hweek, weekday_add_seven] at hpattern
    | daily | hourly => rfl
    | now | live => rw [hkind] at hdated; cases hdated

theorem valid_from {u : Nat} (hu : u ∈ r.occurrencesOn (dayOfSecond u)) : r.validFrom.getD 0 ≤ dayOfSecond u := by
  obtain ⟨-, hvalid, -⟩ := (mem_occurrencesOn hr).1 hu
  cases hfrom : r.validFrom with
  | none => exact Nat.zero_le _
  | some x => exact (validOn_iff.1 hvalid).2.1 x hfrom

theorem dayOfSecond_of_mem {t d : Nat} (h : t ∈ r.occurrencesOn d) : dayOfSecond t = d :=
  ((mem_occurrencesOn hr).1 h).1

theorem occursAt_of_mem {t d : Nat} (h : t ∈ r.occurrencesOn d) : r.occursAt t = true := by
  rw [occursAt_iff, dayOfSecond_of_mem hr h]
  exact h

omit hr in
theorem dayOfSecond_mono {a b : Nat} (h : a ≤ b) : dayOfSecond a ≤ dayOfSecond b := Nat.div_le_div_right h

/-- R22: the first occurrence from a second on. -/
def BookingRecord.IsFirst (r : BookingRecord) (lo t : Nat) : Prop :=
  r.occursAt t = true ∧ lo ≤ t ∧ ∀ u, r.occursAt u = true → lo ≤ u → t ≤ u

/-- R22: a ONCE booking has one date to look at. -/
theorem firstFrom_once (hk : r.kind = .once) :
    (∀ t, r.firstFrom lo = some t → r.IsFirst lo t) ∧
      (r.firstFrom lo = none → ∀ u, r.occursAt u = true → u < lo) := by
  obtain ⟨d, hd⟩ := hr.date hk
  have honly {u : Nat} (hu : r.occursAt u = true) : u ∈ r.occurrencesOn d := by
    have hmem := occursAt_iff.1 hu
    obtain ⟨-, -, hpattern, -⟩ := (mem_occurrencesOn hr).1 hmem
    simp only [BookingRecord.patternOn, hk, beq_iff_eq] at hpattern
    rwa [← Option.some.inj (hpattern.symm.trans hd)]
  have hfirst : r.firstFrom lo = r.searchFrom lo 1 d := by
    simp only [BookingRecord.firstFrom, hk, hd, Option.getD_some, BookingRecord.searchFrom]
    cases List.find? (lo ≤ ·) (r.occurrencesOn d) <;> rfl
  rw [hfirst]
  refine ⟨fun t ht => ?_, fun hnone u hu => searchFrom_none hnone (Nat.le_refl _) (by omega) (honly hu)⟩
  obtain ⟨e, hde, hmem, hlo, hleast, hearlier⟩ := searchFrom_some ht
  refine ⟨occursAt_of_mem hr hmem, hlo, fun u hu hlu => ?_⟩
  have hed : d = e := (dayOfSecond_of_mem hr (honly (occursAt_of_mem hr hmem))).symm.trans (dayOfSecond_of_mem hr hmem)
  exact hleast u (hed ▸ honly hu) hlu

/-- R22: every other pattern comes within eight days of a valid date, if it comes. -/
theorem firstFrom_repeating (hk : r.kind ≠ .once) :
    (∀ t, r.firstFrom lo = some t → r.IsFirst lo t) ∧
      (r.firstFrom lo = none → ∀ u, r.occursAt u = true → u < lo) := by
  have hfirst : r.firstFrom lo = r.searchFrom lo 9 (max (dayOfSecond lo) (r.validFrom.getD 0)) := by
    unfold BookingRecord.firstFrom
    cases hkind : r.kind with
    | once => exact absurd hkind hk
    | daily | weekly | hourly | now | live => rfl
  have hfrom {u : Nat} (hu : r.occursAt u = true) (hlu : lo ≤ u) :
      max (dayOfSecond lo) (r.validFrom.getD 0) ≤ dayOfSecond u :=
    Nat.max_le.2 ⟨dayOfSecond_mono hlu, valid_from hr (occursAt_iff.1 hu)⟩
  rw [hfirst]
  generalize hday : max (dayOfSecond lo) (r.validFrom.getD 0) = day at hfrom
  refine ⟨fun t ht => ?_, fun hnone u hu => ?_⟩
  · obtain ⟨d, hd, hmem, hlo, hleast, hearlier⟩ := searchFrom_some ht
    refine ⟨occursAt_of_mem hr hmem, hlo, fun u hu hlu => ?_⟩
    have hmemu := occursAt_iff.1 hu
    rcases Nat.lt_trichotomy (dayOfSecond u) d with hlt | heq | hgt
    · exact absurd (hearlier _ (hfrom hu hlu) hlt u hmemu) (Nat.not_lt.2 hlu)
    · exact hleast u (heq ▸ hmemu) hlu
    · by_contra hut
      have hmono := dayOfSecond_mono (Nat.le_of_lt (Nat.not_le.1 hut))
      rw [dayOfSecond_of_mem hr hmem] at hmono
      omega
  · by_contra hlu
    have hmemu := occursAt_iff.1 hu
    have hlate := hfrom hu (Nat.not_lt.1 hlu)
    by_cases hnear : dayOfSecond u < day + 9
    · exact hlu (searchFrom_none hnone hlate hnear hmemu)
    · obtain ⟨e, v, hde, hed, hv⟩ := repeats_within_week hr hk (d := day) (by omega) hmemu (by omega)
      have hbefore := searchFrom_none hnone (Nat.le_of_lt hde) hed hv
      have hmono := dayOfSecond_mono (Nat.le_of_lt hbefore)
      rw [dayOfSecond_of_mem hr hv] at hmono
      omega

/-- R22: the search finds the earliest occurrence, and none only when there is none. -/
theorem firstFrom_spec (lo : Nat) :
    (∀ t, r.firstFrom lo = some t → r.IsFirst lo t) ∧
      (r.firstFrom lo = none → ∀ u, r.occursAt u = true → u < lo) := by
  by_cases hk : r.kind = .once
  · exact firstFrom_once hr hk
  · exact firstFrom_repeating hr hk

end

/-! ## The next occurrence of a booking (R22) -/

theorem laterThan_le {x : Option Nat} {u : Nat} : laterThan x ≤ u ↔ ∀ d, x = some d → d < u := by
  cases x <;> simp [laterThan]

/-- R22, R46: NOW and LIVE bookings have no next occurrence. -/
theorem firstFrom_immediate {r : BookingRecord} (hk : r.kind.immediate = true) (lo : Nat) : r.firstFrom lo = none := by
  have hsearch (n day : Nat) : r.searchFrom lo n day = none := by
    induction n generalizing day with
    | zero => rfl
    | succ n ih => simp [BookingRecord.searchFrom, occurrencesOn_immediate hk, ih]
  unfold BookingRecord.firstFrom
  cases hkind : r.kind with
  | now | live => exact hsearch ..
  | once | daily | weekly | hourly => rw [hkind] at hk; cases hk

section
variable {b : Booking} {T : TowerTime}

theorem nextOccurrence_eq (he : b.record.enabled = true) (hT : T.state ≠ .unset) :
    b.nextOccurrence T = b.record.firstFrom (max T.second (max (laterThan b.lastDisposed) (laterThan b.current))) := by
  simp [Booking.nextOccurrence, Booking.nextAfter, he, hT]

/-- R22: only an enabled booking under a set calendar has a next occurrence. -/
theorem nextOccurrence_absent (h : b.record.enabled = false ∨ T.state = .unset) : b.nextOccurrence T = none := by
  rcases h with h | h <;> simp [Booking.nextOccurrence, Booking.nextAfter, h]

end

/-! ## The occurrences of an interval (R34, R35) -/

section
variable {r : BookingRecord} (hr : r.Patterned) {lo hi n day : Nat}

theorem mem_occurrencesFrom_iff {u : Nat} : u ∈ r.occurrencesFrom lo hi n day ↔
    ∃ d, day ≤ d ∧ d < day + n ∧ u ∈ r.occurrencesOn d ∧ lo < u ∧ u ≤ hi := by
  induction n generalizing day with
  | zero =>
    simp only [BookingRecord.occurrencesFrom, List.not_mem_nil, false_iff]
    rintro ⟨d, h1, h2, -⟩
    omega
  | succ n ih =>
    simp only [BookingRecord.occurrencesFrom, List.mem_append, List.mem_filter, Bool.and_eq_true, decide_eq_true_eq, ih]
    constructor
    · rintro (⟨hu, hrange⟩ | ⟨d, h1, h2, hrest⟩)
      · exact ⟨day, Nat.le_refl _, by omega, hu, hrange⟩
      · exact ⟨d, by omega, by omega, hrest⟩
    · rintro ⟨d, h1, h2, hu, hrange⟩
      rcases Nat.eq_or_lt_of_le h1 with rfl | h1
      · exact .inl ⟨hu, hrange⟩
      · exact .inr ⟨d, h1, by omega, hu, hrange⟩

include hr

theorem occurrencesFrom_sorted : (r.occurrencesFrom lo hi n day).Pairwise (· < ·) := by
  induction n generalizing day with
  | zero => exact .nil
  | succ n ih =>
    refine List.pairwise_append.2 ⟨(occurrencesOn_sorted r day).filter _, ih, fun a ha b hb => ?_⟩
    obtain ⟨d, hd, -, hbd, -⟩ := mem_occurrencesFrom_iff.1 hb
    have hday := dayOfSecond_of_mem hr (List.mem_filter.1 ha).1
    have hdayb := dayOfSecond_of_mem hr hbd
    by_contra hab
    have hmono := dayOfSecond_mono (Nat.not_lt.1 hab)
    omega

/-- R34: the occurrences of an interval are all of it. -/
theorem mem_occurrencesIn {u : Nat} : u ∈ r.occurrencesIn lo hi ↔ r.occursAt u = true ∧ lo < u ∧ u ≤ hi := by
  rw [BookingRecord.occurrencesIn, mem_occurrencesFrom_iff]
  constructor
  · rintro ⟨d, -, -, hu, hrange⟩
    exact ⟨occursAt_of_mem hr hu, hrange⟩
  · rintro ⟨hu, hlo, hhi⟩
    have hlow := dayOfSecond_mono (Nat.le_of_lt hlo)
    have hhigh := dayOfSecond_mono hhi
    exact ⟨dayOfSecond u, hlow, by omega, occursAt_iff.1 hu, hlo, hhi⟩

end

/-- An optional bound below a second that something lies below. -/
theorem getD_zero_lt {x : Option Nat} {t u : Nat} (h : t < u) : x.getD 0 < u ↔ ∀ d, x = some d → d < u := by
  cases x with
  | none => simp; omega
  | some d => simp

/-- R35, log 26: the occurrences a forward step deals with. -/
theorem mem_steppedOver {b : Booking} (hr : b.record.Patterned) {t0 t1 u : Nat} : u ∈ b.steppedOver t0 t1 ↔
    b.record.enabled = true ∧ b.record.occursAt u = true ∧ t0 < u ∧ u ≤ t1 ∧
      (∀ d, b.lastDisposed = some d → d < u) ∧ ∀ d, b.current = some d → d < u := by
  unfold Booking.steppedOver
  cases b.record.enabled with
  | false => simp
  | true =>
    simp only [if_true, mem_occurrencesIn hr, Nat.max_lt, true_and]
    constructor
    · rintro ⟨hu, ⟨ht, hcurrent, hlast⟩, h1⟩
      exact ⟨hu, ht, h1, (getD_zero_lt ht).1 hlast, (getD_zero_lt ht).1 hcurrent⟩
    · rintro ⟨hu, ht, h1, hlast, hcurrent⟩
      exact ⟨hu, ⟨ht, (getD_zero_lt ht).2 hcurrent, (getD_zero_lt ht).2 hlast⟩, h1⟩

/-- Settles O26: `firstFrom_spec` for the search, from which the next occurrence of a booking follows with its bounds;
`mem_occurrencesIn` and `mem_steppedOver` for the intervals. -/
theorem nextOccurrenceIsLeast : Obligations.NextOccurrenceIsLeast := by
  unfold Obligations.NextOccurrenceIsLeast
  refine ⟨fun bs r lo hparse => firstFrom_spec (patterned_of_parse hparse) lo, fun bs b T hparse => ?_,
    fun b T hk => ?_, fun bs r lo hi hparse => ?_, fun bs b t0 t1 hparse => ?_⟩
  · intro meets
    obtain ⟨hsome, hnone⟩ := firstFrom_spec (patterned_of_parse hparse)
      (max T.second (max (laterThan b.lastDisposed) (laterThan b.current)))
    have hmeets (u : Nat) : meets u ↔ b.record.occursAt u = true ∧
        max T.second (max (laterThan b.lastDisposed) (laterThan b.current)) ≤ u := by
      simp only [meets, Nat.max_le, laterThan_le]
    by_cases hoff : b.record.enabled = false ∨ T.state = .unset
    · rw [nextOccurrence_absent hoff]
      exact ⟨nofun, fun _ => hoff.imp_right .inl⟩
    · obtain ⟨he, hT⟩ := not_or.1 hoff
      rw [nextOccurrence_eq (by simpa using he) hT]
      refine ⟨fun u hu => ?_, fun h => .inr (.inr fun w hw => ?_)⟩
      · obtain ⟨hoccurs, hlo, hleast⟩ := hsome u hu
        exact ⟨by simpa using he, hT, (hmeets u).2 ⟨hoccurs, hlo⟩, fun w hw =>
          hleast w ((hmeets w).1 hw).1 ((hmeets w).1 hw).2⟩
      · obtain ⟨hoccurs, hlo⟩ := (hmeets w).1 hw
        exact absurd (hnone h w hoccurs) (Nat.not_lt.2 hlo)
  · unfold Booking.nextOccurrence Booking.nextAfter
    rw [firstFrom_immediate hk, ite_self]
  · have hr := patterned_of_parse hparse
    exact ⟨fun u => mem_occurrencesIn hr, occurrencesFrom_sorted hr⟩
  · have hr := patterned_of_parse hparse
    refine ⟨fun u => mem_steppedOver hr, ?_⟩
    unfold Booking.steppedOver
    split
    · exact occurrencesFrom_sorted hr
    · exact .nil

end Sys2Proof.Machine
end

section
/-! PROOFS. Starts (R48, R52–R55, R84): what a take-up, a start and a reconsideration do where one booking waits. -/

namespace Sys2Proof.Machine

/-! ## Taking up a SCORE or TOLL (R84, R85) -/

/-- The Score Player can plan a context it takes up: a SCORE not at a segment that failed for it (R88), or a TOLL
without an AT_PHRASE halt (R96). -/
def Context.canPlan (c : Context) : Prop :=
  (c.melodyKind = some .score ∧ c.melody ≠ none ∧ c.pos.segment ∉ c.failed) ∨
    (c.melodyKind = some .toll ∧ c.pendingHalt ≠ some .atPhrase)

theorem Context.canPlan.melodyKind {c : Context} (h : c.canPlan) : c.melodyKind ≠ none := by
  rcases h with ⟨h, -⟩ | ⟨h, -⟩ <;> simp [h]

/-- R85: a prefetch touches the buffers and the read queue alone. -/
theorem prefetch_eq (c : Context) (slot segment : Nat) (s : State) :
    ∃ pl st, s.prefetch c slot segment = { s with player := pl, store := st } ∧ pl.done = s.player.done := by
  unfold State.prefetch
  split
  · exact ⟨_, _, rfl, rfl⟩
  · split
    · exact ⟨_, _, rfl, rfl⟩
    · split <;> exact ⟨_, _, rfl, rfl⟩

theorem startReads_eq {c : Context} (h : c.pos.segment ∉ c.failed) (slot : Nat) (s : State) :
    ∃ pl st, s.startReads c slot = { s with player := pl, store := st } ∧ pl.done = s.player.done := by
  obtain ⟨pl, st, heq, hdone⟩ := prefetch_eq c slot c.pos.segment
    (({ s with player := { s.player with cur := .reading c.pos.segment } } : State).requestSegment slot c.pos.segment)
  refine ⟨pl, st, ?_, hdone⟩
  unfold State.startReads
  rw [if_neg h, heq]
  rfl

/-- R84: a take-up touches the Score Player and the read queue alone, and planning is not done. -/
theorem takeUp_eq {s : State} {c : Context} (ha : s.engine.active = some c) (hc : c.canPlan) :
    ∃ pl st, s.takeUp = { s with player := pl, store := st } ∧ pl.done = none := by
  unfold State.takeUp
  simp only [ha]
  rcases hc with ⟨hk, hm, hf⟩ | ⟨hk, hp⟩
  · cases hslot : c.melody with
    | none => exact absurd hslot hm
    | some slot =>
      simp only [hk]
      obtain ⟨pl, st, heq, hdone⟩ := startReads_eq hf slot ({ s with player := { Player.initial with stopPoint :=
        (if c.pendingHalt = some .atPhrase then
          ({ s with player := .initial } : State).stopFromHere c slot else none) } })
      exact ⟨pl, st, heq, hdone⟩
  · simp only [hk, hp, if_false]
    exact ⟨_, _, rfl, rfl⟩

/-! ## Whether a booking may start (R54) -/

/-- R54: the drive is ready, and the record names a melody that is complete, undamaged and known. -/
def State.playable (s : State) (r : BookingRecord) : Prop :=
  s.drive.ready = true ∧ ∃ m h, r.melody = some m ∧ (s.melody m).state = .complete ∧ (s.melody m).damaged = false ∧
    (s.melody m).known? = some h

/-- Only the drive and the library say whether a record is playable. -/
theorem State.playable.congr {s t : State} {r : BookingRecord} (h : s.playable r)
    (hready : t.drive.ready = s.drive.ready) (hlibrary : t.library = s.library) : t.playable r := by
  unfold State.playable State.melody at *
  rwa [hready, hlibrary]

theorem startRefusal_of_playable {s : State} {b : Booking} (h : s.playable b.record) : s.startRefusal b = none := by
  obtain ⟨hready, m, d, hm, hstate, hdamaged, -⟩ := h
  simp [State.startRefusal, State.scoreReady, hready, hm, hstate, hdamaged]

/-- R48: the context of a start has its melody's kind. -/
theorem newContext_melodyKind {s : State} {b : Booking} {m : Nat} {h : MelodyHeader}
    (hm : b.record.melody = some m) (hk : (s.melody m).known? = some h) (n : Nat) :
    (s.newContext n b).melodyKind = some h.kind := by
  simp [State.newContext, State.headerOf, hm, hk]

theorem canPlan_of_playable {s : State} {b : Booking} (h : s.playable b.record) (n : Nat) :
    (s.newContext n b).canPlan := by
  obtain ⟨-, m, d, hm, -, -, hknown⟩ := h
  have hkind := newContext_melodyKind hm hknown n
  cases hd : d.kind with
  | score =>
    rw [hd] at hkind
    exact .inl ⟨hkind, fun hnone => (by cases hm.symm.trans hnone), List.not_mem_nil⟩
  | toll =>
    rw [hd] at hkind
    exact .inr ⟨hkind, nofun⟩

/-! ## A start (R55) -/

/-- R55: a booking that has started. -/
def Booking.begun (b : Booking) : Booking := { b with state := .sounding, waiting := none }

/-- R55: a start puts the new context in the active place, takes the number out of the list and makes the booking
SOUNDING; the rest is the Score Player's. -/
theorem start_eq {s : State} {n : Nat} {b : Booking} (hb : s.booking? n = some b) (hp : s.playable b.record) :
    ∃ pl st, s.start n = { s with
      engine := { s.engine with active := some (s.newContext n b), waiting := s.engine.waiting.filter (· != n) }
      book := s.book.setSlot n (.occupied b.begun), player := pl, store := st } ∧ pl.done = none := by
  unfold State.start
  simp only [hb]
  exact takeUp_eq (s := ({ s.leaveWaiting n with engine :=
    { (s.leaveWaiting n).engine with active := some ((s.leaveWaiting n).newContext n b) } } : State).setBooking n
      b.begun) rfl (canPlan_of_playable hp n)

/-- R89: a SCORE or TOLL that plans on is not at its end. -/
theorem endDue_of_planning {s : State} {c : Context} (ha : s.engine.active = some c) (hk : c.melodyKind ≠ none)
    (hd : s.player.done = none) : s.endDue = none := by
  unfold State.endDue
  simp only [ha]
  split
  · rfl
  · split
    · exact absurd ‹_› hk
    · rw [hd]
      rfl

theorem settleStart_of_playable {s : State} {n : Nat} {b : Booking} (hb : s.booking? n = some b)
    (hp : s.playable b.record) (next : Agenda) : (s.start n).settleStart next = (s.start n, some next) := by
  obtain ⟨pl, st, heq, hdone⟩ := start_eq hb hp
  have hend : (s.start n).endDue = none := by
    rw [heq]
    exact endDue_of_planning rfl (canPlan_of_playable hp n).melodyKind hdone
  unfold State.settleStart
  rw [hend]

/-! ## Working off the agenda (R52, R53) -/

theorem engineLoop_next {n : Nat} {a a' : Agenda} {s t : State} (h : s.agendaStep a = (t, some a')) :
    engineLoop (n + 1) a s = engineLoop n a' t := by
  rw [engineLoop, h]

theorem engineLoop_done {n : Nat} {a : Agenda} {s t : State} (h : s.agendaStep a = (t, none)) :
    engineLoop (n + 1) a s = t := by
  rw [engineLoop, h]

/-- R52: with HUSH released and no load running the waiting list is looked through. -/
theorem reconsider_open {s : State} (hh : s.drive.hush = false) (hl : s.store.loading = false) :
    s.reconsider = engineLoop (19998 + 1 + 1) (.judge 0) s := by
  simp [State.reconsider, hh, hl, engineFuel]

/-- R68: under HUSH no start is decided. -/
theorem reconsider_of_hush {s : State} (hh : s.drive.hush = true) : s.reconsider = s := by
  simp [State.reconsider, hh]

theorem judge_past {s : State} {k : Nat} (h : s.engine.waiting[k]? = none) :
    s.agendaStep (.judge k) = (s, none) := by
  simp [State.agendaStep, State.judgeAt, h]

/-- R53: a list of bookings that all wait on is left as it is. -/
theorem reconsider_of_waits {s : State} {c : Context} (ha : s.engine.active = some c)
    (hwait : ∀ k ∈ s.engine.waiting, ∃ x, s.booking? k = some x ∧ c.judge x.record = .waits) : s.reconsider = s := by
  have hloop (n k : Nat) : engineLoop n (.judge k) s = s := by
    induction n generalizing k with
    | zero => rfl
    | succ n ih =>
      cases hk : s.engine.waiting[k]? with
      | none => exact engineLoop_done (judge_past hk)
      | some m =>
        obtain ⟨x, hx, hjudge⟩ := hwait m (List.mem_of_getElem? hk)
        refine (engineLoop_next (a' := .judge (k + 1)) ?_).trans (ih (k + 1))
        simp [State.agendaStep, State.judgeAt, hk, hx, ha, hjudge]
  unfold State.reconsider
  split
  · rfl
  · exact hloop _ 0

/-- R53: who is of no greater rank, or of class WAIT, waits. -/
theorem judge_waits {c : Context} {r : BookingRecord} (h : r.rank ≤ c.rank ∨ r.cls = .wait) : c.judge r = .waits := by
  unfold Context.judge
  rcases h with h | h
  · rw [if_pos h]
  · split
    · rfl
    · rw [h]

section
variable {s u : State} {n : Nat} {b : Booking}

/-- R52: the one booking that waits is judged, starts, and the look through the list ends. -/
theorem reconsider_starts (hh : s.drive.hush = false) (hl : s.store.loading = false)
    (hjudge : s.agendaStep (.judge 0) = (u.start n).settleStart (.judge 0)) (hw : u.engine.waiting = [n])
    (hb : u.booking? n = some b) (hp : u.playable b.record) : s.reconsider = u.start n := by
  obtain ⟨pl, st, heq, -⟩ := start_eq hb hp
  have hempty : (u.start n).engine.waiting[0]? = none := by
    rw [heq]
    simp [hw]
  rw [settleStart_of_playable hb hp] at hjudge
  rw [reconsider_open hh hl, engineLoop_next hjudge, engineLoop_done (judge_past hempty)]

/-- R54: the one booking that waits is refused with an idle engine. -/
theorem reconsider_refuses {kind : OutcomeKind} (hh : s.drive.hush = false) (hl : s.store.loading = false)
    (hw : s.engine.waiting = [n]) (ha : s.engine.active = none) (hs : s.engine.stack = [])
    (hb : s.booking? n = some b) (hr : s.startRefusal b = some kind) : s.reconsider = s.refuse n kind := by
  have hjudge : s.agendaStep (.judge 0) = (s.refuse n kind, some (.judge 0)) := by
    simp [State.agendaStep, State.judgeAt, hw, hb, ha, hs, hr]
  have hempty : (s.refuse n kind).engine.waiting[0]? = none := by
    simp [State.refuse, State.leaveWaiting, hw]
  rw [reconsider_open hh hl, engineLoop_next hjudge, engineLoop_done (judge_past hempty)]

theorem reconsider_idle_starts (hh : s.drive.hush = false) (hl : s.store.loading = false)
    (hw : s.engine.waiting = [n]) (ha : s.engine.active = none) (hs : s.engine.stack = [])
    (hb : s.booking? n = some b) (hp : s.playable b.record) : s.reconsider = s.start n := by
  refine reconsider_starts hh hl ?_ hw hb hp
  simp [State.agendaStep, State.judgeAt, hw, hb, ha, hs, startRefusal_of_playable hp]

/-- R53, R56–R59: a booking that outranks the active context has the place cleared for it, and starts. -/
theorem reconsider_outranks {c : Context} {d : Decision} (hh : s.drive.hush = false) (hl : s.store.loading = false)
    (hw : s.engine.waiting = [n]) (ha : s.engine.active = some c) (hb : s.booking? n = some b)
    (hp : s.playable b.record) (hd : c.judge b.record = d) (hne : d ≠ .waits)
    (hwu : (s.clearFor d).engine.waiting = [n]) (hbu : (s.clearFor d).booking? n = some b) :
    s.reconsider = (s.clearFor d).start n := by
  have hkept := clearFor_kept d s
  have hjudge : s.agendaStep (.judge 0) = ((s.clearFor d).start n).settleStart (.judge 0) := by
    simp only [State.agendaStep, State.judgeAt, hw, List.getElem?_cons_zero, hb, ha, hd, startRefusal_of_playable hp]
  exact reconsider_starts hh hl hjudge hwu hbu (hp.congr hkept.ready hkept.library)

/-! ## A group of one (R52) -/

/-- The state with one number in the waiting list. -/
def State.queued (n : Nat) (s : State) : State := { s with engine := { s.engine with waiting := [n] } }

theorem handGroup_single (hw : s.engine.waiting = []) : s.handGroup [n] = (s.queued n).reconsider := by
  have hjoin : s.joinWaiting [n] = s.queued n := by
    simp [State.joinWaiting, State.sortWaiting, State.insertWaiting, hw, State.queued]
  simp [State.handGroup, hjoin]

/-- R53, R68: a group of one that is held by HUSH or by the active context waits. -/
theorem handGroup_waits (hw : s.engine.waiting = []) (hb : s.booking? n = some b)
    (hheld : s.drive.hush = true ∨ ∃ c, s.engine.active = some c ∧ (b.record.rank ≤ c.rank ∨ b.record.cls = .wait)) :
    s.handGroup [n] = s.queued n := by
  rw [handGroup_single hw]
  rcases hheld with hh | ⟨c, ha, hrank⟩
  · exact reconsider_of_hush hh
  · refine reconsider_of_waits (s := s.queued n) ha fun k hk => ?_
    rw [List.mem_singleton.1 hk]
    exact ⟨b, hb, judge_waits hrank⟩

/-- R54, R55: a group of one starts in an idle engine. -/
theorem handGroup_idle_starts (hidle : s.engine = ⟨none, [], []⟩) (hh : s.drive.hush = false)
    (hl : s.store.loading = false) (hb : s.booking? n = some b) (hp : s.playable b.record) :
    ∃ pl st, s.handGroup [n] = { s with
      engine := ⟨some (s.newContext n b), [], []⟩
      book := s.book.setSlot n (.occupied b.begun), player := pl, store := st } := by
  obtain ⟨pl, st, heq, -⟩ := start_eq (s := s.queued n) hb hp
  have hstart : (s.queued n).reconsider = (s.queued n).start n :=
    reconsider_idle_starts hh hl rfl (by simp [State.queued, hidle]) (by simp [State.queued, hidle]) hb hp
  refine ⟨pl, st, ?_⟩
  rw [handGroup_single (by rw [hidle]), hstart, heq]
  simp only [State.queued, hidle, List.filter_cons, bne_self_eq_false, List.filter_nil]
  rfl

theorem engineIdle_iff : s.engineIdle = true ↔ s.engine = ⟨none, [], []⟩ := by
  unfold State.engineIdle
  obtain ⟨active, stack, waiting⟩ := s.engine
  simp [and_assoc]

end

end Sys2Proof.Machine
end

section
/-! PROOFS. PLAY_NOW with an idle engine (R46, R48, R54, R55, R72): O33. -/

namespace Sys2Proof.Machine

/-! ## Slots (R17) -/

theorem booking?_eq_some {b : Book} {n : Nat} {x : Booking} :
    b.booking? n = some x ↔ 1 ≤ n ∧ b.slots[n - 1]? = some (.occupied x) := by
  cases n with
  | zero => simp [Book.booking?]
  | succ n =>
    simp only [Book.booking?, Nat.le_add_left, true_and, Nat.add_sub_cancel]
    split
    · rename_i y hy
      simp [hy]
    · rename_i hne
      exact ⟨nofun, fun h => absurd h (hne x)⟩

section
variable {s : State} {n : Nat} (h1 : 1 ≤ n) (h2 : n ≤ s.book.slots.length)
include h1 h2

theorem booking?_setBooking_self (b : Booking) : (s.setBooking n b).booking? n = some b :=
  booking?_eq_some.2 ⟨h1, List.getElem?_set_self (by omega)⟩

end

theorem booking?_setBooking_ne {s : State} {n m : Nat} (hn : 1 ≤ n) (h : m ≠ n) (b : Booking) :
    (s.setBooking n b).booking? m = s.booking? m := booking?_setSlot_ne hn h _

theorem setSlot_setSlot (b : Book) (n : Nat) (v w : Slot) : (b.setSlot n v).setSlot n w = b.setSlot n w := by
  simp [Book.setSlot]

/-- What stands in a slot already is not changed by writing it again. -/
theorem setSlot_same {b : Book} {n : Nat} {v : Slot} (h : b.slots[n - 1]? = some v) : b.setSlot n v = b := by
  obtain ⟨hlt, hv⟩ := List.getElem?_eq_some_iff.1 h
  simp [Book.setSlot, ← hv]

/-- R17: the lowest-numbered free slot. -/
theorem lowestFree_eq_some {b : Book} {n : Nat} : b.lowestFree = some n ↔
    1 ≤ n ∧ b.slots[n - 1]? = some .free ∧ ∀ k, k < n - 1 → b.slots[k]? ≠ some .free := by
  simp only [Book.lowestFree, Option.map_eq_some_iff, List.findIdx?_eq_some_iff_getElem, beq_iff_eq, ne_eq]
  constructor
  · rintro ⟨i, ⟨hi, hfree, hbelow⟩, rfl⟩
    refine ⟨by omega, List.getElem?_eq_some_iff.2 ⟨hi, hfree⟩, fun k hk hk' => ?_⟩
    obtain ⟨hlt, hkfree⟩ := List.getElem?_eq_some_iff.1 hk'
    exact hbelow k (by omega) hkfree
  · rintro ⟨hn, hfree, hbelow⟩
    obtain ⟨hi, hfree⟩ := List.getElem?_eq_some_iff.1 hfree
    exact ⟨n - 1, ⟨hi, hfree, fun k hk hkfree => hbelow k hk (List.getElem?_eq_some_iff.2 ⟨by omega, hkfree⟩)⟩,
      by omega⟩

theorem lowestFree_eq_none {b : Book} : b.lowestFree = none ↔ .free ∉ b.slots := by
  simp only [Book.lowestFree, Option.map_eq_none_iff, List.findIdx?_eq_none_iff, beq_eq_false_iff_ne, ne_eq]
  exact ⟨fun h hfree => h _ hfree rfl, fun h x hx hxfree => h (hxfree ▸ hx)⟩

/-- A free slot holds no booking. -/
theorem booking?_lowestFree {s : State} {n : Nat} (h : s.book.lowestFree = some n) : s.booking? n = none := by
  obtain ⟨hn, hfree, -⟩ := lowestFree_eq_some.1 h
  obtain ⟨k, rfl⟩ : ∃ k, n = k + 1 := ⟨n - 1, by omega⟩
  exact booking?_of_free hfree

/-! ## A booking that goes with its outcome (R31, R32) -/

/-- R31, R32, R42: the disposal of a NOW or LIVE booking, or of a withdrawn one. -/
theorem dispose_eq_removed {s : State} {n : Nat} {b : Booking} (hb : s.booking? n = some b) {withdrawn : Bool}
    (h : b.record.kind.immediate = true ∨ withdrawn = true) (k : OutcomeKind) (c : Option OutcomeCause)
    (x : StrikeCounts) :
    s.dispose n k c x withdrawn = { s.raise .outcome with
      book := (s.book.orphan ⟨n, b.record.kind, ⟨k, c, b.current, x⟩⟩).setSlot n .free
      live := if s.live.any (fun l => l.booking == n) then none else s.live } := by
  have hgoes : (b.record.kind.immediate || withdrawn) = true := by simpa using h
  simp only [State.dispose, hb, hgoes, if_true]
  rfl

/-- R32: the orphan list after an outcome joined it. -/
theorem orphan_eq (b : Book) (o : Orphan) :
    (b.orphan o).slots = b.slots ∧ (b.orphan o).orphans.getLast? = some o ∧
      ∀ x ∈ (b.orphan o).orphans.dropLast, x ∈ b.orphans := by
  refine ⟨rfl, by simp [Book.orphan], fun x hx => ?_⟩
  simp only [Book.orphan, List.dropLast_concat] at hx
  exact List.mem_of_mem_drop hx

/-! ## PLAY_NOW at its owner (R72) -/

theorem parsePlayNow_kind {body : List Byte} {r : BookingRecord} (h : parsePlayNow body = some r) : r.kind = .now := by
  unfold parsePlayNow at h
  iterate 8 obtain ⟨_, -, h⟩ := Option.bind_eq_some_iff.1 h
  cases h
  rfl

section
variable {p : Port} {body : List Byte} {r : BookingRecord} {n : Nat} {s : State}
  (htakes : s.takes p 0x09 body.length = true) (hr : parsePlayNow body = some r)
include htakes hr

theorem exec_playNow_privilege (h : s.privilege p < r.rank) :
    exec (.playNow p body) s = .next (s.answered p 0x09 .privilege []) := by
  refine congrArg Host.Outcome.next (takeRequest_answered htakes ?_)
  simp only [State.servePlayNow, hr, taken_privilege, h, if_true]

theorem exec_playNow_tableFull (hrank : r.rank ≤ s.privilege p) (h : s.book.lowestFree = none) :
    exec (.playNow p body) s = .next (s.answered p 0x09 .tableFull []) := by
  refine congrArg Host.Outcome.next (takeRequest_answered htakes ?_)
  simp only [State.servePlayNow, hr, taken_privilege, Nat.not_lt.2 hrank, if_false, taken_book, h]

/-- R46, R72: an accepted PLAY_NOW creates its booking and answers its number. -/
theorem exec_playNow (hrank : r.rank ≤ s.privilege p) (h : s.book.lowestFree = some n) :
    exec (.playNow p body) s = .next { (s.taken p).createImmediate n r with
      links := (s.answered p 0x09 .done (be 1 n)).links } := by
  refine congrArg Host.Outcome.next ((takeRequest_takes htakes _).trans ?_)
  simp only [State.servePlayNow, hr, taken_privilege, Nat.not_lt.2 hrank, if_false, taken_book, h]
  exact respond_of_links (resetPending_of_takes htakes) (createImmediate_kept n r _).links ..

end

/-! ## A booking created for now, with an idle engine (R46, R54, R55) -/

/-- R54: a slot that is not COMPLETE, or is DAMAGED, fails the score check. -/
theorem scoreReady_eq_false {s : State} {r : BookingRecord} {m : Nat} (hm : r.melody = some m)
    (h : (s.melody m).state ≠ .complete ∨ (s.melody m).damaged = true) : s.scoreReady r = false := by
  simp only [State.scoreReady, hm]
  rcases h with h | h <;> simp [h]

section
variable {s : State} {n : Nat} {r : BookingRecord} (h1 : 1 ≤ n) (h2 : n ≤ s.book.slots.length)
  (hidle : s.engine = ⟨none, [], []⟩) (hh : s.drive.hush = false) (hl : s.store.loading = false)
include h1 h2 hidle hh hl

/-- R55: a playable booking starts at once. -/
theorem createImmediate_starts (hp : s.playable r) : ∃ pl st, s.createImmediate n r = { s with
    engine := ⟨some (s.newContext n (.freshImmediate r s.time)), [], []⟩
    book := s.book.setSlot n (.occupied (Booking.freshImmediate r s.time).begun), player := pl, store := st } := by
  obtain ⟨pl, st, heq⟩ := handGroup_idle_starts (s := s.setBooking n (.freshImmediate r s.time)) hidle hh hl
    (booking?_setBooking_self h1 h2 _) (hp.congr rfl rfl)
  refine ⟨pl, st, heq.trans ?_⟩
  rw [← setSlot_setSlot s.book n (.occupied (.freshImmediate r s.time))]
  rfl

/-- R26, R31, R54: one the checks refuse leaves its outcome in the orphan list, and its slot is free again. -/
theorem createImmediate_refused {kind : OutcomeKind} (hk : r.kind.immediate = true)
    (hlive : ∀ l, s.live = some l → l.booking ≠ n)
    (hr : s.startRefusal (.freshImmediate r s.time) = some kind) : s.createImmediate n r = { s.raise .outcome with
      book := (s.book.orphan ⟨n, r.kind, ⟨kind, none, none, .zero⟩⟩).setSlot n .free } := by
  let w := s.setBooking n (.freshImmediate r s.time)
  have hb : w.booking? n = some (.freshImmediate r s.time) := booking?_setBooking_self h1 h2 _
  have hrefuse : (w.queued n).reconsider = (w.queued n).refuse n kind :=
    reconsider_refuses hh hl rfl (by simp [State.queued, w, hidle]) (by simp [State.queued, w, hidle]) hb hr
  have hhand : s.createImmediate n r = (w.queued n).refuse n kind :=
    (handGroup_single (s := w) (by rw [setBooking_engine, hidle])).trans hrefuse
  have hfeed : s.live.any (fun l => l.booking == n) = false := by
    cases hs : s.live with
    | none => rfl
    | some l => simp [hlive l hs]
  have hdispose := dispose_eq_removed (s := (w.queued n).leaveWaiting n) (withdrawn := false) hb (.inl hk) kind none .zero
  have hbook : (w.book.orphan ⟨n, r.kind, ⟨kind, none, none, .zero⟩⟩).setSlot n .free =
      (s.book.orphan ⟨n, r.kind, ⟨kind, none, none, .zero⟩⟩).setSlot n .free :=
    setSlot_setSlot (s.book.orphan ⟨n, r.kind, ⟨kind, none, none, .zero⟩⟩) n _ _
  have hengine : ((w.queued n).leaveWaiting n).engine = s.engine := by
    simp [State.leaveWaiting, State.queued, w, hidle]
  calc s.createImmediate n r
      = { s.raise .outcome with
          engine := ((w.queued n).leaveWaiting n).engine
          book := (w.book.orphan ⟨n, r.kind, ⟨kind, none, none, .zero⟩⟩).setSlot n .free
          live := if s.live.any (fun l => l.booking == n) then none else s.live } := hhand.trans hdispose
    _ = _ := by
      rw [hengine, hbook, hfeed]
      rfl

end

/-- R26, R32: the slot that was free is free again, and the outcome stands last in the orphan list. -/
theorem orphan_setSlot_free {b : Book} {n : Nat} (h : b.lowestFree = some n) (o : Orphan) :
    (b.orphan o).setSlot n .free = b.orphan o := setSlot_same (lowestFree_eq_some.1 h).2.1

/-- Settles O33: the answer by `exec_playNow`, the start by `createImmediate_starts`, the refusals by
`createImmediate_refused`. -/
theorem playNowStarts : Obligations.PlayNowStarts := by
  unfold Obligations.PlayNowStarts
  refine ⟨fun p body r n m h s htakes hr hrank hfree hm hstate hdamaged hknown hidle hready hhush => ?_,
    fun p body r n m kind s htakes hr hrank hfree hm hidle hhush hlive hrefusal => ?_,
    fun p body r s htakes hr => ⟨exec_playNow_privilege htakes hr, exec_playNow_tableFull htakes hr⟩⟩
  all_goals
    obtain ⟨h1, h2⟩ := lowestFree_range hfree
    have hl := loading_of_takes htakes
    have hkind := parsePlayNow_kind hr
    have hexec := exec_playNow htakes hr hrank hfree
  · obtain ⟨pl, st, hstart⟩ := createImmediate_starts (s := s.taken p) h1 h2 (engineIdle_iff.1 hidle) hhush hl
      ⟨hready, m, h, hm, hstate, hdamaged, hknown⟩
    rw [hstart] at hexec
    refine ⟨_, _, hexec, rfl, rfl, hkind, hm, newContext_melodyKind hm hknown n, rfl, rfl, rfl, ?_, rfl, rfl, rfl, rfl,
      rfl, rfl, rfl, rfl, rfl, rfl, rfl, rfl, booking?_setBooking_self h1 h2 _,
      fun k hk => booking?_setBooking_ne h1 hk _, rfl, rfl, rfl, rfl, rfl, rfl, rfl⟩
    have hheader : (s.taken p).headerOf r = some h := by
      simp only [State.headerOf, hm]
      exact hknown
    simp only [State.newContext, Booking.freshImmediate, hheader]
    rfl
  · have hstart : (s.taken p).startRefusal (.freshImmediate r s.time) = some kind := by
      rcases hrefusal with ⟨hready, rfl⟩ | ⟨hready, hbad, rfl⟩
      · simp [State.startRefusal, hready]
      · have hscore : (s.taken p).scoreReady r = false := scoreReady_eq_false hm hbad
        simp [State.startRefusal, hready, Booking.freshImmediate, hscore]
    have himmediate : r.kind.immediate = true := by rw [hkind]; rfl
    rw [createImmediate_refused (s := s.taken p) h1 h2 (engineIdle_iff.1 hidle) hhush hl himmediate hlive hstart,
      taken_book, orphan_setSlot_free hfree, hkind] at hexec
    obtain ⟨-, hlast, holder⟩ := orphan_eq s.book ⟨n, .now, ⟨kind, none, none, .zero⟩⟩
    exact ⟨_, hexec, rfl, engineIdle_iff.1 hidle, booking?_lowestFree hfree, hfree, fun _ => rfl, hlast, holder, rfl,
      rfl, rfl, rfl, rfl, rfl, rfl, rfl⟩

end Sys2Proof.Machine
end

section
/-! PROOFS. How the active place is cleared (R56–R60, R111): what a suspension, an end and a displacement change. -/

namespace Sys2Proof.Machine

/-! ## Strikes that leave (R111, R115) -/

/-- R111, R115: a removal touches the Strike Planner alone, and exactly the entries picked leave. -/
theorem removeStrikes_eq (pick : StrikeEntry → Bool) (s : State) :
    ∃ pl, s.removeStrikes pick = { s with planner := pl } ∧ pl.queue = s.planner.queue.filter fun e => !pick e := by
  have hfold (gone : List StrikeEntry) (u : State) : ∃ pl,
      gone.foldl (fun u e => u.recomputeBusy e.bell) u = { u with planner := pl } ∧ pl.queue = u.planner.queue := by
    induction gone generalizing u with
    | nil => exact ⟨_, rfl, rfl⟩
    | cons e rest ih =>
      obtain ⟨pl, heq, hqueue⟩ := ih (u.recomputeBusy e.bell)
      exact ⟨pl, heq, hqueue⟩
  exact hfold _ { s with planner := { s.planner with queue := s.planner.queue.filter fun e => !pick e } }

/-- The entries of others stay. -/
theorem mem_removeOwner {queue : List StrikeEntry} {n : Nat} {e : StrikeEntry} :
    e ∈ queue.filter (fun e => !e.ownedBy n) ↔ e ∈ queue ∧ e.owner ≠ .booking n := by
  simp [StrikeEntry.ownedBy]

/-- R75, R84, R111: the Score Player lets go of a context whose entries leave. -/
theorem removeOwner_letGo_eq (n : Nat) (s : State) : ∃ pl st,
    (s.removeOwner n).letGo = { s with planner := pl, player := .initial, store := st } ∧
      pl.queue = s.planner.queue.filter (fun e => !e.ownedBy n) ∧ st.places = s.store.places := by
  obtain ⟨pl, heq, hqueue⟩ := removeStrikes_eq (·.ownedBy n) s
  exact ⟨pl, s.store.releaseReads fun _ => true, by rw [State.removeOwner, heq]; rfl, hqueue, rfl⟩

/-! ## Resume points (R57) -/

/-- R57: the resume point is read from the library and the places of the store. -/
theorem resumePoint_congr {s t : State} (hl : t.library = s.library) (hp : t.store.places = s.store.places)
    (c : Context) (removed : Option ScorePos) : t.resumePoint c removed = s.resumePoint c removed := by
  have hscore (slot : Nat) : t.score slot = s.score slot := by
    unfold State.score State.scoreEvents State.segmentPlace State.melody
    rw [hl, hp]
  unfold State.resumePoint State.scoreResume
  simp only [hscore]

/-! ## One booking disposed (R30) -/

theorem dispose_of_none {s : State} {n : Nat} (h : s.booking? n = none) (k : OutcomeKind) (x : Option OutcomeCause)
    (counts : StrikeCounts) (w : Bool) : s.dispose n k x counts w = s := by
  simp [State.dispose, h]

theorem dispose_booking?_ne {n m : Nat} (h : m ≠ n) (k : OutcomeKind) (x : Option OutcomeCause) (counts : StrikeCounts)
    (w : Bool) (s : State) : (s.dispose n k x counts w).booking? m = s.booking? m := by
  cases hb : s.booking? n with
  | none => rw [dispose_of_none hb]
  | some b => exact (dispose_only (booking?_range hb).1 k x counts w s).book m h

/-- R30, R31: the disposal of a booking that goes on. -/
theorem dispose_eq_written {s : State} {n : Nat} {b : Booking} (hb : s.booking? n = some b)
    (hk : b.record.kind.immediate = false) (k : OutcomeKind) (x : Option OutcomeCause) (counts : StrikeCounts) :
    s.dispose n k x counts false =
      (s.raise .outcome).setBooking n ((b.write ⟨k, x, b.current, counts⟩).goOn s.time) := by
  simp only [State.dispose, hb, hk, Bool.or_false, Bool.false_eq_true, if_false]
  rfl

/-- R30–R32: a disposal stays in the table, the notices and the feed. -/
theorem dispose_frame (n : Nat) (k : OutcomeKind) (x : Option OutcomeCause) (counts : StrikeCounts) (w : Bool)
    (s : State) : ∃ book live notices, s.dispose n k x counts w =
      { s with book := book, live := live, notices := notices } := by
  cases hb : s.booking? n with
  | none => exact ⟨_, _, _, dispose_of_none hb k x counts w⟩
  | some b =>
    by_cases h : b.record.kind.immediate = true ∨ w = true
    · exact ⟨_, _, _, dispose_eq_removed hb h k x counts⟩
    · obtain ⟨hk, hw⟩ := not_or.1 h
      obtain rfl : w = false := by simpa using hw
      exact ⟨_, _, _, dispose_eq_written hb (by simpa using hk) k x counts⟩

/-- R30–R32: what a disposal leaves of the booking. -/
theorem dispose_disposed {s : State} {n : Nat} {b : Booking} (hb : s.booking? n = some b) (k : OutcomeKind)
    (x : Option OutcomeCause) (counts : StrikeCounts) :
    (s.dispose n k x counts false).disposed n b ⟨k, x, b.current, counts⟩ := by
  cases hk : b.record.kind.immediate with
  | true =>
    have hgone := dispose_removes hb hk k x counts false
    rw [dispose_eq_removed hb (.inl hk)] at hgone ⊢
    exact ⟨rfl, fun hnot => absurd (hk.symm.trans hnot) nofun, fun _ => ⟨hgone, (orphan_eq _ _).2.1⟩⟩
  | false =>
    have hgoes := dispose_goesOn hb hk k x counts
    rw [dispose_eq_written hb hk] at hgoes ⊢
    exact ⟨rfl, fun _ => ⟨_, hgoes, rfl, goOn_busy _ _, rfl⟩, fun hnot => absurd (hk.symm.trans hnot) nofun⟩

/-- The disposal of a booking stands while its slot, the orphan list and the OUTCOME flag do. -/
theorem State.disposed.congr {t u : State} {n : Nat} {b : Booking} {o : OutcomeRecord} (h : t.disposed n b o)
    (hb : u.booking? n = t.booking? n) (ho : u.book.orphans = t.book.orphans)
    (hf : t.notices.flags.outcome = true → u.notices.flags.outcome = true) : u.disposed n b o := by
  unfold State.disposed at *
  rw [hb, ho]
  exact ⟨hf h.1, h.2⟩

/-! ## Suspension, end and displacement (R56, R58, R60) -/

section
variable {s : State} {c : Context} (ha : s.engine.active = some c)
include ha

/-- R56, R57: a suspension puts the context on the stack with its resume point. -/
theorem suspendActive_eq : ∃ pl st, s.suspendActive = ({ s with
      planner := pl, player := .initial, store := st
      engine := { s.engine with
        active := none
        stack := { c with resume := s.resumePoint c (s.earliestEntry c.booking) } :: s.engine.stack } } :
        State).setBookingState c.booking .suspended ∧
    pl.queue = s.planner.queue.filter fun e => !e.ownedBy c.booking := by
  obtain ⟨pl, st, heq, hqueue, hplaces⟩ := removeOwner_letGo_eq c.booking s
  refine ⟨pl, st, ?_, hqueue⟩
  unfold State.suspendActive
  have hresume := resumePoint_congr (s := s) (t := { s with planner := pl, player := .initial, store := st }) rfl
    hplaces c (s.earliestEntry c.booking)
  simp only [ha, heq, hresume]

/-- R60: an end empties the active place and disposes the booking. -/
theorem endActive_eq (k : OutcomeKind) (x : Option OutcomeCause) (w : Bool) : ∃ pl st, s.endActive k x w = ({ s with
      planner := pl, player := .initial, store := st, engine := { s.engine with active := none } } :
        State).dispose c.booking k x c.counts w ∧
    pl.queue = s.planner.queue.filter fun e => !e.ownedBy c.booking := by
  obtain ⟨pl, st, heq, hqueue, -⟩ := removeOwner_letGo_eq c.booking s
  refine ⟨pl, st, ?_, hqueue⟩
  unfold State.endActive
  simp only [ha, heq]

end

theorem setBookingState_booking?_ne {n m : Nat} (h : m ≠ n) (v : BookingState) (s : State) :
    (s.setBookingState n v).booking? m = s.booking? m := by
  unfold State.setBookingState
  split
  · rfl
  · rename_i b hb
    exact booking?_setBooking_ne (booking?_range hb).1 h _

theorem setBookingState_eq {s : State} {n : Nat} {b : Booking} (hb : s.booking? n = some b) (v : BookingState) :
    s.setBookingState n v = s.setBooking n { b with state := v } := by
  simp [State.setBookingState, hb]

theorem setBookingState_orphans (n : Nat) (v : BookingState) (s : State) :
    (s.setBookingState n v).book.orphans = s.book.orphans := by
  unfold State.setBookingState
  split <;> rfl

/-- R50, R58: with room on the stack nothing is displaced. -/
theorem displace_of_room {s : State} (h : s.engine.stack.length < 3) : s.displace = s := if_pos h

/-- R56, R59: clearing the active place leaves the waiting list as it is. -/
theorem clearFor_waiting (d : Decision) (s : State) : (s.clearFor d).engine.waiting = s.engine.waiting := by
  cases d with
  | waits => rfl
  | suspends =>
    have hdisplace : s.displace.engine.waiting = s.engine.waiting := by
      unfold State.displace
      split
      · rfl
      · split
        · rfl
        · simp [State.endStacked]
    exact (suspendActive_frame s.displace).2.1.trans hdisplace
  | replaces =>
    show (s.endActive ..).engine.waiting = _
    unfold State.endActive
    split
    · rfl
    · simp [State.removeOwner]

/-- R56, R59: with room on the stack, clearing the active place touches no booking but the active one. -/
theorem clearFor_booking?_ne {s : State} {c : Context} (ha : s.engine.active = some c) {m : Nat} (hm : m ≠ c.booking)
    {d : Decision} (hroom : d = .suspends → s.engine.stack.length < 3) :
    (s.clearFor d).booking? m = s.booking? m := by
  cases d with
  | waits => rfl
  | suspends =>
    obtain ⟨pl, st, heq, -⟩ := suspendActive_eq ha
    show s.displace.suspendActive.booking? m = _
    rw [displace_of_room (hroom rfl), heq, setBookingState_booking?_ne hm]
    rfl
  | replaces =>
    obtain ⟨pl, st, heq, -⟩ := endActive_eq ha .cut (some .replaced) false
    show (s.endActive ..).booking? m = _
    rw [heq, dispose_booking?_ne hm]
    rfl

/-- R53: a booking of greater rank, and not of class WAIT, clears the active place. -/
theorem judge_outranks {c : Context} {r : BookingRecord} (hrank : c.rank < r.rank) (hcls : r.cls ≠ .wait) :
    c.judge r ≠ .waits := by
  unfold Context.judge
  rw [if_neg (Nat.not_le.2 hrank)]
  split
  · exact absurd ‹_› hcls
  · nofun
  · split <;> nofun

end Sys2Proof.Machine
end

section
/-! PROOFS. A newcomer against an active context (R53, R56–R59, R72): O35. -/

namespace Sys2Proof.Machine

/-- R48: the context of a start is read from the library, the time and the booking. -/
theorem newContext_congr {s t : State} (hl : t.library = s.library) (ht : t.time = s.time) (n : Nat) (b : Booking) :
    t.newContext n b = s.newContext n b := by
  unfold State.newContext State.headerOf State.melody State.now
  rw [hl, ht]

theorem setBookingState_frame (n : Nat) (v : BookingState) (s : State) :
    s.setBookingState n v = { s with book := (s.setBookingState n v).book } := by
  unfold State.setBookingState
  split <;> rfl

/-! ## A newcomer in a place just cleared -/

section
variable {s : State} {c : Context} {n : Nat} {b : Booking} (ha : s.engine.active = some c)
  (hw : s.engine.waiting = [n]) (hb : s.booking? n = some b) (hn : n ≠ c.booking) (hp : s.playable b.record)
include ha hw hb hn hp

/-- R55, R56: the active context is suspended, and the newcomer starts over it. -/
theorem suspend_start_eq : ∃ pl pn st, s.suspendActive.start n = { s with
      engine := ⟨some (s.newContext n b),
        { c with resume := s.resumePoint c (s.earliestEntry c.booking) } :: s.engine.stack, []⟩
      book := (s.setBookingState c.booking .suspended).book.setSlot n (.occupied b.begun)
      planner := pn, player := pl, store := st } ∧
    pn.queue = s.planner.queue.filter fun e => !e.ownedBy c.booking := by
  obtain ⟨pn, st, hsuspend, hqueue⟩ := suspendActive_eq ha
  let u : State := { s with
    planner := pn, player := .initial, store := st
    engine := { s.engine with
      active := none
      stack := { c with resume := s.resumePoint c (s.earliestEntry c.booking) } :: s.engine.stack } }
  have hframe : u.setBookingState c.booking .suspended =
      { u with book := (s.setBookingState c.booking .suspended).book } := by
    rw [setBookingState_frame]
    congr 1
    unfold State.setBookingState
    have hsame : u.booking? c.booking = s.booking? c.booking := rfl
    rw [hsame]
    split <;> rfl
  have hkept := setBookingState_kept c.booking .suspended u
  have hat : (u.setBookingState c.booking .suspended).booking? n = some b :=
    (setBookingState_booking?_ne hn .suspended u).trans hb
  obtain ⟨pl, st', hstart, -⟩ := start_eq hat ((hp.congr (t := u) rfl rfl).congr hkept.ready hkept.library)
  refine ⟨pl, pn, st', ?_, hqueue⟩
  rw [hsuspend, hstart, newContext_congr (s := s) hkept.library hkept.time]
  rw [hframe]
  simp only [u, hw, List.filter_cons, bne_self_eq_false, List.filter_nil]
  rfl

/-- R55, R59, R60: the active context ends, and the newcomer starts. -/
theorem end_start_eq {a : Booking} (hc : s.booking? c.booking = some a) (k : OutcomeKind) (x : Option OutcomeCause) :
    ∃ u pl pn st, (s.endActive k x false).start n = { s with
      engine := ⟨some (s.newContext n b), s.engine.stack, []⟩
      book := u.book.setSlot n (.occupied b.begun), live := u.live, notices := u.notices
      planner := pn, player := pl, store := st } ∧
    u = s.dispose c.booking k x c.counts false ∧
    pn.queue = s.planner.queue.filter fun e => !e.ownedBy c.booking := by
  obtain ⟨pn, st, hend, hqueue⟩ := endActive_eq ha k x false
  let v : State :=
    { s with planner := pn, player := .initial, store := st, engine := { s.engine with active := none } }
  have hdispose : v.dispose c.booking k x c.counts false =
      { v with
        book := (s.dispose c.booking k x c.counts false).book
        live := (s.dispose c.booking k x c.counts false).live
        notices := (s.dispose c.booking k x c.counts false).notices } := by
    have hsame : v.booking? c.booking = some a := hc
    by_cases hgoes : a.record.kind.immediate = true ∨ false = true
    · rw [dispose_eq_removed hsame hgoes, dispose_eq_removed hc hgoes]
      rfl
    · have hstays : a.record.kind.immediate = false := by simpa using hgoes
      rw [dispose_eq_written hsame hstays, dispose_eq_written hc hstays]
      rfl
  have hkept := dispose_kept c.booking k x c.counts false v
  have hat : (v.dispose c.booking k x c.counts false).booking? n = some b :=
    (dispose_booking?_ne hn k x c.counts false v).trans hb
  obtain ⟨pl, st', hstart, -⟩ := start_eq hat ((hp.congr (t := v) rfl rfl).congr hkept.ready hkept.library)
  refine ⟨_, pl, pn, st', ?_, rfl, hqueue⟩
  rw [hend, hstart, newContext_congr (s := s) hkept.library hkept.time, hdispose]
  simp only [v, hw, List.filter_cons, bne_self_eq_false, List.filter_nil]
  rfl

end

/-! ## Room on the stack (R50, R58) -/

theorem filter_ne_last {x y z : Context} (h : ([x, y, z].map Context.booking).Nodup) :
    [x, y, z].filter (·.booking != z.booking) = [x, y] := by
  simp only [List.map_cons, List.map_nil, List.nodup_cons, List.mem_cons, List.not_mem_nil, or_false, not_or] at h
  obtain ⟨⟨-, hxz⟩, hyz, -⟩ := h
  simp [hxz, hyz]

/-- R58: displacement leaves the two upper contexts; the bottom one of three ends CUT, DISPLACED. -/
theorem displace_eq {s : State} (hlen : s.engine.stack.length ≤ 3)
    (hnodup : (s.engine.stack.map Context.booking).Nodup) : ∃ u : State,
    s.displace = { s with
      engine := { s.engine with stack := s.engine.stack.take 2 }
      book := u.book, live := u.live, notices := u.notices } ∧
    (∀ k, (∀ x ∈ s.engine.stack, x.booking ≠ k) → u.booking? k = s.booking? k) ∧
    ∀ x bx, s.engine.stack[2]? = some x → s.booking? x.booking = some bx →
      u.disposed x.booking bx ⟨.cut, some .displaced, bx.current, x.counts⟩ := by
  by_cases hroom : s.engine.stack.length < 3
  · refine ⟨s, ?_, fun _ _ => rfl, fun x bx hx => ?_⟩
    · rw [displace_of_room hroom, List.take_of_length_le (by omega)]
    · rw [List.getElem?_eq_none (by omega)] at hx
      exact absurd hx nofun
  · obtain ⟨x, y, z, hstack⟩ := List.length_eq_three.1 (show s.engine.stack.length = 3 by omega)
    let v : State := { s with engine := { s.engine with stack := [x, y] } }
    have hdisplace : s.displace = v.dispose z.booking .cut (some .displaced) z.counts false := by
      rw [hstack] at hnodup
      have hfilter := filter_ne_last hnodup
      unfold State.displace State.endStacked
      rw [if_neg (show ¬ s.engine.stack.length < Config.stackMax from hroom)]
      simp only [hstack, List.getLast?_cons_cons, List.getLast?_singleton, hfilter]
      rfl
    obtain ⟨book, live, notices, hframe⟩ := dispose_frame z.booking .cut (some .displaced) z.counts false v
    refine ⟨v.dispose z.booking .cut (some .displaced) z.counts false, ?_, fun k hk => ?_, fun x' bx hx' hbx => ?_⟩
    · rw [hdisplace, hframe, hstack]
      rfl
    · exact dispose_booking?_ne (hk z (by simp [hstack])).symm ..
    · rw [hstack] at hx'
      cases hx'
      exact dispose_disposed (s := v) hbx ..

/-! ## A newcomer that outranks the active context (R53, R56, R58, R59) -/

theorem judge_suspends {c : Context} {r : BookingRecord} (hrank : c.rank < r.rank) (hcls : r.cls = .interrupt)
    (hkind : c.melodyKind ≠ none) : c.judge r = .suspends := by
  cases hk : c.melodyKind with
  | none => exact absurd hk hkind
  | some k => simp [Context.judge, Nat.not_le.2 hrank, hcls, hk]

theorem judge_replaces {c : Context} {r : BookingRecord} (hrank : c.rank < r.rank)
    (hcls : r.cls = .replace ∨ (r.cls = .interrupt ∧ c.melodyKind = none)) : c.judge r = .replaces := by
  rcases hcls with hcls | ⟨hcls, hk⟩ <;> simp [Context.judge, Nat.not_le.2 hrank, *]

section
variable {s : State} {c : Context} {n : Nat} {f a : Booking} (hh : s.drive.hush = false)
  (hl : s.store.loading = false) (ha : s.engine.active = some c) (hw : s.engine.waiting = [n])
  (hb : s.booking? n = some f) (hn : n ≠ c.booking) (hp : s.playable f.record)
include hh hl ha hw hb hn hp

/-- R55–R58: the one booking that waits suspends the active context; `v` is the state after the displacement. -/
theorem reconsider_suspends (hjudge : c.judge f.record = .suspends) (hlen : s.engine.stack.length ≤ 3)
    (hstack : ∀ x ∈ s.engine.stack, x.booking ≠ n) (hnodup : (s.engine.stack.map Context.booking).Nodup) :
    ∃ (v : State) (pl : Player) (pn : Planner) (st : Store), s.reconsider = { s with
      engine := ⟨some (s.newContext n f), { c with resume := s.resumePoint c (s.earliestEntry c.booking) } ::
        s.engine.stack.take 2, []⟩
      book := (v.setBookingState c.booking .suspended).book.setSlot n (.occupied f.begun)
      live := v.live, notices := v.notices, planner := pn, player := pl, store := st } ∧
    (pn.queue = s.planner.queue.filter fun e => !e.ownedBy c.booking) ∧
    (∀ k, (∀ x ∈ s.engine.stack, x.booking ≠ k) → v.booking? k = s.booking? k) ∧
    ∀ x bx, s.engine.stack[2]? = some x → s.booking? x.booking = some bx →
      v.disposed x.booking bx ⟨.cut, some .displaced, bx.current, x.counts⟩ := by
  obtain ⟨u, hdisplace, hkeep, hgone⟩ := displace_eq hlen hnodup
  let v : State := { s with
    engine := { s.engine with stack := s.engine.stack.take 2 }
    book := u.book, live := u.live, notices := u.notices }
  have hclear : s.clearFor .suspends = v.suspendActive := congrArg State.suspendActive hdisplace
  have hvn : v.booking? n = some f := (hkeep n hstack).trans hb
  have hroom : v.engine.stack.length < 3 := by
    show (s.engine.stack.take 2).length < 3
    rw [List.length_take]
    omega
  have hcleared : (s.clearFor .suspends).booking? n = some f := by
    have hsame : v.clearFor .suspends = v.suspendActive := congrArg State.suspendActive (displace_of_room hroom)
    rw [hclear, ← hsame]
    exact (clearFor_booking?_ne (s := v) ha hn fun _ => hroom).trans hvn
  obtain ⟨pl, pn, st, heq, hqueue⟩ := suspend_start_eq (s := v) ha hw hvn hn hp
  have hresume := resumePoint_congr (s := s) (t := v) rfl rfl c (s.earliestEntry c.booking)
  refine ⟨v, pl, pn, st, ?_, hqueue, hkeep, hgone⟩
  rw [reconsider_outranks hh hl hw ha hb hp hjudge nofun ((clearFor_waiting .suspends s).trans hw) hcleared, hclear, heq,
    ← hresume]
  rfl

/-- R55, R59: the one booking that waits replaces the active context; `u` is the state after the disposal. -/
theorem reconsider_replaces (hc : s.booking? c.booking = some a) (hjudge : c.judge f.record = .replaces) :
    ∃ (u : State) (pl : Player) (pn : Planner) (st : Store), s.reconsider = { s with
      engine := ⟨some (s.newContext n f), s.engine.stack, []⟩
      book := u.book.setSlot n (.occupied f.begun), live := u.live, notices := u.notices
      planner := pn, player := pl, store := st } ∧
    u = s.dispose c.booking .cut (some .replaced) c.counts false ∧
    pn.queue = s.planner.queue.filter fun e => !e.ownedBy c.booking := by
  have hcleared : (s.clearFor .replaces).booking? n = some f :=
    (clearFor_booking?_ne (d := .replaces) ha hn nofun).trans hb
  have hclear : s.clearFor .replaces = s.endActive .cut (some .replaced) false := rfl
  rw [reconsider_outranks hh hl hw ha hb hp hjudge nofun ((clearFor_waiting .replaces s).trans hw) hcleared, hclear]
  exact end_start_eq ha hw hb hn hp hc .cut (some .replaced)

end

/-! ## PLAY_NOW -/

/-- Settles O35: the newcomer waits by `handGroup_waits`, or `reconsider_suspends` or `reconsider_replaces` says what
its start leaves. -/
theorem playNowAgainstAnActiveContext : Obligations.PlayNowAgainstAnActiveContext := by
  unfold Obligations.PlayNowAgainstAnActiveContext
  intro p body r n m h c b s htakes hr hrank hfree hm hstate hdamaged hknown ha hwaiting hready hhush hb
  obtain ⟨h1, h2⟩ := lowestFree_range hfree
  have hload := loading_of_takes htakes
  have hne : n ≠ c.booking := by
    rintro rfl
    rw [booking?_lowestFree hfree] at hb
    exact absurd hb nofun
  let f := Booking.freshImmediate r s.time
  let w := (s.taken p).setBooking n f
  have hw : w.booking? n = some f := booking?_setBooking_self h1 h2 _
  have hwc : w.booking? c.booking = some b := (booking?_setBooking_ne h1 hne.symm _).trans hb
  have hplay : (w.queued n).playable r := ⟨hready, m, h, hm, hstate, hdamaged, hknown⟩
  have hhand : (s.taken p).createImmediate n r = (w.queued n).reconsider := handGroup_single (s := w) hwaiting
  have hbegun {u : State} (hu : u.booking? n = some f) : (u.book.setSlot n (.occupied f.begun)).booking? n =
      some f.begun := booking?_setBooking_self (booking?_range hu).1 (booking?_range hu).2 _
  refine ⟨_, exec_playNow htakes hr hrank hfree, rfl, fun hlow => ?_, fun hhigh hcls hkind hlen hstack hnodup => ?_,
    fun hhigh hcls => ?_⟩
  · have hwait : (s.taken p).createImmediate n r = w.queued n :=
      handGroup_waits (s := w) hwaiting hw (.inr ⟨c, ha, hlow⟩)
    rw [hwait]
    exact ⟨rfl, congrArg (Option.map Booking.state) hw, hwc, rfl, rfl⟩
  · obtain ⟨v, pl, pn, st, heq, hqueue, hkeep, hgone⟩ := reconsider_suspends (s := w.queued n) hhush hload ha rfl hw hne
      hplay (judge_suspends hhigh hcls hkind) hlen (fun x hx => (hstack x hx).2) hnodup
    have hvn : (v.setBookingState c.booking .suspended).booking? n = some f :=
      (setBookingState_booking?_ne hne .suspended v).trans ((hkeep n fun x hx => (hstack x hx).2).trans hw)
    have hvc : v.booking? c.booking = some b := (hkeep c.booking fun x hx => (hstack x hx).1).trans hwc
    rw [hhand, heq]
    refine ⟨rfl, rfl, ?_, fun x bx hx hbx => ?_, ?_, ?_, fun e => ?_⟩
    · have hresume := resumePoint_congr (s := s) (t := w.queued n) rfl rfl c (s.earliestEntry c.booking)
      exact congrArg (fun z => { c with resume := z } :: s.engine.stack.take 2) hresume
    · obtain ⟨hxc, hxn⟩ := hstack x (List.mem_of_getElem? hx)
      refine (hgone x bx hx ((booking?_setBooking_ne h1 hxn _).trans hbx)).congr ?_ ?_ id
      · exact (booking?_setSlot_ne h1 hxn _).trans (setBookingState_booking?_ne hxc .suspended v)
      · exact setBookingState_orphans c.booking .suspended v
    · exact congrArg (Option.map Booking.state) (hbegun hvn)
    · refine (booking?_setSlot_ne h1 hne.symm _).trans ?_
      rw [setBookingState_eq hvc]
      exact booking?_setBooking_self (booking?_range hvc).1 (booking?_range hvc).2 _
    · simp only [hqueue]
      exact mem_removeOwner
  · obtain ⟨u, pl, pn, st, heq, hu, hqueue⟩ := reconsider_replaces (s := w.queued n) hhush hload ha rfl hw hne hplay hwc
      (judge_replaces hhigh hcls)
    have hun : u.booking? n = some f := by
      rw [hu, dispose_booking?_ne hne]
      exact hw
    have hgone := dispose_disposed (s := w.queued n) hwc .cut (some .replaced) c.counts
    rw [← hu] at hgone
    rw [hhand, heq]
    refine ⟨rfl, rfl, rfl, ?_, ?_, fun l hlive hlc himm => ?_, fun e => ?_⟩
    · exact congrArg (Option.map Booking.state) (hbegun hun)
    · exact hgone.congr (booking?_setSlot_ne h1 hne.symm _) rfl id
    · have hfeed : (w.queued n).live.any (fun l => l.booking == c.booking) = true := by
        rw [show (w.queued n).live = s.live from rfl, hlive]
        simp [hlc]
      show u.live = none
      rw [hu, dispose_eq_removed (s := w.queued n) hwc (.inl himm)]
      simp only [hfeed, if_true]
    · simp only [hqueue]
      exact mem_removeOwner

end Sys2Proof.Machine
end

section
/-! PROOFS. BOOK, AMEND and WITHDRAW taking effect (R23, R39, R40, R42, R51, R63): what each leaves of the table, the
waiting list and the performances. -/

namespace Sys2Proof.Machine

/-! ## A booking at rest (R22, R23) -/

theorem ne_due_of_not_busy {b : Booking} (h : b.busy = false) : b.state ≠ .due := by
  intro hdue
  simp [Booking.busy, hdue] at h

/-- R23: a booking at rest that has a next occurrence is ARMED. -/
theorem recompute_armed {b : Booking} {T : TowerTime} {t : Nat} (hb : b.busy = false)
    (h : (b.recompute T).next = some t) : (b.recompute T).state = .armed := by
  rw [recompute_eq_goOn hb, goOn_eq] at h ⊢
  have henabled := (nextOccurrence_some h).1
  have hset : T.state ≠ .unset := fun hunset => by simp [nextOccurrence_of_unset b hunset] at h
  have hnext : b.nextOccurrence T = some t := h
  simp [restState_of_set hset, henabled, hnext]

/-- R22, R23, R39: the booking of a BOOK, its state by R23's table. -/
theorem fresh_eq (r : BookingRecord) (T : TowerTime) : Booking.fresh r T = {
    record := r, next := if r.enabled = true ∧ T.state ≠ .unset then r.firstFrom T.second else none
    state := if r.enabled = false then .dormant
      else if T.state = .unset ∨ (if r.enabled = true ∧ T.state ≠ .unset then r.firstFrom T.second else none) ≠ none
        then .armed else .spent
    current := none, creation := none, waiting := none, lastDisposed := none
    lastOutcome := none, unread := false, missed := 0 } := by
  let b : Booking := { record := r, state := .armed, next := none, current := none, creation := none, waiting := none
                       lastDisposed := none, lastOutcome := none, unread := false, missed := 0 }
  have hnext : b.nextOccurrence T = if r.enabled = true ∧ T.state ≠ .unset then r.firstFrom T.second else none := by
    split
    · rename_i h
      rw [nextOccurrence_eq h.1 h.2]
      simp [b, laterThan]
    · rename_i h
      refine nextOccurrence_absent ?_
      by_cases he : r.enabled = true
      · exact .inr (by_contra fun hT => h ⟨he, hT⟩)
      · exact .inl (by simpa using he)
  have hfresh : Booking.fresh r T = b.goOn T := recompute_eq_goOn rfl
  rw [hfresh, goOn_eq, ← hnext]
  simp only [Booking.restState]
  cases r.enabled <;> cases hT : T.state <;> cases hn : b.nextOccurrence T <;> simp [b]

/-! ## Falling due at once (R23) -/

section
variable {s : State} {n : Nat} {x : Booking} (h1 : 1 ≤ n) (h2 : n ≤ s.book.slots.length)
include h1 h2

/-- R23: a booking whose next occurrence is not the second in force, and does not wait, rests. -/
theorem dueAtOnce_rests (hx : x.next ≠ some s.time.second) (hs : x.state ≠ .due) :
    (s.setBooking n x).dueAtOnce n = s.setBooking n x := by
  have hb := booking?_setBooking_self h1 h2 x
  have hdue : (s.setBooking n x).isDue n = false := by simp [State.isDue, hb, hs]
  unfold State.dueAtOnce
  simp [dueNow_of_ne hb hx, hdue]

/-- R40: one that waits is re-placed. -/
theorem dueAtOnce_waits (hx : x.next ≠ some s.time.second) (hs : x.state = .due) :
    (s.setBooking n x).dueAtOnce n = (s.setBooking n x).sortWaiting := by
  have hb := booking?_setBooking_self h1 h2 x
  have hdue : (s.setBooking n x).isDue n = true := by simp [State.isDue, hb, hs]
  unfold State.dueAtOnce
  simp [dueNow_of_ne hb hx, hdue]

/-- R23, R25, R52: one whose next occurrence is the second in force falls due and is a group of one. -/
theorem dueAtOnce_falls (hx : x.next = some s.time.second) (hs : x.state = .armed) :
    s.fellDueAtOnce ((s.setBooking n x).dueAtOnce n) n x.record := by
  have hb := booking?_setBooking_self h1 h2 x
  let w := (s.setBooking n x).setBooking n (x.fallDue s.time)
  have hw : w.booking? n = some (x.fallDue s.time) :=
    booking?_setBooking_self (s := s.setBooking n x) h1 (booking?_range hb).2 _
  have hdue : (s.setBooking n x).dueAtOnce n = w.handGroup [n] := by
    unfold State.dueAtOnce
    rw [dueNow_armed hb hx hs]
    rfl
  rw [hdue]
  refine ⟨fun hheld hwaiting => ?_, fun m d hh hl hidle hready hm hstate hdamaged hknown => ?_⟩
  · rw [handGroup_waits (s := w) hwaiting hw hheld]
    exact ⟨rfl, _, hw, rfl, rfl, hx, rfl⟩
  · obtain ⟨pl, st, hstart⟩ := handGroup_idle_starts (s := w) (engineIdle_iff.1 hidle) hh hl hw
      ⟨hready, m, d, hm, hstate, hdamaged, hknown⟩
    rw [hstart]
    exact ⟨_, _, rfl, rfl, hx, rfl, rfl, booking?_setBooking_self (s := w) h1 (booking?_range hw).2 _, rfl, rfl, hx,
      rfl⟩

/-! ## BOOK (R39) -/

theorem createBooking_rests {r : BookingRecord} (hx : (Booking.fresh r s.time).next ≠ some s.time.second) :
    s.createBooking n r = s.setBooking n (.fresh r s.time) :=
  dueAtOnce_rests h1 h2 hx (ne_due_of_not_busy (recompute_not_busy rfl))

theorem createBooking_falls {r : BookingRecord} (he : r.enabled = true) (hT : s.time.state ≠ .unset)
    (hx : r.firstFrom s.time.second = some s.time.second) : s.fellDueAtOnce (s.createBooking n r) n r := by
  have hfresh := fresh_eq r s.time
  simp only [he, hT, hx, ne_eq, not_false_eq_true, and_self, if_true, false_or, Option.some_ne_none] at hfresh
  have hdue := dueAtOnce_falls (x := .fresh r s.time) h1 h2 (by rw [hfresh]) (by rw [hfresh]; simp)
  rw [hfresh] at hdue
  rw [State.createBooking, hfresh]
  exact hdue

end

/-! ## AMEND (R40) -/

/-- R40: booking `b` with the record of an AMEND, recomputed. -/
def Booking.amended (b : Booking) (r : BookingRecord) (T : TowerTime) : Booking :=
  ({ b with record := r } : Booking).recompute T

section
variable {b : Booking} {r : BookingRecord} {T : TowerTime}

theorem amended_rest (h : b.busy = false) : b.amended r T = ({ b with record := r } : Booking).goOn T :=
  recompute_eq_goOn h

theorem amended_busy (h : b.busy = true) :
    b.amended r T = { b with record := r, next := ({ b with record := r } : Booking).nextOccurrence T } :=
  recompute_busy h

theorem busy_of_due (h : b.state = .due) : b.busy = true := by simp [Booking.busy, h]

/-- R40: the device-owned fields are kept. -/
theorem amended_owned : (b.amended r T).record = r ∧
    (b.amended r T).next = ({ b with record := r } : Booking).nextOccurrence T ∧
    (b.amended r T).lastOutcome = b.lastOutcome ∧ (b.amended r T).unread = b.unread ∧
    (b.amended r T).missed = b.missed ∧ (b.amended r T).lastDisposed = b.lastDisposed ∧
    (b.amended r T).current = b.current ∧ (b.amended r T).waiting = b.waiting := by
  cases hb : b.busy with
  | false =>
    rw [amended_rest hb, goOn_eq]
    exact ⟨rfl, rfl, rfl, rfl, rfl, rfl, rfl, rfl⟩
  | true =>
    rw [amended_busy hb]
    exact ⟨rfl, rfl, rfl, rfl, rfl, rfl, rfl, rfl⟩

theorem amended_not_busy (h : b.busy = false) : (b.amended r T).busy = false := recompute_not_busy h

theorem amended_due (h : b.state = .due) : (b.amended r T).state = .due := by
  rw [amended_busy (busy_of_due h)]
  exact h

end

section
variable {s : State} {n : Nat} {b : Booking} {r : BookingRecord} (hb : s.booking? n = some b)
include hb

theorem amendBooking_rests (hbusy : b.busy = false)
    (hx : (b.amended r s.time).next ≠ some s.time.second) :
    s.amendBooking n r = s.setBooking n (b.amended r s.time) := by
  obtain ⟨h1, h2⟩ := booking?_range hb
  unfold State.amendBooking
  simp only [hb, ne_due_of_not_busy hbusy, if_false]
  exact dueAtOnce_rests h1 h2 hx (ne_due_of_not_busy (amended_not_busy hbusy))

theorem amendBooking_falls (hbusy : b.busy = false)
    (hx : (b.amended r s.time).next = some s.time.second) :
    s.fellDueAtOnce (s.amendBooking n r) n r := by
  obtain ⟨h1, h2⟩ := booking?_range hb
  have hrecord : (b.amended r s.time).record = r := amended_owned.1
  have hdue := dueAtOnce_falls h1 h2 hx (recompute_armed hbusy hx)
  unfold State.amendBooking
  simp only [hb, ne_due_of_not_busy hbusy, if_false]
  rwa [hrecord] at hdue

/-- R40: a DUE booking amended is re-placed and reconsidered. -/
theorem amendBooking_due (hdue : b.state = .due)
    (hx : (b.amended r s.time).next ≠ some s.time.second) :
    s.amendBooking n r =
      (s.setBooking n (b.amended r s.time)).sortWaiting.reconsider := by
  obtain ⟨h1, h2⟩ := booking?_range hb
  unfold State.amendBooking
  simp only [hb, if_pos hdue]
  exact congrArg State.reconsider (dueAtOnce_waits h1 h2 hx (amended_due hdue))

end

/-! ## The order of the waiting list (R51) -/

section
variable {s : State}

theorem waitsBefore_iff {i j : Nat} {x y : Booking} (hx : s.booking? i = some x) (hy : s.booking? j = some y) :
    s.waitsBefore i j = true ↔ y.record.rank < x.record.rank ∨ (x.record.rank = y.record.rank ∧
      (x.orderSecond < y.orderSecond ∨ (x.orderSecond = y.orderSecond ∧ i ≤ j))) := by
  simp [State.waitsBefore, hx, hy]

/-- R51: the numbers of a list all name bookings. -/
def State.allBooked (s : State) (l : List Nat) : Prop := ∀ k ∈ l, s.booking? k ≠ none

theorem waitsBefore_trans {i j k : Nat} (hi : s.booking? i ≠ none) (hj : s.booking? j ≠ none)
    (hk : s.booking? k ≠ none) (hij : s.waitsBefore i j = true) (hjk : s.waitsBefore j k = true) :
    s.waitsBefore i k = true := by
  obtain ⟨x, hx⟩ := Option.ne_none_iff_exists'.1 hi
  obtain ⟨y, hy⟩ := Option.ne_none_iff_exists'.1 hj
  obtain ⟨z, hz⟩ := Option.ne_none_iff_exists'.1 hk
  rw [waitsBefore_iff hx hy] at hij
  rw [waitsBefore_iff hy hz] at hjk
  rw [waitsBefore_iff hx hz]
  omega

theorem waitsBefore_total {i j : Nat} (hi : s.booking? i ≠ none) (hj : s.booking? j ≠ none)
    (h : ¬ s.waitsBefore i j = true) : s.waitsBefore j i = true := by
  obtain ⟨x, hx⟩ := Option.ne_none_iff_exists'.1 hi
  obtain ⟨y, hy⟩ := Option.ne_none_iff_exists'.1 hj
  rw [waitsBefore_iff hx hy] at h
  rw [waitsBefore_iff hy hx]
  omega

/-- R51: an insertion keeps the order. -/
theorem insertWaiting_sorted {n : Nat} (hn : s.booking? n ≠ none) {l : List Nat} (hl : s.allBooked l)
    (h : l.Pairwise fun i j => s.waitsBefore i j = true) :
    (s.insertWaiting n l).Pairwise fun i j => s.waitsBefore i j = true := by
  induction l with
  | nil => exact List.pairwise_singleton _ n
  | cons x xs ih =>
    obtain ⟨hx, hxs⟩ := List.pairwise_cons.1 h
    have hxbooked := hl x List.mem_cons_self
    unfold State.insertWaiting
    split
    · rename_i hbefore
      refine List.pairwise_cons.2 ⟨fun k hk => ?_, h⟩
      rcases List.mem_cons.1 hk with rfl | hk'
      · exact hbefore
      · exact waitsBefore_trans hn hxbooked (hl k hk) hbefore (hx k hk')
    · rename_i hafter
      refine List.pairwise_cons.2 ⟨fun k hk => ?_, ih (fun k hk => hl k (List.mem_cons_of_mem x hk)) hxs⟩
      rcases List.mem_cons.1 ((insertWaiting_perm s n xs).mem_iff.1 hk) with rfl | hk'
      · exact waitsBefore_total hn hxbooked hafter
      · exact hx k hk'

/-- R51: a list of bookings, sorted, is in order. -/
theorem sortWaiting_sorted (h : s.allBooked s.engine.waiting) :
    s.sortWaiting.engine.waiting.Pairwise fun i j => s.waitsBefore i j = true := by
  have hsort : ∀ l : List Nat, s.allBooked l →
      (l.foldr s.insertWaiting []).Perm l ∧
        (l.foldr s.insertWaiting []).Pairwise fun i j => s.waitsBefore i j = true := by
    intro l hl
    induction l with
    | nil => exact ⟨.nil, .nil⟩
    | cons x xs ih =>
      obtain ⟨hperm, hsorted⟩ := ih fun k hk => hl k (List.mem_cons_of_mem x hk)
      refine ⟨(insertWaiting_perm s x _).trans (hperm.cons x),
        insertWaiting_sorted (hl x List.mem_cons_self) (fun k hk => ?_) hsorted⟩
      exact hl k (List.mem_cons_of_mem x (hperm.mem_iff.1 hk))
  exact (hsort _ h).2

/-- R51: a list of at most one number is in order as it stands. -/
theorem sortWaiting_of_short (h : s.engine.waiting.length ≤ 1) : s.sortWaiting = s := by
  have hlist : s.engine.waiting.foldr s.insertWaiting [] = s.engine.waiting := by
    match hw : s.engine.waiting with
    | [] => rfl
    | [n] => rfl
    | _ :: _ :: _ => simp [hw] at h
  unfold State.sortWaiting
  rw [hlist]

/-- R40, R51: a waiting booking written anew and re-placed. -/
theorem sortWaiting_rePlaced {n : Nat} {x : Booking} (h1 : 1 ≤ n) (h2 : n ≤ s.book.slots.length)
    (hbooked : s.allBooked s.engine.waiting) : s.rePlaced (s.setBooking n x).sortWaiting n x := by
  have hall : (s.setBooking n x).allBooked s.engine.waiting := by
    intro k hk
    by_cases hkn : k = n
    · rw [hkn, booking?_setBooking_self h1 h2]
      exact nofun
    · rw [booking?_setBooking_ne h1 hkn]
      exact hbooked k hk
  refine ⟨rfl, _, rfl, sortWaiting_perm _, (sortWaiting_sorted (s := s.setBooking n x) hall).imp ?_⟩
  exact fun hij y z hy hz => (waitsBefore_iff hy hz).1 hij

/-- R40, R53: the amended booking waits on, held by HUSH, or with all that wait by the active context. -/
theorem amendBooking_rePlaced {n : Nat} {b : Booking} {r : BookingRecord} (hb : s.booking? n = some b)
    (hdue : b.state = .due)
    (hx : (b.amended r s.time).next ≠ some s.time.second)
    (hbooked : s.allBooked s.engine.waiting)
    (hheld : s.drive.hush = true ∨ ∃ c, s.engine.active = some c ∧ (r.rank ≤ c.rank ∨ r.cls = .wait) ∧
      ∀ k ∈ s.engine.waiting, ∀ x, k ≠ n → s.booking? k = some x → x.record.rank ≤ c.rank ∨ x.record.cls = .wait) :
    s.rePlaced (s.amendBooking n r) n (b.amended r s.time) := by
  obtain ⟨h1, h2⟩ := booking?_range hb
  rw [amendBooking_due hb hdue hx]
  have hplaced := sortWaiting_rePlaced (x := ({ b with record := r } : Booking).recompute s.time) h1 h2 hbooked
  suffices hsame : (s.setBooking n (b.amended r s.time)).sortWaiting.reconsider =
      (s.setBooking n (b.amended r s.time)).sortWaiting by rwa [hsame]
  rcases hheld with hh | ⟨c, ha, hrank, hothers⟩
  · exact reconsider_of_hush hh
  · refine reconsider_of_waits (c := c) ha fun k hk => ?_
    have hkwaits : k ∈ s.engine.waiting := (sortWaiting_perm (s.setBooking n (b.amended r s.time))).mem_iff.1 hk
    by_cases hkn : k = n
    · rw [hkn]
      exact ⟨_, booking?_setBooking_self h1 h2 _, judge_waits (by rwa [amended_owned.1])⟩
    · obtain ⟨y, hy⟩ := Option.ne_none_iff_exists'.1 (hbooked k hkwaits)
      exact ⟨y, (booking?_setBooking_ne h1 hkn _).trans hy, judge_waits (hothers k hkwaits y hkn hy)⟩

end

/-! ## WITHDRAW (R42, R63) -/

section
variable {s : State} {n : Nat} {b : Booking} (hb : s.booking? n = some b)
include hb

theorem withdrawNow_rests (hbusy : b.busy = false) : s.withdrawNow n = s.removeBooking n := by
  unfold State.withdrawNow
  rw [hb]
  cases hs : b.state <;> simp_all [Booking.busy]

/-- R63: the active booking withdrawn, with nothing else to play, ends CUT, WITHDRAWN. -/
theorem withdrawNow_sounding {c : Context} (hs : b.state = .sounding) (ha : s.engine.active = some c)
    (hc : c.booking = n) (hstack : s.engine.stack = []) (hwaiting : s.engine.waiting = []) : ∃ pl st,
    s.withdrawNow n = { s.raise .outcome with
      planner := pl, player := .initial, store := st, engine := ⟨none, [], []⟩
      book := (s.book.orphan ⟨n, b.record.kind, ⟨.cut, some .withdrawn, b.current, c.counts⟩⟩).setSlot n .free
      live := if s.live.any (fun l => l.booking == n) then none else s.live } ∧
    pl.queue = s.planner.queue.filter fun e => !e.ownedBy n := by
  subst hc
  obtain ⟨pl, st, hend, hqueue⟩ := endActive_eq ha .cut (some .withdrawn) true
  let v : State := { s with planner := pl, player := .initial, store := st, engine := ⟨none, [], []⟩ }
  have hgone := dispose_eq_removed (s := v) hb (.inr rfl) .cut (some .withdrawn) c.counts
  refine ⟨pl, st, ?_, hqueue⟩
  simp only [hstack, hwaiting] at hend
  unfold State.withdrawNow
  simp only [hb, hs]
  rw [hend, hgone]
  exact resumeChoice_of_empty _ rfl rfl

/-- R63: a suspended booking withdrawn leaves the stack, and ends CUT, WITHDRAWN. -/
theorem withdrawNow_suspended {above below : List Context} {c : Context} (hs : b.state = .suspended)
    (hstack : s.engine.stack = above ++ c :: below) (hc : c.booking = n)
    (hothers : ∀ x ∈ above ++ below, x.booking ≠ n) :
    s.withdrawNow n = { s.raise .outcome with
      engine := { s.engine with stack := above ++ below }
      book := (s.book.orphan ⟨n, b.record.kind, ⟨.cut, some .withdrawn, b.current, c.counts⟩⟩).setSlot n .free
      live := if s.live.any (fun l => l.booking == n) then none else s.live } := by
  subst hc
  have habove : ∀ x ∈ above, x.booking ≠ c.booking := fun x hx => hothers x (List.mem_append_left below hx)
  have hbelow : ∀ x ∈ below, x.booking ≠ c.booking := fun x hx => hothers x (List.mem_append_right above hx)
  have hfind : s.engine.stack.find? (·.booking == c.booking) = some c := by
    rw [hstack, List.find?_append, List.find?_eq_none.2 fun x hx => by simpa using habove x hx]
    simp
  have hfilter : s.engine.stack.filter (·.booking != c.booking) = above ++ below := by
    rw [hstack, List.filter_append, List.filter_cons_of_neg (by simp),
      List.filter_eq_self.2 fun x hx => by simpa using habove x hx,
      List.filter_eq_self.2 fun x hx => by simpa using hbelow x hx]
  let v : State := { s with engine := { s.engine with stack := above ++ below } }
  have hgone := dispose_eq_removed (s := v) hb (.inr rfl) .cut (some .withdrawn) c.counts
  unfold State.withdrawNow
  simp only [hb, hs, hfind]
  unfold State.endStacked
  rw [hfilter]
  exact hgone

/-- R42: what a withdrawal leaves of a booking that is DUE, SOUNDING or SUSPENDED. -/
theorem withdrawNow_withdrawn : s.withdrawn (s.withdrawNow n) n b := by
  refine ⟨fun hs => ?_, fun c hs ha hc hstack hwaiting => ?_, fun above c below hs hstack hc hothers => ?_⟩
  · have heq : s.withdrawNow n = (s.leaveWaiting n).removeBooking n := by simp only [State.withdrawNow, hb, hs]
    rw [heq]
    exact ⟨booking?_removeBooking (s := s.leaveWaiting n) hb, rfl, rfl, rfl⟩
  · obtain ⟨pl, st, heq, hqueue⟩ := withdrawNow_sounding hb hs ha hc hstack hwaiting
    have hfree := booking?_removeBooking (s := s) hb
    rw [heq]
    refine ⟨hfree, rfl, ⟨rfl, (orphan_eq _ _).2.1⟩, fun l hl hln => ?_, fun e => ?_⟩
    · simp [hl, hln]
    · simp only [hqueue]
      exact mem_removeOwner
  · have hfree := booking?_removeBooking (s := s) hb
    rw [withdrawNow_suspended hb hs hstack hc hothers]
    exact ⟨hfree, rfl, ⟨rfl, (orphan_eq _ _).2.1⟩, rfl⟩

end

end Sys2Proof.Machine
end

section
/-! PROOFS. BOOK, AMEND and WITHDRAW of TEMPORARY bookings (R38–R40, R42, R164): O27. -/

namespace Sys2Proof.Machine

/-! ## Requests refused (R38, R39, R164) -/

section
variable {p : Port} {body bs : List Byte} {r : BookingRecord} {n : Nat} {b : Booking} {s : State}

theorem exec_book_privilege (htakes : s.takes p 0x01 body.length = true) (hr : parseRecord body = some r)
    (h : s.privilege p < r.rank) : exec (.book p body) s = .next (s.answered p 0x01 .privilege []) := by
  refine congrArg Host.Outcome.next (takeRequest_answered htakes ?_)
  simp only [State.serveBook, hr, taken_privilege, h, if_true]

theorem exec_book_tableFull (htakes : s.takes p 0x01 body.length = true) (hr : parseRecord body = some r)
    (hrank : r.rank ≤ s.privilege p) (h : s.book.lowestFree = none) :
    exec (.book p body) s = .next (s.answered p 0x01 .tableFull []) := by
  refine congrArg Host.Outcome.next (takeRequest_answered htakes ?_)
  simp only [State.serveBook, hr, taken_privilege, Nat.not_lt.2 hrank, if_false, taken_book, h]

theorem exec_amend_privilege (h1 : 1 ≤ n) (h2 : n ≤ 96) (htakes : s.takes p 0x02 (bs.length + 1) = true)
    (hb : s.booking? n = some b) (hk : b.record.kind.immediate = false) (hr : parseRecord bs = some r)
    (h : s.privilege p < b.record.rank ∨ s.privilege p < r.rank) :
    exec (.amend p (BitVec.ofNat 8 n :: bs)) s = .next (s.answered p 0x02 .privilege []) := by
  refine congrArg Host.Outcome.next (takeRequest_answered htakes ?_)
  simp [State.serveAmend, numberField_cons h1 h2, hb, hk, hr, lt_max_iff.2 h]

theorem exec_withdraw_privilege (h1 : 1 ≤ n) (h2 : n ≤ 96) (htakes : s.takes p 0x03 1 = true)
    (hb : s.booking? n = some b) (h : s.privilege p < b.record.rank) :
    exec (.withdraw p [BitVec.ofNat 8 n]) s = .next (s.answered p 0x03 .privilege []) := by
  refine congrArg Host.Outcome.next (takeRequest_answered htakes ?_)
  simp [State.serveWithdraw, numberField_cons h1 h2, hb, h]

/-! ## Requests that take effect -/

/-- R39: a BOOK of a TEMPORARY booking takes effect, and is answered with its number. -/
theorem exec_book_temporary (htakes : s.takes p 0x01 body.length = true) (hr : parseRecord body = some r)
    (hrank : r.rank ≤ s.privilege p) (hfree : s.book.lowestFree = some n) (hkept : r.kept = false) :
    exec (.book p body) s = .next { (s.taken p).createBooking n r with
      links := (s.answered p 0x01 .done (be 1 n)).links } := by
  refine congrArg Host.Outcome.next ((takeRequest_takes htakes _).trans ?_)
  simp only [State.serveBook, hr, taken_privilege, Nat.not_lt.2 hrank, if_false, taken_book, hfree, hkept,
    Bool.false_eq_true]
  exact respond_of_links (resetPending_of_takes htakes) (createBooking_kept n r _).links ..

section
variable (h1 : 1 ≤ n) (h2 : n ≤ 96) (hb : s.booking? n = some b) (hrank : b.record.rank ≤ s.privilege p)
  (hkept : b.record.kept = false) (hpending : s.store.pendingAt n = false)
include h1 h2 hb hrank hkept hpending

/-- R40: an AMEND that leaves a booking TEMPORARY takes effect. -/
theorem exec_amend_temporary (htakes : s.takes p 0x02 (bs.length + 1) = true) (hk : b.record.kind.immediate = false)
    (hr : parseRecord bs = some r) (hnew : r.rank ≤ s.privilege p) (hkept' : r.kept = false) :
    exec (.amend p (BitVec.ofNat 8 n :: bs)) s = .next { (s.taken p).amendBooking n r with
      links := (s.answered p 0x02 .done []).links } := by
  refine congrArg Host.Outcome.next ((takeRequest_takes htakes _).trans ?_)
  refine (serveAmend_checked h1 h2 hb hk hr hrank hnew).trans ?_
  simp only [State.amendChecked, taken_store, hpending, hkept, hkept', Bool.or_self, Bool.false_and, Bool.false_eq_true,
    if_false]
  exact respond_of_links (resetPending_of_takes htakes) (amendBooking_kept n r _).links ..

/-- R42: a WITHDRAW of a TEMPORARY booking takes effect. -/
theorem exec_withdraw_temporary (htakes : s.takes p 0x03 1 = true) :
    exec (.withdraw p [BitVec.ofNat 8 n]) s = .next { (s.taken p).withdrawNow n with
      links := (s.answered p 0x03 .done []).links } := by
  refine congrArg Host.Outcome.next ((takeRequest_takes htakes _).trans ?_)
  refine (serveWithdraw_checked h1 h2 hb hrank hpending).trans ?_
  simp only [hkept, Bool.false_and, Bool.false_eq_true, if_false]
  exact respond_of_links (resetPending_of_takes htakes) (withdrawNow_kept n _).links ..

end

/-! ## A waiting booking that comes to outrank the active context (R40, R53) -/

/-- R40, R53, R55: the only booking that waits, amended, outranks the active context and starts. -/
theorem amendBooking_starts {c : Context} (hb : s.booking? n = some b) (hdue : b.state = .due)
    (hx : (b.amended r s.time).next ≠ some s.time.second) (hh : s.drive.hush = false) (hl : s.store.loading = false)
    (ha : s.engine.active = some c) (hne : n ≠ c.booking) (hrank : c.rank < r.rank) (hcls : r.cls ≠ .wait)
    (hw : s.engine.waiting = [n]) (hroom : s.engine.stack.length < 3) (hp : s.playable r) :
    ∃ c', (s.amendBooking n r).engine.active = some c' ∧ c'.booking = n ∧ c'.rank = r.rank ∧
      c'.occurrence = b.current ∧ (s.amendBooking n r).engine.waiting = [] ∧
      (s.amendBooking n r).booking? n = some { b.amended r s.time with state := .sounding, waiting := none } := by
  obtain ⟨h1, h2⟩ := booking?_range hb
  obtain ⟨hrecord, -, -, -, -, -, hcurrent, -⟩ := amended_owned (b := b) (r := r) (T := s.time)
  let w := s.setBooking n (b.amended r s.time)
  have hwb : w.booking? n = some (b.amended r s.time) := booking?_setBooking_self h1 h2 _
  have hsorted : w.sortWaiting = w := sortWaiting_of_short (by rw [show w.engine.waiting = [n] from hw]; rfl)
  have hplay : w.playable (b.amended r s.time).record := by
    rw [hrecord]
    exact hp
  have hclearWaiting : (w.clearFor (c.judge r)).engine.waiting = [n] := (clearFor_waiting _ w).trans hw
  have hclearBooking : (w.clearFor (c.judge r)).booking? n = some (b.amended r s.time) :=
    (clearFor_booking?_ne (s := w) ha hne fun _ => hroom).trans hwb
  have hkept := clearFor_kept (c.judge r) w
  have hstarts : s.amendBooking n r = (w.clearFor (c.judge r)).start n := by
    rw [amendBooking_due hb hdue hx, show s.setBooking n (b.amended r s.time) = w from rfl, hsorted]
    exact reconsider_outranks (s := w) hh hl hw ha hwb hplay (by rw [hrecord]) (judge_outranks hrank hcls) hclearWaiting
      hclearBooking
  obtain ⟨pl, st, hstart, -⟩ := start_eq hclearBooking (hplay.congr hkept.ready hkept.library)
  rw [hstarts, hstart]
  refine ⟨_, rfl, rfl, congrArg BookingRecord.rank hrecord, hcurrent, ?_, ?_⟩
  · simp [hclearWaiting]
  · exact booking?_setBooking_self h1 (booking?_range hclearBooking).2 _

end

/-! ## The obligation -/

/-- R42: a booking at rest without a feed of its own leaves its slot alone behind. -/
theorem removeBooking_of_feedless {s : State} {n : Nat} (h : ∀ l, s.live = some l → l.booking ≠ n) :
    s.removeBooking n = s.setSlot n .free := by
  have hfeed : s.live.any (fun l => l.booking == n) = false := by
    cases hs : s.live with
    | none => rfl
    | some l => simp [h l hs]
  unfold State.removeBooking
  rw [hfeed]
  rfl

/-- Settles O27: the answers by the `exec_` lemmas, the effects by `createBooking_rests`, `createBooking_falls`,
`amendBooking_rests`, `amendBooking_falls`, `amendBooking_rePlaced`, `amendBooking_starts` and
`withdrawNow_withdrawn`. -/
theorem temporaryTableRequests : Obligations.TemporaryTableRequests := by
  unfold Obligations.TemporaryTableRequests
  refine ⟨fun s => ⟨rfl, ?_, fun n => lowestFree_eq_some, lowestFree_eq_none⟩,
    fun p body r s htakes hr => ⟨exec_book_privilege htakes hr, exec_book_tableFull htakes hr⟩,
    fun p n bs b r s h1 h2 htakes hb hk hr h => exec_amend_privilege h1 h2 htakes hb hk hr h,
    fun p n b s h1 h2 htakes hb h => exec_withdraw_privilege h1 h2 htakes hb h,
    fun p body r n s htakes hr hrank hfree hkept hnext => ?_,
    fun p body r n s htakes hr hrank hfree hkept henabled hset hfirst => ?_,
    fun p n bs b r s h1 h2 htakes hb hk hbusy hr hrank hnew hkept hkept' hpending hnext => ?_,
    fun p n bs b r s h1 h2 htakes hb hk hr hrank hnew hkept hkept' hpending =>
      ⟨fun hbusy hnext => ?_, fun hdue hnext hwaits hbooked => ?_⟩,
    fun p n b s h1 h2 htakes hb hrank hkept hpending => ⟨fun hbusy hlive => ?_, ?_⟩⟩
  · cases hkey : s.library.key <;> simp [State.privilege, hkey]
  · obtain ⟨h1, h2⟩ := lowestFree_range hfree
    have hfresh := fresh_eq r s.time
    have hrests := createBooking_rests (s := s.taken p) h1 h2 (r := r) (by rw [taken_time, hfresh]; exact hnext)
    rw [exec_book_temporary htakes hr hrank hfree hkept, hrests, taken_time, hfresh]
    rfl
  · obtain ⟨h1, h2⟩ := lowestFree_range hfree
    exact ⟨_, exec_book_temporary htakes hr hrank hfree hkept, rfl,
      createBooking_falls (s := s.taken p) h1 h2 henabled hset hfirst⟩
  · obtain ⟨-, -, howned⟩ := amended_owned (b := b) (r := r) (T := s.time)
    refine ⟨?_, howned⟩
    rw [exec_amend_temporary h1 h2 hb hrank hkept hpending htakes hk hr hnew hkept',
      amendBooking_rests (s := s.taken p) hb hbusy hnext]
    rfl
  · exact ⟨_, exec_amend_temporary h1 h2 hb hrank hkept hpending htakes hk hr hnew hkept', rfl,
      amendBooking_falls (s := s.taken p) hb hbusy hnext⟩
  · have hexec := exec_amend_temporary h1 h2 hb hrank hkept hpending htakes hk hr hnew hkept'
    obtain ⟨-, -, -, -, -, -, hcurrent, hwaiting⟩ := amended_owned (b := b) (r := r) (T := s.time)
    refine ⟨amended_due hdue, hcurrent, hwaiting, fun hheld => ?_,
      fun c m h hhush ha hne hlow hcls hw hroom hready hm hstate hdamaged hknown => ?_⟩
    · exact ⟨_, hexec, rfl, amendBooking_rePlaced (s := s.taken p) hb hdue hnext hbooked hheld⟩
    · have hload := loading_of_takes htakes
      obtain ⟨c', hstarts⟩ := amendBooking_starts (s := s.taken p) hb hdue hnext hhush hload ha
        hne.symm hlow hcls hw hroom ⟨hready, m, h, hm, hstate, hdamaged, hknown⟩
      exact ⟨_, c', hexec, rfl, hstarts⟩
  · rw [exec_withdraw_temporary h1 h2 hb hrank hkept hpending htakes, withdrawNow_rests (s := s.taken p) hb hbusy,
      removeBooking_of_feedless (s := s.taken p) hlive]
    rfl
  · exact ⟨_, exec_withdraw_temporary h1 h2 hb hrank hkept hpending htakes, rfl,
      withdrawNow_withdrawn (s := s.taken p) hb⟩

end Sys2Proof.Machine
end

section
/-! PROOFS. A verified completion (R119, R131–R133, R136, R166, R172): O45. -/

namespace Sys2Proof.Machine

/-! ## A bell record taken (R113, R119) -/

section
variable {s : State} {b : Nat}

theorem modBell_modBell (f g : Bell → Bell) : (s.modBell b f).modBell b g = s.modBell b fun x => g (f x) := by
  unfold State.modBell
  simp only [List.modify_modify_eq]
  rfl

/-- A bell is changed by what is done to it as it stands. -/
theorem modBell_congr {f g : Bell → Bell} (h : f (s.bell b) = g (s.bell b)) : s.modBell b f = s.modBell b g := by
  have hbells : s.drive.bells.modify b f = s.drive.bells.modify b g := by
    refine List.ext_getElem? fun i => ?_
    simp only [List.getElem?_modify]
    by_cases hi : b = i
    · subst hi
      cases hx : s.drive.bells[b]? with
      | none => rfl
      | some x =>
        have hbell : s.bell b = x := by simp [State.bell, List.getD_eq_getElem?_getD, hx]
        simpa [hbell] using h
    · simp [hi]
  unfold State.modBell
  rw [hbells]

theorem bell_modBell_self (h : b < s.drive.bells.length) (f : Bell → Bell) : (s.modBell b f).bell b = f (s.bell b) := by
  simp [State.modBell, State.bell, List.getD_eq_getElem?_getD, h]

theorem bell_modBell_record {f : Bell → Bell} (h : ∀ x, (f x).record = x.record) :
    ((s.modBell b f).bell b).record = (s.bell b).record := by
  by_cases hb : b < s.drive.bells.length
  · rw [bell_modBell_self hb, h]
  · have hsame : s.drive.bells.modify b f = s.drive.bells := by simp [List.modify_eq_self (Nat.not_lt.1 hb)]
    unfold State.modBell
    rw [hsame]

/-- R113: what is done to a bell besides its record is done before or after its entries leave. -/
theorem bellCleared_modBell {f : Bell → Bell} (h : ∀ x, (f x).record = x.record) :
    (s.bellCleared b).modBell b f = (s.modBell b f).bellCleared b := by
  unfold State.bellCleared
  rw [bell_modBell_record h]
  rfl

/-- R119: bell `b` under a new record. -/
def State.bellReplaced (s : State) (b : Nat) (r : BellRecord) : State :=
  let changed := (s.modBell b fun x => { x with
    record := r
    state := if r.present = false then .off else if x.state = .off then .ready else x.state
    cycle := if r.present = true then x.cycle else none
    wentOut := if r.present = true then x.wentOut else s.goneMark x }).bellCleared b
  if (s.bell b).state = .driven ∧ r.present = false then changed.coilFreed else changed

theorem newState_eq (x : Bell) (present : Bool) :
    x.newState present = if present = false then .off else if x.state = .off then .ready else x.state := by
  cases present with
  | false => rfl
  | true => cases hx : x.state <;> simp [Bell.newState, hx]

/-- R119: a bell record taken is the bell replaced, and the arbiter re-evaluates. -/
theorem takeBellRecord_eq (r : BellRecord) : s.takeBellRecord b r = (s.bellReplaced b r).arbiter := by
  have hchanged : ((s.modBell b fun x => { x with record := r }).removeBell b).modBell b (fun x => { x with
        state := (s.bell b).newState r.present
        cycle := if r.present = true then x.cycle else none
        wentOut := if r.present = true then (s.bell b).wentOut else s.outMark (s.bell b) }) =
      (s.modBell b fun x => { x with
        record := r
        state := if r.present = false then .off else if x.state = .off then .ready else x.state
        cycle := if r.present = true then x.cycle else none
        wentOut := if r.present = true then x.wentOut else s.goneMark x }).bellCleared b := by
    rw [removeBell_eq]
    refine (bellCleared_modBell fun x => by rfl).trans (congrArg (State.bellCleared · b) ?_)
    rw [modBell_modBell]
    refine modBell_congr ?_
    rw [newState_eq, outMark_eq]
  unfold State.takeBellRecord State.bellReplaced
  simp only [hchanged, coilOff_eq, Bool.not_eq_true']

/-! ## Drive settings taken (R131–R133, R136) -/

/-- R131, R133, R136: drive settings with the level they give and the K they leave. -/
def State.settingsTaken (s : State) (d : DriveSettings) : State :=
  let new := bankStep s.drive.level d.low d.critical s.drive.measurement
  ({ s with drive := { s.drive with
      low := d.low, critical := d.critical, level := new
      k := if d.k < s.drive.k ∧ d.k < s.drive.energised then s.drive.k else d.k
      requestedK := if d.k < s.drive.k ∧ d.k < s.drive.energised then some d.k else none } } : State).raiseIf
    (s.drive.level != new) .drive

theorem takeDriveSettings_eq (d : DriveSettings) : s.takeDriveSettings d = (s.settingsTaken d).arbiter := by
  unfold State.takeDriveSettings State.settingsTaken State.classify Drive.takeK
  by_cases h : s.drive.k ≤ d.k ∨ s.drive.energised ≤ d.k
  · have hwaits : ¬ (d.k < s.drive.k ∧ d.k < s.drive.energised) := by omega
    simp only [h, hwaits, if_true, if_false]
  · have hwaits : d.k < s.drive.k ∧ d.k < s.drive.energised := by omega
    simp only [h, hwaits, and_self, if_true, if_false]

end

/-! ## The completion (R172) -/

/-- R166, R172: the place of a job as a verified operation leaves it. -/
def State.placed (s : State) (job : StoreJob) : State :=
  { s with store := { s.store with places := s.store.places.verified job } }

theorem takeBellRecord_frame (b : Nat) (r : BellRecord) (s : State) :
    (s.takeBellRecord b r).time = s.time ∧ (s.takeBellRecord b r).links = s.links ∧
      (s.takeBellRecord b r).store.places = s.store.places := by
  have hkept := arbiter_kept (s.bellReplaced b r)
  have hframe : (s.bellReplaced b r).time = s.time ∧ (s.bellReplaced b r).links = s.links ∧
      (s.bellReplaced b r).store = s.store := by
    unfold State.bellReplaced
    dsimp only
    split <;> exact ⟨rfl, rfl, rfl⟩
  obtain ⟨htime, hlinks, hstore⟩ := hframe
  rw [takeBellRecord_eq, hkept.time, hkept.links, hkept.places, htime, hlinks, hstore]
  exact ⟨rfl, rfl, rfl⟩

theorem takeDriveSettings_frame (d : DriveSettings) (s : State) :
    (s.takeDriveSettings d).time = s.time ∧ (s.takeDriveSettings d).links = s.links ∧
      (s.takeDriveSettings d).store.places = s.store.places := by
  have hkept := arbiter_kept (s.settingsTaken d)
  rw [takeDriveSettings_eq, hkept.time, hkept.links, hkept.places]
  exact ⟨raiseIf_time .., raiseIf_links .., congrArg Store.places (raiseIf_store ..)⟩

/-- R172: what the owner makes of a verified result leaves the time, the links and the places. -/
theorem applyVerified_frame (job : StoreJob) (s : State) :
    (s.applyVerified job).time = s.time ∧ (s.applyVerified job).links = s.links ∧
      (s.applyVerified job).store.places = s.store.places := by
  have hofKept {t : State} (h : Kept s t) : t.time = s.time ∧ t.links = s.links ∧ t.store.places = s.store.places :=
    ⟨h.time, h.links, h.places⟩
  cases job with
  | book n r => exact hofKept (createBooking_kept n r s)
  | amend n r => exact hofKept (amendBooking_kept n r s)
  | withdraw n => exact hofKept (withdrawNow_kept n s)
  | setBell b r =>
    have hsettle := settle_kept (s.takeBellRecord b r)
    obtain ⟨htime, hlinks, hplaces⟩ := takeBellRecord_frame b r s
    exact ⟨hsettle.time.trans htime, hsettle.links.trans hlinks, hsettle.places.trans hplaces⟩
  | setDrive d =>
    have hsettle := settle_kept (s.takeDriveSettings d)
    obtain ⟨htime, hlinks, hplaces⟩ := takeDriveSettings_frame d s
    exact ⟨hsettle.time.trans htime, hsettle.links.trans hlinks, hsettle.places.trans hplaces⟩
  | _ => exact ⟨rfl, rfl, rfl⟩

section
variable {s : State} {job : StoreJob} {p : Port} (hop : s.store.op = some ⟨job, p, true⟩)
  (hstate : s.store.state = .programming ∨ s.store.state = .erasing) (hsuspend : s.store.suspending = false)
  (hreset : s.links.resetPending = false)
include hop hstate hsuspend hreset

/-- R172: a verified completion: the owner applies the result, the store is IDLE, the port gets DONE. -/
theorem exec_verified : exec (.storeCompletion .verified) s = .next {
    ((s.placed job).applyVerified job).storeIdle with
    links := (s.modPort p fun q => { q with ready := q.ready ++ [⟨.done, job.code, job.answerBody⟩] }).links } := by
  obtain ⟨-, hlinks, -⟩ := applyVerified_frame job (s.placed job)
  exact (exec_storeCompletion hop hstate hsuspend .verified).trans (congrArg Host.Outcome.next
    (respond_completed (p := p) hreset (t := ((s.placed job).applyVerified job).storeIdle) hlinks _ _ _))

/-- R172: the completion of a job whose result is taken as at a fire time. -/
theorem exec_verified_completed (hbody : job.answerBody = []) {u : State}
    (happly : (s.placed job).applyVerified job = u.arbiter.settle) :
    ∃ v : State, exec .fireTimeReached u = .next v ∧ exec (.storeCompletion .verified) s = .next
      (({ v with store := { v.store with state := .idle, op := none, suspending := false } } : State).modPort p
        fun q => { q with ready := q.ready ++ [⟨.done, job.code, []⟩] }) := by
  obtain ⟨-, hlinks, -⟩ := applyVerified_frame job (s.placed job)
  have hopen : ((s.placed job).applyVerified job).storeIdle.links.resetPending = false := by
    rw [storeIdle_links, hlinks]
    exact hreset
  refine ⟨_, rfl, (exec_storeCompletion hop hstate hsuspend .verified).trans (congrArg Host.Outcome.next ?_)⟩
  have hrespond := respond_eq p job.code .done job.answerBody _ hopen
  rw [happly, hbody] at hrespond
  refine Eq.trans ?_ hrespond
  rw [← happly, ← hbody]
  rfl

end

/-! ## With nothing planned and nothing at play -/

section
variable {s : State} (hquiet : s.quiet = true)
include hquiet

theorem bellReplaced_quiet (b : Nat) (r : BellRecord) :
    (s.bellReplaced b r).planner.queue = [] ∧ (s.bellReplaced b r).engine = s.engine ∧
      (s.bellReplaced b r).book = s.book ∧ (s.bellReplaced b r).live = s.live := by
  obtain ⟨hactive, -, -, hqueue⟩ := (quiet_iff s).1 hquiet
  have hengine : { s.engine with active := (none : Option Context) } = s.engine := by rw [← hactive]
  unfold State.bellReplaced State.bellCleared State.coilFreed
  simp only [modBell_planner, modBell_engine, hqueue, hactive, Option.map_none, List.filter_nil, hengine]
  split <;> exact ⟨rfl, rfl, rfl, rfl⟩

/-- R113, R119: with nothing planned and nothing at play a bell is replaced and that is all. -/
theorem takeBellRecord_quiet (b : Nat) (r : BellRecord) :
    (s.takeBellRecord b r).settle = s.bellReplaced b r := by
  obtain ⟨hqueue, hengine, -, -⟩ := bellReplaced_quiet hquiet b r
  obtain ⟨hactive, -, -, -⟩ := (quiet_iff s).1 hquiet
  rw [takeBellRecord_eq, arbiter_nil _ hqueue, settle_of_inactive _ (by rw [hengine, hactive])]

theorem takeDriveSettings_quiet (d : DriveSettings) : (s.takeDriveSettings d).settle = s.settingsTaken d := by
  obtain ⟨hactive, -, -, hqueue⟩ := (quiet_iff s).1 hquiet
  have hqueue' : (s.settingsTaken d).planner.queue = [] := (congrArg Planner.queue (raiseIf_planner ..)).trans hqueue
  have hactive' : (s.settingsTaken d).engine.active = none := (congrArg Engine.active (raiseIf_engine ..)).trans hactive
  rw [takeDriveSettings_eq, arbiter_nil _ hqueue', settle_of_inactive _ hactive']

end

/-- R119: the record and the state of a bell whose record is taken, with nothing at play. -/
theorem applyVerified_bell {s : State} (hquiet : s.quiet = true) {b : Nat} (h : b < s.drive.bells.length)
    (r : BellRecord) : ((s.applyVerified (.setBell b r)).bell b).record = r ∧
      (r.present = false → ((s.applyVerified (.setBell b r)).bell b).state = .off) ∧
      (r.present = true → (s.bell b).state = .off → ((s.applyVerified (.setBell b r)).bell b).state = .ready) ∧
      (r.present = true → (s.bell b).state ≠ .off →
        ((s.applyVerified (.setBell b r)).bell b).state = (s.bell b).state) := by
  have hbell := bell_modBell_self h fun x => { x with
    record := r
    state := if r.present = false then .off else if x.state = .off then .ready else x.state
    cycle := if r.present = true then x.cycle else none
    wentOut := if r.present = true then x.wentOut else s.goneMark x }
  have hreplaced : ((s.bellReplaced b r).bell b).record = r ∧ ((s.bellReplaced b r).bell b).state =
      if r.present = false then .off else if (s.bell b).state = .off then .ready else (s.bell b).state := by
    unfold State.bellReplaced
    dsimp only
    split <;> exact ⟨congrArg Bell.record hbell, congrArg Bell.state hbell⟩
  obtain ⟨hrecord, hnew⟩ := hreplaced
  rw [State.applyVerified, takeBellRecord_quiet hquiet, hrecord, hnew]
  refine ⟨rfl, fun hp => if_pos hp, fun hp hoff => ?_, fun hp hoff => ?_⟩ <;> simp [hp, hoff]

/-- R131, R136: the thresholds are those of the settings; K is too, unless it is lower and more coils are on. -/
theorem applyVerified_drive {s : State} (hquiet : s.quiet = true) (d : DriveSettings) :
    (s.applyVerified (.setDrive d)).drive.low = d.low ∧ (s.applyVerified (.setDrive d)).drive.critical = d.critical ∧
      (s.drive.energised ≤ d.k → (s.applyVerified (.setDrive d)).drive.k = d.k ∧
        (s.applyVerified (.setDrive d)).drive.requestedK = none) ∧
      (d.k < s.drive.energised → d.k < s.drive.k → (s.applyVerified (.setDrive d)).drive.k = s.drive.k ∧
        (s.applyVerified (.setDrive d)).drive.requestedK = some d.k) := by
  rw [State.applyVerified, takeDriveSettings_quiet hquiet]
  unfold State.settingsTaken
  rw [raiseIf_drive]
  refine ⟨rfl, rfl, fun h => ?_, fun h h' => ?_⟩
  · exact ⟨if_neg fun hwaits => Nat.not_lt.2 h hwaits.2, if_neg fun hwaits => Nat.not_lt.2 h hwaits.2⟩
  · exact ⟨if_pos ⟨h', h⟩, if_pos ⟨h', h⟩⟩

/-- R172: a result that is not a change of the table leaves the table and the performances, with nothing at play. -/
theorem applyVerified_tables {s : State} (hquiet : s.quiet = true) {job : StoreJob} (hbook : ∀ n r, job ≠ .book n r)
    (hamend : ∀ n r, job ≠ .amend n r) (hwithdraw : ∀ n, job ≠ .withdraw n) :
    (s.applyVerified job).book = s.book ∧ (s.applyVerified job).engine = s.engine ∧
      (s.applyVerified job).live = s.live := by
  cases job with
  | book n r => exact absurd rfl (hbook n r)
  | amend n r => exact absurd rfl (hamend n r)
  | withdraw n => exact absurd rfl (hwithdraw n)
  | setBell b r =>
    obtain ⟨-, hengine, hbook, hlive⟩ := bellReplaced_quiet hquiet b r
    rw [State.applyVerified, takeBellRecord_quiet hquiet]
    exact ⟨hbook, hengine, hlive⟩
  | setDrive d =>
    rw [State.applyVerified, takeDriveSettings_quiet hquiet]
    exact ⟨raiseIf_book .., raiseIf_engine .., raiseIf_live ..⟩
  | _ => exact ⟨rfl, rfl, rfl⟩

/-- Settles O45: a completion is what its owner makes of the result (`exec_verified`): the table's changes as
`createBooking_falls`, `amendBooking_rePlaced` and their like say, `takeBellRecord_eq` and `takeDriveSettings_eq`. -/
theorem verifiedCompletionApplies : Obligations.VerifiedCompletionApplies := by
  unfold Obligations.VerifiedCompletionApplies
  refine ⟨fun p s hstate hsuspend hreset => ⟨fun n r hop h1 h2 henabled hset hfirst => ?_, fun n r b hop hb =>
    ⟨fun hbusy hnext => ?_, fun hdue hnext hwaits hbooked hheld => ?_⟩, fun n b hop hb => ?_, fun b r hop => ?_,
    fun d hop => ?_⟩, fun job p s hop hstate hsuspend hreset hquiet => ?_⟩
  · exact ⟨_, exec_verified hop hstate hsuspend hreset, rfl, rfl,
      createBooking_falls (s := s.placed (.book n r)) h1 h2 henabled hset hfirst⟩
  · exact ⟨_, exec_verified hop hstate hsuspend hreset, rfl, rfl,
      amendBooking_falls (s := s.placed (.amend n r)) hb hbusy hnext⟩
  · exact ⟨_, exec_verified hop hstate hsuspend hreset, rfl, rfl,
      amendBooking_rePlaced (s := s.placed (.amend n r)) hb hdue hnext hbooked hheld⟩
  · exact ⟨_, exec_verified hop hstate hsuspend hreset, rfl, rfl,
      withdrawNow_withdrawn (s := s.placed (.withdraw n)) hb⟩
  · exact exec_verified_completed hop hstate hsuspend hreset rfl (congrArg State.settle (takeBellRecord_eq r))
  · refine exec_verified_completed hop hstate hsuspend hreset rfl (congrArg State.settle ?_)
    exact takeDriveSettings_eq d
  · have hq : (s.placed job).quiet = true := hquiet
    obtain ⟨htime, -, hplaces⟩ := applyVerified_frame job (s.placed job)
    refine ⟨_, exec_verified hop hstate hsuspend hreset, rfl, rfl, htime, rfl, hplaces, ?_, ?_, ?_,
      fun hbook hamend hwithdraw => applyVerified_tables hq hbook hamend hwithdraw, ?_, ?_, ?_, ?_, ?_, ?_⟩
    · rintro n r rfl h1 h2 next hnext
      have hfresh := fresh_eq r s.time
      have hrests := createBooking_rests (s := s.placed (.book n r)) h1 h2 (r := r)
        (fun hnow => hnext ((congrArg Booking.next hfresh).symm.trans hnow))
      have hengine := congrArg State.engine hrests
      have hbook := congrArg State.book hrests
      exact ⟨hengine, hbook.trans (congrArg (fun x => s.book.setSlot n (.occupied x)) hfresh)⟩
    · rintro n r b rfl hb hbusy b' hnext
      have hrests := amendBooking_rests (s := s.placed (.amend n r)) hb hbusy hnext
      have hengine := congrArg State.engine hrests
      have hbook := congrArg State.book hrests
      exact ⟨hengine, hbook, amended_owned⟩
    · rintro n b rfl hb hbusy
      have hrests := withdrawNow_rests (s := s.placed (.withdraw n)) hb hbusy
      have hengine := congrArg State.engine hrests
      have hbook := congrArg State.book hrests
      exact ⟨hengine, hbook⟩
    · rintro m h rfl hm
      have hslot := melody_modMelody_self (s := s.placed (.define m h)) hm fun _ => .defined h
      exact ⟨congrArg MelodySlot.header hslot, congrArg MelodySlot.pending hslot, congrArg MelodySlot.damaged hslot,
        congrArg MelodySlot.positions hslot,
        fun n hn => (congrArg MelodySlot.state hslot).trans (by simp [MelodySlot.defined, hn]),
        fun a b c d hd => (congrArg MelodySlot.state hslot).trans (by simp [MelodySlot.defined, hd])⟩
    · rintro m i bytes rfl hm
      have hslot := melody_modMelody_self (s := s.placed (.segment m i bytes)) hm (·.segmentDone i .present)
      exact ⟨congrArg MelodySlot.positions hslot, congrArg MelodySlot.pending hslot,
        fun hall => (congrArg MelodySlot.state hslot).trans (if_pos hall)⟩
    · rintro m rfl hm
      exact melody_modMelody_self (s := s.placed (.erase m)) hm fun _ => .initial
    · rintro r rfl
      exact ⟨rfl, congrArg Places.copyA hplaces, congrArg Places.copyB hplaces⟩
    · rintro b r rfl hb
      have hbell := applyVerified_bell hq hb r
      unfold State.bell at hbell ⊢
      exact hbell
    · rintro d rfl
      exact applyVerified_drive hq d

end Sys2Proof.Machine
end

section
/-! PROOFS. A second boundary (R25, R27–R30): O24. -/

namespace Sys2Proof.Machine

/-! ## One booking at a second boundary -/

section
variable {n : Nat} {b : Booking} {u : State}

theorem boundaryOne_armed (hs : b.state = .armed) : u.boundaryOne n b = u.fallDueAt n b := by
  simp [State.boundaryOne, hs]

/-- R28: past its patience a waiting booking is missed, and an occurrence that comes now is as an ARMED one's. -/
theorem boundaryOne_impatient {w : Nat} (hs : b.state = .due) (hw : b.waiting = some w)
    (hp : b.record.patience < w + 1) :
    u.boundaryOne n b = ((u.leaveWaiting n).disposeWaiting n .patience).fallDueIfArmed n := by
  simp [State.boundaryOne, hs, hw, hp]

/-- R29: within its patience the waiting occurrence gives way to one that comes now. -/
theorem boundaryOne_replaced {w : Nat} (hs : b.state = .due) (hw : b.waiting = some w) (hp : w + 1 ≤ b.record.patience)
    (hx : b.next = some u.time.second) :
    u.boundaryOne n b = ((u.setBooking n (b.takeNewOccurrence u.time)).raise .outcome, false) := by
  simp [State.boundaryOne, hs, hw, Nat.not_lt.2 hp, hx]

/-- R28: a waiting second is counted. -/
theorem boundaryOne_waits {w : Nat} (hs : b.state = .due) (hw : b.waiting = some w) (hp : w + 1 ≤ b.record.patience)
    (hx : b.next ≠ some u.time.second) :
    u.boundaryOne n b = (u.setBooking n { b with waiting := some (w + 1) }, false) := by
  simp [State.boundaryOne, hs, hw, Nat.not_lt.2 hp, hx]

/-- R27: an occurrence of a booking at play is missed. -/
theorem boundaryOne_sounding (hs : b.state = .sounding ∨ b.state = .suspended) (hx : b.next = some u.time.second) :
    u.boundaryOne n b = ((u.setBooking n ((b.missSounding u.time.second).renext u.time)).raise .outcome, false) := by
  rcases hs with hs | hs <;> simp [State.boundaryOne, hs, hx]

/-- A booking at rest that does not come to its next occurrence is left alone. -/
theorem boundaryOne_inert (hb : b.busy = false) (hx : b.next ≠ some u.time.second) : u.boundaryOne n b = (u, false) := by
  cases hs : b.state <;> simp_all [State.boundaryOne, State.fallDueAt, Booking.busy]

theorem fallDueAt_only (hn : 1 ≤ n) : OnlyBooking n u (u.fallDueAt n b).1 := by
  unfold State.fallDueAt
  split
  · exact setBooking_only hn _ u
  · exact .refl n u

theorem fallDueIfArmed_only (hn : 1 ≤ n) : OnlyBooking n u (u.fallDueIfArmed n).1 := by
  unfold State.fallDueIfArmed
  split
  · exact .refl n u
  · split
    · exact fallDueAt_only hn
    · exact .refl n u

theorem fallDueAt_engine : (u.fallDueAt n b).1.engine = u.engine := by
  unfold State.fallDueAt
  split <;> rfl

theorem fallDueIfArmed_engine : (u.fallDueIfArmed n).1.engine = u.engine := by
  unfold State.fallDueIfArmed
  split
  · rfl
  · split
    · exact fallDueAt_engine
    · rfl

/-- R28: nothing but the end of a booking's patience changes the engine, and then its own number leaves. -/
theorem boundaryOne_engine : (u.boundaryOne n b).1.engine =
    if b.state = .due ∧ b.record.patience < b.waiting.getD 0 + 1 then (u.leaveWaiting n).engine else u.engine := by
  cases hs : b.state with
  | armed => simp [State.boundaryOne, hs, fallDueAt_engine]
  | due =>
    by_cases hp : b.record.patience < b.waiting.getD 0 + 1
    · simp [State.boundaryOne, hs, hp, fallDueIfArmed_engine, State.disposeWaiting]
    · simp only [State.boundaryOne, hs, hp, and_false, if_false]
      split <;> rfl
  | sounding | suspended =>
    simp only [State.boundaryOne, hs, reduceCtorEq, false_and, if_false]
    split <;> rfl
  | dormant | spent => simp [State.boundaryOne, hs]

end

theorem boundaryOne_oneByOne : OneByOne State.boundaryOne where
  kept := boundaryOne_kept
  only n b s hn := by
    unfold State.boundaryOne
    dsimp only
    split
    · exact fallDueAt_only hn
    · split
      · exact ((leaveWaiting_only n s).trans (dispose_only hn ..)).trans (fallDueIfArmed_only hn)
      · split
        · exact setBooking_raise_only hn _ _ s
        · exact setBooking_only hn _ s
    · split
      · exact setBooking_raise_only hn _ _ s
      · exact .refl n s
    · split
      · exact setBooking_raise_only hn _ _ s
      · exact .refl n s
    · exact .refl n s
    · exact .refl n s

/-! ## A booking that waits on through the pass -/

/-- Dealing with a booking takes a number out of the list only if it is its own, past its patience. -/
theorem boundary_one_waits {n m : Nat} {b : Booking} {p : Pass} (hb : m = n → p.1.booking? n = some b)
    (hp : ¬ (b.state = .due ∧ b.record.patience < b.waiting.getD 0 + 1)) (h : n ∈ p.1.engine.waiting) :
    n ∈ (Pass.one State.boundaryOne p m).1.engine.waiting := by
  unfold Pass.one
  split
  · exact h
  · rename_i x hx
    have hone : n ∈ (p.1.boundaryOne m x).1.engine.waiting := by
      rw [boundaryOne_engine]
      split
      · rename_i himpatient
        have hne : n ≠ m := by
          rintro rfl
          cases (hb rfl).symm.trans hx
          exact hp himpatient
        simpa [State.leaveWaiting, hne] using h
      · exact h
    split <;> rename_i t ht <;> rwa [ht] at hone

/-- R28: a booking within its patience keeps its place in the list at a second boundary. -/
theorem boundary_pass_waits {s : State} {n : Nat} {b : Booking} (hb : s.booking? n = some b)
    (hp : ¬ (b.state = .due ∧ b.record.patience < b.waiting.getD 0 + 1)) (h : n ∈ s.engine.waiting) :
    n ∈ (s.pass State.boundaryOne).1.engine.waiting := by
  have hfold (l : List Nat) (hl : l.Nodup) (hpos : ∀ m ∈ l, 1 ≤ m) (p : Pass)
      (hat : n ∈ l → p.1.booking? n = some b) (hw : n ∈ p.1.engine.waiting) :
      n ∈ (l.foldl (Pass.one State.boundaryOne) p).1.engine.waiting := by
    induction l generalizing p with
    | nil => exact hw
    | cons m l ih =>
      obtain ⟨hm, hrest⟩ := List.nodup_cons.1 hl
      refine ih hrest (fun k hk => hpos k (List.mem_cons_of_mem m hk)) _ (fun hn => ?_)
        (boundary_one_waits (fun hmn => hat (hmn ▸ List.mem_cons_self)) hp hw)
      have hne : n ∉ [m] := fun hnm => hm (List.mem_singleton.1 hnm ▸ hn)
      have hone : ∀ k ∈ [m], 1 ≤ k := fun k hk => hpos k (List.mem_singleton.1 hk ▸ List.mem_cons_self)
      obtain ⟨-, hsame, -⟩ := passed_over boundaryOne_oneByOne hone hne p
      exact hsame.trans (hat (List.mem_cons_of_mem m hn))
  unfold State.pass
  exact hfold slotNumbers slotNumbers_sound.1 (fun m hm => (mem_slotNumbers.1 hm).1) (s, []) (fun _ => hb) h

/-! ## The boundary under HUSH -/

/-- R3: the state at the next calendar second, its count of µs at `rest`. -/
def State.nextSecond (s : State) (rest : Nat) : State :=
  { s with time := { s.time with sub := rest, second := s.time.second + 1 } }

/-- R3, R25: the normal advance at the end of a second is a second boundary. -/
theorem exec_secondBoundary {s : State} {rest : Nat} (hsub : 1000000 ≤ s.time.sub)
    (hrest : s.time.sub - 1000000 = rest) (hlt : s.time.second + 1 < 36525 * 86400) (hstate : s.time.state ≠ .unset) :
    exec .normalAdvance s = .next (s.nextSecond rest).secondBoundary := by
  have hadvance := advanceSecond_of_lt (s := { s with time := { s.time with sub := rest } }) hlt
  rw [exec_normalAdvance, normalAdvance_of_le hsub hrest, hadvance, if_neg hstate]
  rfl

section
variable {s : State} {n : Nat} {b : Booking} (hl : s.store.loading = false) (hh : s.drive.hush = true)
  (hb : s.booking? n = some b)
include hl hh hb

/-- Under HUSH a second boundary leaves a booking as dealing with it at the new second does. -/
theorem boundary_dealt (hn : n ≤ 96) : dealtWith s.time n b (State.boundaryOne n b) s.secondBoundary := by
  obtain ⟨u, hk, hu, hbook, hwait, -⟩ := report_booking boundaryOne_oneByOne (.inl hh) hl hb hn
  exact ⟨u, hk.time, hu, hbook, hwait⟩

/-- R25, R51: who waits after the pass waits after the report. -/
theorem boundary_waits (hp : ¬ (b.state = .due ∧ b.record.patience < b.waiting.getD 0 + 1))
    (h : n ∈ s.engine.waiting) : n ∈ s.secondBoundary.engine.waiting := by
  have hpass := boundary_pass_waits hb hp h
  have hsorted : n ∈ (s.pass State.boundaryOne).1.sortWaiting.engine.waiting := (sortWaiting_perm _).mem_iff.2 hpass
  have hreport : s.secondBoundary =
      (s.pass State.boundaryOne).1.sortWaiting.handGroup (s.pass State.boundaryOne).2 := by
    simp [State.secondBoundary, State.report, hl]
  rw [hreport]
  by_cases hnil : (s.pass State.boundaryOne).2 = []
  · rw [hnil]
    exact hsorted
  · have hhush : (s.pass State.boundaryOne).1.sortWaiting.drive.hush = true := by
      rw [sortWaiting_drive, (pass_kept _ boundaryOne_kept s).hush, hh]
    rw [handGroup_of_hush hhush hnil]
    exact mem_joinWaiting.2 (.inl hsorted)

end

/-! ## A booking dealt with -/

section
variable {T : TowerTime} {n : Nat} {b : Booking} {t : State} (h : dealtWith T n b (State.boundaryOne n b) t)
include h

/-- R25: an ARMED booking falls due at its next occurrence. -/
theorem boundary_fallsDue (hs : b.state = .armed) (hx : b.next = some T.second) :
    n ∈ t.engine.waiting ∧ t.booking? n = some (b.fallDue T) := by
  obtain ⟨hbook, hwait⟩ := h.written (b' := b.fallDue T) (due := true) fun u hu => by
    subst hu
    simp [boundaryOne_armed hs, State.fallDueAt, hx]
  exact ⟨hwait rfl, hbook⟩

theorem boundary_armed_same (hs : b.state = .armed) (hx : b.next ≠ some T.second) : t.booking? n = some b := by
  obtain ⟨u, rfl, hu, hbook, -⟩ := h
  rw [hbook, boundaryOne_inert (by simp [Booking.busy, hs]) hx]
  exact hu

/-- R28: a waiting second is counted. -/
theorem boundary_counts {w : Nat} (hs : b.state = .due) (hw : b.waiting = some w) (hp : w + 1 ≤ b.record.patience)
    (hx : b.next ≠ some T.second) : t.booking? n = some { b with waiting := some (w + 1) } := by
  obtain ⟨hbook, -⟩ := h.written (b' := { b with waiting := some (w + 1) }) (due := false) fun u hu => by
    subst hu
    exact boundaryOne_waits hs hw hp hx
  exact hbook

/-- R29: the waiting occurrence gives way to the new one. -/
theorem boundary_replaced {w : Nat} (hs : b.state = .due) (hw : b.waiting = some w) (hp : w + 1 ≤ b.record.patience)
    (hx : b.next = some T.second) : t.booking? n = some (b.takeNewOccurrence T) := by
  obtain ⟨u, rfl, hu, hbook, -⟩ := h
  rw [boundaryOne_replaced hs hw hp hx] at hbook
  exact hbook.trans (booking?_setBooking hu _)

/-- R27: an occurrence of a booking at play is missed. -/
theorem boundary_sounding (hs : b.state = .sounding ∨ b.state = .suspended) (hx : b.next = some T.second) :
    t.booking? n = some ((b.missSounding T.second).renext T) := by
  obtain ⟨u, rfl, hu, hbook, -⟩ := h
  rw [boundaryOne_sounding hs hx] at hbook
  exact hbook.trans (booking?_setBooking hu _)

/-- R28, R29, step 1: past its patience a booking is missed, whether or not it falls due again at once. -/
theorem boundary_impatient {w : Nat} (hs : b.state = .due) (hw : b.waiting = some w) (hp : b.record.patience < w + 1)
    (hk : b.record.kind.immediate = false) : ∃ b', t.booking? n = some b' ∧ b'.unread = true ∧
      b'.missed = min 65535 (b.missed + 1) ∧
      b'.lastOutcome = some ⟨.missed, some .patience, b.current, ⟨0, 0, 0, 0⟩⟩ := by
  obtain ⟨u, rfl, hu, hbook, -⟩ := h
  have hleft : (u.leaveWaiting n).booking? n = some b := hu
  have hmissed := dispose_goesOn hleft hk .missed (some .patience) .zero
  rw [boundaryOne_impatient hs hw hp] at hbook
  unfold State.disposeWaiting State.fallDueIfArmed State.fallDueAt at hbook
  simp only [hmissed] at hbook
  split at hbook
  · split at hbook
    · exact ⟨_, hbook.trans (booking?_setBooking hmissed _), rfl, rfl, rfl⟩
    · exact ⟨_, hbook.trans hmissed, rfl, rfl, rfl⟩
  · exact ⟨_, hbook.trans hmissed, rfl, rfl, rfl⟩

end

/-! ## A boundary that one booking falls due at -/

/-- A pass whose dealing with one booking makes it due, and with any other leaves the state alone. -/
theorem pass_single {f : Nat → Booking → State → State × Bool} {s t : State} {n : Nat} {b : Booking}
    (hn : n ≤ Config.bookingSlots) (hb : s.booking? n = some b) (hone : f n b s = (t, true))
    (hbefore : ∀ k x, k ≠ n → s.booking? k = some x → f k x s = (s, false))
    (hafter : ∀ k x, k ≠ n → t.booking? k = some x → f k x t = (t, false)) : s.pass f = (t, [n]) := by
  have hinert (u : State) (hu : ∀ k x, k ≠ n → u.booking? k = some x → f k x u = (u, false)) (l : List Nat)
      (hl : n ∉ l) (due : List Nat) : l.foldl (Pass.one f) (u, due) = (u, due) := by
    induction l with
    | nil => rfl
    | cons k l ih =>
      have hk : k ≠ n := fun h => hl (h ▸ List.mem_cons_self)
      have hstep : Pass.one f (u, due) k = (u, due) := by
        unfold Pass.one
        cases hx : u.booking? k with
        | none => rfl
        | some x => simp [hu k x hk hx]
      rw [List.foldl_cons, hstep, ih fun h => hl (List.mem_cons_of_mem k h)]
  obtain ⟨before, after, hsplit⟩ := List.append_of_mem (mem_slotNumbers.2 ⟨(booking?_range hb).1, hn⟩)
  have hnodup := slotNumbers_sound.1
  rw [hsplit, List.nodup_append, List.nodup_cons] at hnodup
  obtain ⟨-, ⟨hnafter, -⟩, hdisjoint⟩ := hnodup
  have hnbefore : n ∉ before := fun h => hdisjoint n h n List.mem_cons_self rfl
  have hown : Pass.one f (s, []) n = (t, [n]) := by simp [Pass.one, hb, hone]
  rw [State.pass, hsplit, List.foldl_append, hinert s hbefore before hnbefore, List.foldl_cons, hown,
    hinert t hafter after hnafter]

/-- R25, R52–R55: at a boundary that one ARMED booking falls due at, with nothing else at play or waiting, it
starts. -/
theorem boundary_starts {s : State} {n : Nat} {b : Booking} (hn : n ≤ 96) (hl : s.store.loading = false)
    (hh : s.drive.hush = false) (hidle : s.engine = ⟨none, [], []⟩) (hb : s.booking? n = some b)
    (hs : b.state = .armed) (hx : b.next = some s.time.second) (hp : s.playable b.record)
    (hothers : ∀ k x, k ≠ n → s.booking? k = some x → x.busy = false ∧ x.next ≠ some s.time.second) :
    ∃ pl st, s.secondBoundary = { s with
      engine := ⟨some (s.newContext n (b.fallDue s.time)), [], []⟩
      book := s.book.setSlot n (.occupied (b.fallDue s.time).begun), player := pl, store := st } := by
  obtain ⟨h1, h2⟩ := booking?_range hb
  let w := s.setBooking n (b.fallDue s.time)
  have hw : w.booking? n = some (b.fallDue s.time) := booking?_setBooking_self h1 h2 _
  have hinert : ∀ k x, k ≠ n → s.booking? k = some x → s.boundaryOne k x = (s, false) := fun k x hk hkx => by
    obtain ⟨hbusy, hnext⟩ := hothers k x hk hkx
    exact boundaryOne_inert hbusy hnext
  have hinert' : ∀ k x, k ≠ n → w.booking? k = some x → w.boundaryOne k x = (w, false) := fun k x hk hkx => by
    obtain ⟨hbusy, hnext⟩ := hothers k x hk ((booking?_setBooking_ne h1 hk _).symm.trans hkx)
    exact boundaryOne_inert hbusy hnext
  have hone : s.boundaryOne n b = (w, true) := by simp [boundaryOne_armed hs, State.fallDueAt, hx, w]
  have hpass : s.pass State.boundaryOne = (w, [n]) := pass_single hn hb hone hinert hinert'
  have hempty : w.engine.waiting = [] := congrArg Engine.waiting hidle
  have hsorted : w.sortWaiting = w := sortWaiting_of_short (by simp [hempty])
  obtain ⟨pl, st, hstart⟩ := handGroup_idle_starts (s := w) hidle hh hl hw hp
  refine ⟨pl, st, ?_⟩
  have hreport : s.secondBoundary = w.handGroup [n] := by
    simp only [State.secondBoundary, State.report, hl, hpass, hsorted]
    rfl
  rw [hreport, hstart]
  simp only [w, State.setBooking, State.setSlot, setSlot_setSlot]
  rfl

/-- Settles O24: under HUSH each booking is as dealing with it leaves it (`boundary_dealt`, `boundary_waits`); with
HUSH released the one that falls due starts (`boundary_starts`). -/
theorem secondBoundaryUnderHush : Obligations.SecondBoundaryUnderHush := by
  unfold Obligations.SecondBoundaryUnderHush
  refine ⟨fun n b s hsub hlt hstate hl hh hn hb => ?_,
    fun n m b h s hsub hlt hstate hl hh hready hidle hn hb hs hx hm hcomplete hdamaged hknown hothers => ?_⟩
  all_goals generalize hrest : s.time.sub - 1000000 = rest
  · have hdealt := boundary_dealt (s := s.nextSecond rest) hl hh hb hn
    refine ⟨_, exec_secondBoundary hsub hrest hlt hstate, (report_kept _ boundaryOne_kept _).time, fun hs hx => ?_,
      fun hs hx => boundary_armed_same hdealt hs hx, fun w hs hw hp hx => boundary_counts hdealt hs hw hp hx,
      fun w hs hw hp hx => ⟨?_, ?_⟩, fun w hs hw hp hk => boundary_impatient hdealt hs hw hp hk, fun hs hx => ?_⟩
    · obtain ⟨hwaits, hbook⟩ := boundary_fallsDue hdealt hs hx
      exact ⟨hwaits, _, hbook, rfl, rfl, hx, rfl, rfl⟩
    · refine boundary_waits (s := s.nextSecond rest) hl hh hb fun himpatient => ?_
      rw [hw] at himpatient
      exact Nat.not_lt.2 hp himpatient.2
    · exact ⟨_, boundary_replaced hdealt hs hw hp hx, ⟨rfl, hs, hx, rfl⟩, rfl, rfl, rfl⟩
    · exact ⟨_, boundary_sounding hdealt hs hx, rfl, rfl, rfl, rfl⟩
  · obtain ⟨pl, st, hstarts⟩ := boundary_starts (s := s.nextSecond rest) hn hl hh (engineIdle_iff.1 hidle) hb hs hx
      ⟨hready, m, h, hm, hcomplete, hdamaged, hknown⟩ hothers
    obtain ⟨h1, h2⟩ := booking?_range hb
    refine ⟨_, _, (exec_secondBoundary hsub hrest hlt hstate).trans (congrArg Host.Outcome.next hstarts), rfl, rfl, hx,
      hm, rfl, rfl, ⟨_, booking?_setBooking_self h1 h2 _, rfl, rfl, hx, rfl⟩,
      fun k hk => booking?_setBooking_ne h1 hk _, rfl, rfl, rfl, rfl, rfl⟩

end Sys2Proof.Machine
end


section
/-! PROOFS. Ranks (R50): what leaves the ranks from the active context down the stack as they are. -/

namespace Sys2Proof.Machine

/-! ## Contexts that keep their rank -/

@[simp] theorem Context.rebase_rank (c : Context) (t tempo : Nat) : (c.rebase t tempo).rank = c.rank := rfl

@[simp] theorem Context.newRepetition_rank (c : Context) (tick : Nat) : (c.newRepetition tick).rank = c.rank := rfl

/-- The active context changed by a function that keeps its rank. -/
theorem modActive_ranks {f : Context → Context} (h : ∀ c, (f c).rank = c.rank) (s : State) :
    (s.modActive f).engine.ranks = s.engine.ranks := by
  cases ha : s.engine.active <;> simp [State.modActive, Engine.ranks, ha, h]

/-- The active context exchanged for one of its rank. -/
theorem modActive_const_ranks {s : State} {c c' : Context} (ha : s.engine.active = some c) (h : c'.rank = c.rank) :
    (s.modActive fun _ => c').engine.ranks = s.engine.ranks := by
  simp [State.modActive, Engine.ranks, ha, h]

@[simp] theorem charge_ranks (o : Owner) (k : Charge) (s : State) : (s.charge o k).engine.ranks = s.engine.ranks := by
  cases o with
  | test => rfl
  | booking n => exact modActive_ranks (fun c => by split <;> rfl) s

@[simp] theorem sortWaiting_ranks (s : State) : s.sortWaiting.engine.ranks = s.engine.ranks := rfl

@[simp] theorem joinWaiting_ranks (ns : List Nat) (s : State) : (s.joinWaiting ns).engine.ranks = s.engine.ranks := rfl

@[simp] theorem leaveWaiting_ranks (n : Nat) (s : State) : (s.leaveWaiting n).engine.ranks = s.engine.ranks := rfl

/-- A fold of operations that keep the ranks keeps the ranks. -/
theorem foldl_ranks {α : Type} {f : State → α → State} (h : ∀ s a, (f s a).engine.ranks = s.engine.ranks)
    (l : List α) (s : State) : (l.foldl f s).engine.ranks = s.engine.ranks := by
  induction l generalizing s with
  | nil => rfl
  | cons a l ih => exact (ih _).trans (h s a)

/-! ## Strikes (R98–R115, R127–R129) -/

section
variable (s : State)

@[simp] theorem removeBell_ranks (b : Nat) : (s.removeBell b).engine.ranks = s.engine.ranks := by
  have h := foldl_ranks (fun s (e : StrikeEntry) => charge_ranks e.owner .lost s)
    (s.planner.queue.filter (·.bell == b)) s
  simpa [State.removeBell, State.recomputeBusy] using h

@[simp] theorem removeOwner_engine (n : Nat) : (s.removeOwner n).engine = s.engine := removeStrikes_engine _ s

@[simp] theorem removeOwnerLost_ranks (n : Nat) : (s.removeOwnerLost n).engine.ranks = s.engine.ranks := by
  have h := foldl_ranks (fun s (e : StrikeEntry) => charge_ranks e.owner .lost s)
    (s.planner.queue.filter (·.ownedBy n)) s
  simpa [State.removeOwnerLost] using h

@[simp] theorem dropEntry_ranks (e : StrikeEntry) : (s.dropEntry e).engine.ranks = s.engine.ranks := by
  simp [State.dropEntry]

@[simp] theorem handOver_ranks (h : HandOver) : (s.handOver h).1.engine.ranks = s.engine.ranks := by
  have hsub : (if h.substituted then s.charge h.owner .substituted else s).engine.ranks = s.engine.ranks := by
    split <;> simp
  unfold State.handOver
  generalize (if h.substituted then s.charge h.owner .substituted else s) = u at hsub ⊢
  dsimp only
  split
  · simpa using hsub
  · split
    · simpa using hsub
    · split <;> simpa using hsub

/-- R129: a fire charges the active context at most. -/
theorem fire_ranks (e : StrikeEntry) : (s.fire e).engine.ranks = s.engine.ranks := by
  rw [fire_eq]
  exact modActive_ranks (fun c => by split <;> rfl) s

theorem fireIfEligible_ranks (e : StrikeEntry) : (s.fireIfEligible e).engine.ranks = s.engine.ranks := by
  unfold State.fireIfEligible
  split
  · exact fire_ranks s e
  · rfl

@[simp] theorem arbiter_ranks : s.arbiter.engine.ranks = s.engine.ranks := foldl_ranks fireIfEligible_ranks _ s

@[simp] theorem plan_ranks (h : HandOver) : (s.plan h).1.engine.ranks = s.engine.ranks := by
  unfold State.plan
  dsimp only
  split
  · exact handOver_ranks s h
  · split <;> simp

@[simp] theorem planNote_ranks (h : HandOver) : (s.planNote h).engine.ranks = s.engine.ranks := by
  simp [State.planNote]

@[simp] theorem planTest_ranks (h : HandOver) : (s.planTest h).1.engine.ranks = s.engine.ranks := by
  unfold State.planTest
  dsimp only
  split <;> simp

/-! ## The Score Player (R82–R97, R142) -/

@[simp] theorem prefetch_engine (c : Context) (slot segment : Nat) : (s.prefetch c slot segment).engine = s.engine := by
  obtain ⟨pl, st, heq, -⟩ := prefetch_eq c slot segment s
  rw [heq]

@[simp] theorem startReads_engine (c : Context) (slot : Nat) : (s.startReads c slot).engine = s.engine := by
  unfold State.startReads
  split <;> simp

@[simp] theorem enterSegment_engine (c : Context) (slot segment : Nat) :
    (s.enterSegment c slot segment).engine = s.engine := by
  unfold State.enterSegment
  split
  · simp
  all_goals split <;> simp

theorem advance_ranks (slot tick n : Nat) : (s.advance slot tick n).engine.ranks = s.engine.ranks := by
  unfold State.advance
  split
  · rfl
  · rename_i c ha
    have hkeep {c' : Context} (h : c'.rank = c.rank) := modActive_const_ranks ha h
    dsimp only
    split
    · exact hkeep rfl
    · split
      · rw [enterSegment_engine]
        exact hkeep rfl
      · split
        · split
          · exact hkeep rfl
          · rw [enterSegment_engine]
            exact hkeep rfl
        · exact hkeep rfl

@[simp] theorem actEvent_ranks (c : Context) (e : Event) (tick due : Nat) (pos : ScorePos) :
    (s.actEvent c e tick due pos).engine.ranks = s.engine.ranks := by
  cases e with
  | note pitch strength delta =>
    unfold State.actEvent
    dsimp only
    split <;> simp
  | rest delta => rfl
  | tempo v delta => exact modActive_ranks (fun _ => by rfl) s
  | phrase delta => rfl

theorem advanceToll_ranks : s.advanceToll.engine.ranks = s.engine.ranks := by
  unfold State.advanceToll
  split
  · rfl
  · dsimp only
    split
    · exact modActive_ranks (fun _ => by rfl) s
    · exact modActive_ranks (fun _ => by rfl) s

end

section
variable {s t : State} {c : Context}

theorem stopHere_engine (h : s.stopHere c = some t) : t.engine = s.engine := by
  unfold State.stopHere at h
  split at h <;> cases h
  rfl

theorem reachScore_ranks (h : s.reachScore c = some t) : t.engine.ranks = s.engine.ranks := by
  unfold State.reachScore at h
  split at h
  · cases h
  · split at h
    · cases h
      rfl
    · rw [stopHere_engine h]
    · rw [stopHere_engine h]
    · rw [stopHere_engine h]
    · split at h
      · cases h
        rw [stopHere_engine ‹_›]
      · split at h
        · cases h
        · dsimp only at h
          split at h <;> cases h
          rw [advance_ranks, actEvent_ranks]

theorem reachToll_ranks (h : s.reachToll c = some t) : t.engine.ranks = s.engine.ranks := by
  unfold State.reachToll at h
  split at h
  · cases h
  · dsimp only at h
    split at h <;> cases h
    rw [advanceToll_ranks, planNote_ranks]

theorem reachLive_ranks (h : s.reachLive c = some t) : t.engine.ranks = s.engine.ranks := by
  unfold State.reachLive at h
  split at h
  · cases h
  · split at h
    · cases h
    · dsimp only at h
      split at h <;> cases h
      refine (modActive_ranks (fun _ => by rfl) _).trans ?_
      simp [State.takeHead]

theorem reachOne_ranks (h : s.reachOne = some t) : t.engine.ranks = s.engine.ranks := by
  unfold State.reachOne at h
  split at h
  · cases h
  · split at h
    · cases h
    · split at h
      · exact reachScore_ranks h
      · exact reachToll_ranks h
      · exact reachLive_ranks h

end

/-- R82: the Score Player moves no context. -/
@[simp] theorem reachAll_ranks (s : State) : s.reachAll.engine.ranks = s.engine.ranks := by
  suffices h : ∀ n s, (reachLoop n s).engine.ranks = s.engine.ranks from h reachFuel s
  intro n
  induction n with
  | zero => exact fun _ => rfl
  | succ n ih =>
    intro s
    unfold reachLoop
    split
    · rfl
    · exact (ih _).trans (reachOne_ranks ‹_›)

/-- R84: a take-up moves no context. -/
@[simp] theorem takeUp_ranks (s : State) : s.takeUp.engine.ranks = s.engine.ranks := by
  unfold State.takeUp
  split
  · rfl
  · dsimp only
    split
    · rw [startReads_engine]
    · split <;> rfl
    · exact modActive_ranks (fun _ => by rfl) _

end Sys2Proof.Machine
end


section
/-! PROOFS. Ranks (R50, R53, R56–R63): a start stands above what it was judged against, so whatever the Precedence
Engine does keeps the ranks strictly decreasing. -/

namespace Sys2Proof.Machine

/-- Ordered ranks stay ordered from `s` to `t`. -/
structure Ordered (s t : State) : Prop where
  ranks : s.ranksOrdered → t.ranksOrdered

theorem Ordered.refl (s : State) : Ordered s s := ⟨id⟩

theorem Ordered.trans {s t u : State} (h : Ordered s t) (g : Ordered t u) : Ordered s u := ⟨g.ranks ∘ h.ranks⟩

/-- One operation after another, the last one first. -/
theorem Ordered.after {s t u : State} (g : Ordered t u) (h : Ordered s t) : Ordered s u := h.trans g

/-- Contexts that leave, with the others where they were, leave the ranks ordered. -/
theorem Ordered.ofSublist {s t : State} (h : t.engine.ranks.Sublist s.engine.ranks) : Ordered s t :=
  ⟨fun hs => hs.sublist h⟩

theorem Ordered.ofRanks {s t : State} (h : t.engine.ranks = s.engine.ranks) : Ordered s t :=
  .ofSublist (h ▸ .refl _)

theorem Ordered.ofEngine {s t : State} (h : t.engine = s.engine) : Ordered s t := .ofRanks (by rw [h])

theorem Ordered.foldl {α : Type} {f : State → α → State} (h : ∀ s a, Ordered s (f s a)) (l : List α) (s : State) :
    Ordered s (l.foldl f s) := by
  induction l generalizing s with
  | nil => exact .refl s
  | cons a l ih => exact (h s a).trans (ih _)

theorem ranks_of_active {e : Engine} {c : Context} (h : e.active = some c) :
    e.ranks = c.rank :: e.stack.map Context.rank := by simp [Engine.ranks, h]

theorem ranks_of_inactive {e : Engine} (h : e.active = none) : e.ranks = e.stack.map Context.rank := by
  simp [Engine.ranks, h]

theorem stack_sublist_ranks (e : Engine) : (e.stack.map Context.rank).Sublist e.ranks := by
  cases h : e.active with
  | none => rw [ranks_of_inactive h]
  | some c =>
    rw [ranks_of_active h]
    exact List.sublist_cons_self ..

/-! ## Contexts that leave (R58, R60) -/

/-- R60: an end empties the active place. -/
theorem endActive_engine (k : OutcomeKind) (x : Option OutcomeCause) (w : Bool) (s : State) :
    (s.endActive k x w).engine = { s.engine with active := none } := by
  unfold State.endActive
  split
  · rename_i h
    rw [← h]
  · simp

theorem endActive_ordered (k : OutcomeKind) (x : Option OutcomeCause) (w : Bool) (s : State) :
    Ordered s (s.endActive k x w) :=
  .ofSublist (by rw [endActive_engine]; exact stack_sublist_ranks s.engine)

theorem endStacked_engine (c : Context) (k : OutcomeKind) (x : Option OutcomeCause) (w : Bool) (s : State) :
    (s.endStacked c k x w).engine = { s.engine with stack := s.engine.stack.filter (·.booking != c.booking) } :=
  dispose_engine ..

theorem endStacked_ordered (c : Context) (k : OutcomeKind) (x : Option OutcomeCause) (w : Bool) (s : State) :
    Ordered s (s.endStacked c k x w) := by
  refine .ofSublist ?_
  rw [endStacked_engine]
  exact (List.filter_sublist.append_left _).map _

/-- R58: a displacement takes contexts from the stack alone. -/
theorem displace_engine (s : State) :
    ∃ l, l.Sublist s.engine.stack ∧ s.displace.engine = { s.engine with stack := l } := by
  unfold State.displace
  split
  · exact ⟨_, .refl _, rfl⟩
  · split
    · exact ⟨_, .refl _, rfl⟩
    · exact ⟨_, List.filter_sublist, endStacked_engine ..⟩

/-! ## Records (R31, R53) -/

/-- Bookings keep their records from `s` to `t`, while they are there. -/
structure RecordsKept (s t : State) : Prop where
  record : ∀ n b', t.booking? n = some b' → ∃ b, s.booking? n = some b ∧ b'.record = b.record

theorem RecordsKept.refl (s : State) : RecordsKept s s := ⟨fun _ b h => ⟨b, h, rfl⟩⟩

theorem RecordsKept.trans {s t u : State} (h : RecordsKept s t) (g : RecordsKept t u) : RecordsKept s u := by
  refine ⟨fun n b hb => ?_⟩
  obtain ⟨x, hx, hbx⟩ := g.record n b hb
  obtain ⟨y, hy, hxy⟩ := h.record n x hx
  exact ⟨y, hy, hbx.trans hxy⟩

/-- The records kept from a state on are kept from any state with its table on. -/
theorem RecordsKept.ofBook {s v t : State} (h : RecordsKept v t) (hv : v.book = s.book) : RecordsKept s t := by
  refine ⟨fun n b hb => ?_⟩
  obtain ⟨x, hx, hbx⟩ := h.record n b hb
  exact ⟨x, by rwa [State.booking?, ← hv], hbx⟩

theorem recompute_record (b : Booking) (T : TowerTime) : (b.recompute T).record = b.record := by
  unfold Booking.recompute
  dsimp only
  split <;> rfl

/-- R30, R31: a disposal writes no record. -/
theorem dispose_records (n : Nat) (k : OutcomeKind) (x : Option OutcomeCause) (counts : StrikeCounts) (s : State) :
    RecordsKept s (s.dispose n k x counts false) := by
  refine ⟨fun m b' hb' => ?_⟩
  by_cases hm : m = n
  · subst hm
    cases hb : s.booking? m with
    | none =>
      rw [dispose_of_none hb, hb] at hb'
      cases hb'
    | some b =>
      refine ⟨b, rfl, ?_⟩
      cases hk : b.record.kind.immediate with
      | true =>
        rw [dispose_removes hb hk] at hb'
        cases hb'
      | false =>
        rw [dispose_goesOn hb hk] at hb'
        cases hb'
        exact recompute_record _ _
  · exact ⟨b', (dispose_booking?_ne hm ..).symm.trans hb', rfl⟩

theorem setBookingState_records (n : Nat) (v : BookingState) (s : State) : RecordsKept s (s.setBookingState n v) := by
  refine ⟨fun m b' hb' => ?_⟩
  by_cases hm : m = n
  · subst hm
    cases hb : s.booking? m with
    | none =>
      simp [State.setBookingState, hb] at hb'
    | some b =>
      rw [setBookingState_eq hb, booking?_setBooking hb] at hb'
      cases hb'
      exact ⟨b, rfl, rfl⟩
  · exact ⟨b', (setBookingState_booking?_ne hm v s).symm.trans hb', rfl⟩

theorem displace_records (s : State) : RecordsKept s s.displace := by
  unfold State.displace
  split
  · exact .refl s
  · split
    · exact .refl s
    · exact (dispose_records ..).ofBook rfl

/-! ## The active place cleared (R56–R59) -/

/-- R56: a suspension puts the active context on top of the stack; the ranks are the same. -/
theorem suspendActive_ranks (s : State) :
    s.suspendActive.engine.ranks = s.engine.ranks ∧ s.suspendActive.engine.active = none := by
  cases ha : s.engine.active with
  | none =>
    have h : s.suspendActive = s := by simp [State.suspendActive, ha]
    rw [h]
    exact ⟨rfl, ha⟩
  | some c =>
    obtain ⟨pl, st, heq, -⟩ := suspendActive_eq ha
    rw [heq]
    simp [Engine.ranks, ha]

theorem suspendActive_records (s : State) : RecordsKept s s.suspendActive := by
  cases ha : s.engine.active with
  | none =>
    have h : s.suspendActive = s := by simp [State.suspendActive, ha]
    rw [h]
    exact .refl s
  | some c =>
    obtain ⟨pl, st, heq, -⟩ := suspendActive_eq ha
    rw [heq]
    exact (setBookingState_records c.booking .suspended _).ofBook rfl

theorem endActive_records (k : OutcomeKind) (x : Option OutcomeCause) (s : State) :
    RecordsKept s (s.endActive k x false) := by
  cases ha : s.engine.active with
  | none =>
    have h : s.endActive k x false = s := by simp [State.endActive, ha]
    rw [h]
    exact .refl s
  | some c =>
    obtain ⟨pl, st, heq, -⟩ := endActive_eq ha k x false
    rw [heq]
    exact (dispose_records ..).ofBook rfl

/-- R56, R58, R59: what stands in the active place is cleared away, and no context joins. -/
theorem clearFor_ranks {d : Decision} (hd : d ≠ .waits) (s : State) :
    (s.clearFor d).engine.active = none ∧ (s.clearFor d).engine.ranks.Sublist s.engine.ranks ∧
      RecordsKept s (s.clearFor d) := by
  cases d with
  | waits => exact absurd rfl hd
  | suspends =>
    obtain ⟨hranks, hactive⟩ := suspendActive_ranks s.displace
    obtain ⟨l, hl, heq⟩ := displace_engine s
    refine ⟨hactive, ?_, (displace_records s).trans (suspendActive_records _)⟩
    show s.displace.suspendActive.engine.ranks.Sublist _
    rw [hranks, heq]
    exact (hl.append_left _).map _
  | replaces =>
    have heq := endActive_engine .cut (some .replaced) false s
    refine ⟨congrArg Engine.active heq, ?_, endActive_records ..⟩
    show (s.endActive ..).engine.ranks.Sublist _
    rw [heq]
    exact stack_sublist_ranks s.engine

/-! ## Starts and resumptions (R55, R61, R62) -/

/-- R55: a context that starts over an empty active place, above every rank there is. -/
theorem start_ordered {s : State} {n : Nat} (ha : s.engine.active = none)
    (h : ∀ b, s.booking? n = some b → ∀ r ∈ s.engine.ranks, r < b.record.rank) : Ordered s (s.start n) := by
  refine ⟨fun hs => ?_⟩
  unfold State.start
  split
  · exact hs
  · rename_i b hb
    unfold State.ranksOrdered
    rw [takeUp_ranks]
    rw [ranks_of_inactive ha] at h
    have hstack : (s.engine.stack.map Context.rank).Pairwise (· > ·) := ranks_of_inactive ha ▸ hs
    exact List.pairwise_cons.2 ⟨h b hb, hstack⟩

/-- R62: the stack top moves to the active place; the ranks are the same. -/
theorem resumeTop_ranks {s : State} (ha : s.engine.active = none) : s.resumeTop.engine.ranks = s.engine.ranks := by
  unfold State.resumeTop
  split
  · rfl
  · rename_i c rest hstack
    rw [takeUp_ranks]
    simp [Engine.ranks, ha, hstack]

theorem settleStart_ordered (a : Agenda) (s : State) : Ordered s (s.settleStart a).1 := by
  unfold State.settleStart
  split
  · exact endActive_ordered ..
  · exact .refl s

theorem refuse_ordered (n : Nat) (k : OutcomeKind) (s : State) : Ordered s (s.refuse n k) :=
  .ofRanks (by simp [State.refuse])

/-- R61: the head of the waiting list is taken before the stack top only when it outranks the whole stack. -/
theorem outranks_of_headFirst {s : State} {r : BookingRecord} (ha : s.engine.active = none) (hs : s.ranksOrdered)
    (h : s.headFirst r = true) : ∀ x ∈ s.engine.ranks, x < r.rank := by
  unfold State.ranksOrdered at hs
  unfold State.headFirst at h
  rw [ranks_of_inactive ha] at hs ⊢
  split at h
  · rename_i hstack
    simp [hstack]
  · rename_i top rest hstack
    rw [hstack, List.map_cons, List.pairwise_cons] at hs
    have htop : top.rank < r.rank := by
      simp only [Bool.and_eq_true, decide_eq_true_eq] at h
      exact h.2
    rw [hstack, List.map_cons]
    intro x hx
    rcases List.mem_cons.1 hx with rfl | hx
    · exact htop
    · exact lt_trans (hs.1 x hx) htop

theorem choose_ordered {s : State} (ha : s.engine.active = none) : Ordered s s.choose.1 := by
  have hresume : Ordered s (s.resumeTop.settleStart (.judge 0)).1 :=
    (Ordered.ofRanks (resumeTop_ranks ha)).trans (settleStart_ordered _ _)
  refine ⟨fun hs => ?_⟩
  unfold State.choose
  split
  · split
    · exact hs
    · exact hresume.ranks hs
  · split
    · exact hs
    · rename_i n _ _ b hb
      split
      · rename_i hhead
        split
        · exact (refuse_ordered _ _ s).ranks hs
        · refine ((start_ordered ha fun b' hb' => ?_).trans (settleStart_ordered _ _)).ranks hs
          cases hb.symm.trans hb'
          exact outranks_of_headFirst ha hs hhead
      · exact hresume.ranks hs

/-! ## The agenda (R52, R53, R61) -/

/-- R53: only a booking of greater rank is given the active place. -/
theorem rank_lt_of_judge {c : Context} {r : BookingRecord} (h : c.judge r ≠ .waits) : c.rank < r.rank := by
  by_contra hle
  exact h (judge_waits (.inl (Nat.not_lt.1 hle)))

/-- R53: a booking that outranks the active context outranks every context. -/
theorem outranks_of_judge {s : State} {c : Context} {r : BookingRecord} (ha : s.engine.active = some c)
    (hs : s.ranksOrdered) (h : c.judge r ≠ .waits) : ∀ x ∈ s.engine.ranks, x < r.rank := by
  have hlt := rank_lt_of_judge h
  unfold State.ranksOrdered at hs
  rw [ranks_of_active ha] at hs ⊢
  intro x hx
  rcases List.mem_cons.1 hx with rfl | hx
  · exact hlt
  · exact lt_trans ((List.pairwise_cons.1 hs).1 x hx) hlt

/-- R53, R55–R59: a newcomer that outranks the active context starts in its place. -/
theorem clear_start_ordered {s : State} {c : Context} {n : Nat} {b : Booking} (ha : s.engine.active = some c)
    (hb : s.booking? n = some b) (h : c.judge b.record ≠ .waits) :
    Ordered s ((s.clearFor (c.judge b.record)).start n) := by
  refine ⟨fun hs => ?_⟩
  obtain ⟨hactive, hsub, hrecords⟩ := clearFor_ranks h s
  refine (start_ordered hactive fun b' hb' x hx => ?_).ranks (hs.sublist hsub)
  obtain ⟨y, hy, hrecord⟩ := hrecords.record n b' hb'
  cases hb.symm.trans hy
  rw [hrecord]
  exact outranks_of_judge ha hs h x (hsub.subset hx)

theorem judgeAt_ordered (k : Nat) (s : State) : Ordered s (s.judgeAt k).1 := by
  unfold State.judgeAt
  split
  · exact .refl s
  · split
    · exact .ofRanks (leaveWaiting_ranks _ s)
    · split
      · rename_i ha
        split
        · rename_i hstack
          split
          · exact refuse_ordered ..
          · refine (start_ordered ha fun _ _ => ?_).trans (settleStart_ordered _ _)
            simp [ranks_of_inactive ha, List.isEmpty_iff.1 hstack]
        · exact .refl s
      · rename_i ha
        split
        · exact .refl s
        · rename_i hd
          split
          · exact refuse_ordered ..
          · exact (clear_start_ordered ha ‹_› hd).trans (settleStart_ordered _ _)

theorem agendaStep_ordered (a : Agenda) (s : State) : Ordered s (s.agendaStep a).1 := by
  cases a with
  | choose =>
    simp only [State.agendaStep]
    split
    · exact .refl s
    · exact choose_ordered (Option.not_isSome_iff_eq_none.1 ‹_›)
  | judge k => exact judgeAt_ordered k s

/-- R52, R61: however long the agenda is worked off. -/
theorem engineLoop_ordered (n : Nat) (a : Agenda) (s : State) : Ordered s (engineLoop n a s) := by
  induction n generalizing a s with
  | zero => exact .refl s
  | succ n ih =>
    have h := agendaStep_ordered a s
    unfold engineLoop
    split
    · rename_i t ht
      rwa [ht] at h
    · rename_i t a' ht
      rw [ht] at h
      exact h.trans (ih a' t)

section
variable (s : State)

theorem resumeChoice_ordered : Ordered s s.resumeChoice := by
  unfold State.resumeChoice
  split
  · exact .refl s
  · exact engineLoop_ordered ..

theorem reconsider_ordered : Ordered s s.reconsider := by
  unfold State.reconsider
  split
  · exact .refl s
  · exact engineLoop_ordered ..

theorem handGroup_ordered (ns : List Nat) : Ordered s (s.handGroup ns) := by
  unfold State.handGroup
  split
  · exact .refl s
  · exact (Ordered.ofRanks (joinWaiting_ranks ns s)).trans (reconsider_ordered _)

theorem endActive_choice_ordered (k : OutcomeKind) (x : Option OutcomeCause) (w : Bool) :
    Ordered s (s.endActive k x w).resumeChoice := (endActive_ordered k x w s).trans (resumeChoice_ordered _)

theorem settle_ordered : Ordered s s.settle := by
  have h : Ordered s s.reachAll := .ofRanks (reachAll_ranks s)
  unfold State.settle
  dsimp only
  split
  · exact h
  · exact h.trans (endActive_choice_ordered ..)

theorem arbiter_settle_ordered : Ordered s s.arbiter.settle :=
  (Ordered.ofRanks (arbiter_ranks s)).trans (settle_ordered _)

theorem withdrawNow_ordered (n : Nat) : Ordered s (s.withdrawNow n) := by
  unfold State.withdrawNow
  split
  · exact .refl s
  · split
    · exact .ofEngine rfl
    · exact .ofEngine rfl
    · exact .ofEngine rfl
    · exact .ofRanks rfl
    · exact endActive_choice_ordered ..
    · split
      · exact .refl s
      · exact endStacked_ordered ..

/-! ## Halts, HUSH, drive loss (R64–R70) -/

theorem haltNow_ordered (t : HaltTarget) : Ordered s (s.haltNow t) := by
  have hstacked (u : State) : Ordered u (u.haltStackedNow (t.names false)) :=
    Ordered.foldl (fun s c => endStacked_ordered c .halted none false s) _ u
  unfold State.haltNow
  split
  · exact ((endActive_ordered ..).trans (hstacked _)).trans (resumeChoice_ordered _)
  · exact hstacked s

theorem haltStackedLater_ranks (named : Context → Bool) (h : PendingHalt) :
    (s.haltStackedLater named h).engine.ranks = s.engine.ranks := by
  have hmap : (s.engine.stack.map fun c => if named c then c.storeHalt h else c).map Context.rank =
      s.engine.stack.map Context.rank := by
    rw [List.map_map]
    exact List.map_congr_left fun c _ => by simp only [Function.comp_apply]; split <;> rfl
  unfold State.haltStackedLater Engine.ranks
  simp only [List.map_append, hmap]

/-- R66, R67: a stored halt that reaches its block moves no context. -/
theorem applyHalt_engine (c : Context) (h : PendingHalt) : (s.applyHalt c h).engine = s.engine := by
  unfold State.applyHalt State.stopAtPhrase State.cancelRepeats
  repeat' split
  all_goals rfl

theorem haltActiveLater_ranks (h : PendingHalt) : (s.haltActiveLater h).engine.ranks = s.engine.ranks := by
  unfold State.haltActiveLater
  split
  · rfl
  · split
    · rfl
    · rename_i c ha _
      rw [applyHalt_engine]
      exact modActive_const_ranks ha rfl

theorem haltLater_ordered (t : HaltTarget) (h : PendingHalt) : Ordered s (s.haltLater t h) := by
  have hstacked := haltStackedLater_ranks s (t.names false) h
  unfold State.haltLater
  dsimp only
  split
  · exact (Ordered.ofRanks ((haltActiveLater_ranks _ h).trans hstacked)).trans (settle_ordered _)
  · exact .ofRanks hstacked

theorem halt_ordered (t : HaltTarget) (c : HaltCondition) : Ordered s (s.halt t c) := by
  cases c
  · exact haltNow_ordered s t
  · exact haltLater_ordered s t _
  · exact haltLater_ordered s t _

theorem hushActive_ranks : s.hushActive.engine.ranks = s.engine.ranks := by
  unfold State.hushActive
  split
  · rfl
  · split
    · rfl
    · refine (modActive_ranks (fun _ => by rfl) _).trans ?_
      rw [letGo_engine]
      split <;> simp

theorem restarted_rank (c : Context) : (s.restarted c).rank = c.rank := by
  unfold State.restarted
  dsimp only
  split <;> rfl

theorem restartActive_ranks : s.restartActive.engine.ranks = s.engine.ranks := by
  unfold State.restartActive
  split
  · rfl
  · rename_i c ha
    rw [takeUp_ranks]
    exact modActive_const_ranks ha (restarted_rank s c)

theorem releaseEngine_ordered : Ordered s s.releaseEngine := by
  unfold State.releaseEngine
  split
  · exact resumeChoice_ordered s
  · rename_i c _
    have h : Ordered s (if (c.mode == .hushed) = true then s.restartActive else s) := by
      split
      · exact .ofRanks (restartActive_ranks s)
      · exact .refl s
    dsimp only
    split
    · exact h.trans (endActive_choice_ordered ..)
    · exact h.trans (reconsider_ordered _)

theorem loseDrive_ordered : Ordered s s.loseDrive := by
  unfold State.loseDrive
  split
  · exact .refl s
  · exact ((endActive_ordered .driveLost none false s).trans
      (Ordered.foldl (fun s c => endStacked_ordered c .driveLost none false s) _ _)).trans
        (.ofEngine (removeStrikes_engine ..))

end

end Sys2Proof.Machine
end


section
/-! PROOFS. Ranks (R50): what the Booking Book, the Tower Time Unit, the bells, the store and the links tell the
Precedence Engine keeps the ranks ordered. -/

namespace Sys2Proof.Machine

/-- What is decided after operations that move no context. -/
theorem Ordered.afterRanks {s t u : State} (g : Ordered t u) (h : t.engine.ranks = s.engine.ranks) : Ordered s u :=
  (Ordered.ofRanks h).trans g

/-- What is decided after operations that leave the engine alone. -/
theorem Ordered.afterEngine {s t u : State} (g : Ordered t u) (h : t.engine = s.engine) : Ordered s u :=
  (Ordered.ofEngine h).trans g

/-! ## The reports of the Booking Book (R23–R37) -/

/-- A step of a pass that moves no context. -/
def RanksKept (f : Nat → Booking → State → State × Bool) : Prop :=
  ∀ n b s, (f n b s).1.engine.ranks = s.engine.ranks

section
variable (n : Nat) (b : Booking) (s : State)

theorem dueNow_engine : (s.dueNow n).1.engine = s.engine := by
  unfold State.dueNow
  split
  · rfl
  · split
    · split <;> rfl
    · rfl

theorem dueAtOnce_ordered : Ordered s (s.dueAtOnce n) := by
  have h := dueNow_engine n s
  unfold State.dueAtOnce
  split <;> (rename_i t ht; rw [ht] at h)
  · exact (Ordered.ofEngine h).trans (handGroup_ordered ..)
  · split
    · exact (Ordered.ofEngine h).trans (.ofRanks rfl)
    · exact .ofEngine h

theorem createBooking_ordered (r : BookingRecord) : Ordered s (s.createBooking n r) :=
  (dueAtOnce_ordered n _).afterEngine (setBooking_engine ..)

theorem amendBooking_ordered (r : BookingRecord) : Ordered s (s.amendBooking n r) := by
  have h (b : Booking) : Ordered s ((s.setBooking n b).dueAtOnce n) :=
    (dueAtOnce_ordered n _).afterEngine (setBooking_engine ..)
  unfold State.amendBooking
  split
  · exact .refl s
  · dsimp only
    split
    · exact (h _).trans (reconsider_ordered _)
    · exact h _

theorem createImmediate_ordered (r : BookingRecord) : Ordered s (s.createImmediate n r) :=
  (handGroup_ordered ..).afterEngine (setBooking_engine ..)

theorem pass_ranks {f : Nat → Booking → State → State × Bool} (hf : RanksKept f) :
    (s.pass f).1.engine.ranks = s.engine.ranks := by
  unfold State.pass
  suffices h : ∀ (l : List Nat) (p : Pass), (l.foldl (Pass.one f) p).1.engine.ranks = p.1.engine.ranks from
    h slotNumbers (s, [])
  intro l
  induction l with
  | nil => exact fun p => rfl
  | cons n l ih =>
    intro p
    refine (ih _).trans ?_
    unfold Pass.one
    split
    · rfl
    · rename_i b _
      have h := hf n b p.1
      split <;> (rename_i t ht; rw [ht] at h; exact h)

theorem report_ordered {f : Nat → Booking → State → State × Bool} (hf : RanksKept f) : Ordered s (s.report f) := by
  unfold State.report
  split
  · exact .refl s
  · refine (handGroup_ordered ..).afterRanks ?_
    rw [sortWaiting_ranks, pass_ranks s hf]

theorem disposeWaiting_engine (c : OutcomeCause) : (s.disposeWaiting n c).engine = s.engine := dispose_engine ..

theorem boundaryOne_ranks : RanksKept State.boundaryOne := by
  intro n b s
  rw [boundaryOne_engine]
  split <;> rfl

theorem setReportOne_ranks : RanksKept State.setReportOne := by
  intro n b s
  unfold State.setReportOne
  split
  · rfl
  · rw [dueNow_engine]
    rfl

theorem stepArmed_engine (l : List Nat) : (s.stepArmed n l b).1.engine = s.engine := by
  unfold State.stepArmed
  split
  · rfl
  · dsimp only
    split <;> rfl

theorem stepSounding_engine (t0 : Nat) : (s.stepSounding n t0 b).1.engine = s.engine := by
  unfold State.stepSounding
  dsimp only
  split <;> rfl

theorem stepWaiting_ranks (t0 : Nat) : (s.stepWaiting n t0 b).1.engine.ranks = s.engine.ranks := by
  unfold State.stepWaiting
  dsimp only
  split
  · split
    · rw [disposeWaiting_engine, leaveWaiting_ranks]
    · rw [stepArmed_engine, disposeWaiting_engine, leaveWaiting_ranks]
  · rfl

theorem forwardOne_ranks (t0 : Nat) : RanksKept (State.forwardOne t0) := by
  intro n b s
  unfold State.forwardOne
  split
  · rw [stepArmed_engine]
  · exact stepWaiting_ranks ..
  · rw [stepSounding_engine]
  · rw [stepSounding_engine]
  · rfl
  · rfl

theorem backwardOne_ranks : RanksKept State.backwardOne := by
  intro n b s
  unfold State.backwardOne
  split
  case h_5 | h_6 => rfl
  all_goals
    rw [dueNow_engine]
    rfl

theorem unsetOne_ranks : RanksKept State.unsetOne := by
  intro n b s
  unfold State.unsetOne
  split
  · rw [disposeWaiting_engine, leaveWaiting_ranks]
  all_goals rfl

theorem stepReport_ordered (t0 : Nat) : Ordered s (s.stepReport t0) := by
  unfold State.stepReport
  split
  · exact report_ordered s (forwardOne_ranks t0)
  · exact report_ordered s backwardOne_ranks

end

/-! ## Tower time (R3–R13) -/

section
variable (s : State)

theorem setTimeState_engine (v : TimeState) : (s.setTimeState v).engine = s.engine := raiseIf_engine ..

theorem advanceSecond_ordered : Ordered s s.advanceSecond := by
  unfold State.advanceSecond
  split
  · dsimp only
    split
    · exact .ofEngine rfl
    · exact (report_ordered _ boundaryOne_ranks).afterEngine rfl
  · have h : Ordered s (({ s with time := { s.time with second := 0, slew := 0, slewAcc := 0 } } : State).setTimeState
        .unset) := .ofEngine (setTimeState_engine ..)
    dsimp only
    split
    · exact h.trans (report_ordered _ unsetOne_ranks)
    · exact h

theorem normalAdvance_ordered : Ordered s s.normalAdvance := by
  unfold State.normalAdvance
  split
  · exact (advanceSecond_ordered _).afterEngine rfl
  · exact .refl s

theorem phaseStep_ordered : Ordered s s.phaseStep := by
  unfold State.phaseStep
  dsimp only
  split
  · exact (advanceSecond_ordered _).afterEngine rfl
  · exact .ofEngine rfl

theorem dealPhase_ordered : Ordered s s.dealPhase := by
  unfold State.dealPhase
  dsimp only
  split
  · exact .ofEngine rfl
  · exact (phaseStep_ordered s).trans (.ofEngine rfl)

theorem phaseAtPulse_ordered : Ordered s s.phaseAtPulse := by
  unfold State.phaseAtPulse
  split
  · exact phaseStep_ordered s
  · exact dealPhase_ordered s
  · exact .refl s
  · exact .refl s

theorem lockState_engine : s.lockState.engine = s.engine := by
  unfold State.lockState
  repeat' split
  all_goals simp [State.setTimeState]

theorem pulse_ordered : Ordered s s.pulse := by
  unfold State.pulse
  split
  · dsimp only
    split
    · exact (phaseAtPulse_ordered _).afterEngine (lockState_engine _)
    · exact .ofEngine rfl
  · exact .ofEngine rfl

theorem expirePulse_engine : s.expirePulse.engine = s.engine := by
  unfold State.expirePulse
  dsimp only
  split <;> simp [State.setTimeState]

theorem setCalendar_ordered (t1 : Nat) : Ordered s (s.setCalendar t1) := by
  have hset : Ordered s (if s.time.locked
      then ({ s with time := { s.time with second := t1 } } : State).setTimeState .locked
      else ({ s with time := { s.time with second := t1, sub := 0, subFrac := 0 } } : State).setTimeState .free) := by
    split <;> exact .ofEngine (setTimeState_engine ..)
  have hreport (u : State) : Ordered u (if s.time.state = .unset then u.calendarSet
      else if s.time.second = t1 then u else u.stepReport s.time.second) := by
    split
    · exact report_ordered u setReportOne_ranks
    · split
      · exact .refl u
      · exact stepReport_ordered u _
  exact (hreport _).after hset

end

/-! ## Bells, coils and the bank (R119–R136) -/

section
variable (b : Nat) (s : State)

theorem toRecovering_ranks (c : Cycle) : (s.toRecovering b c).engine.ranks = s.engine.ranks := by
  unfold State.toRecovering
  split <;> simp

theorem faultBell_ranks (cause : FaultCause) : (s.faultBell b cause).engine.ranks = s.engine.ranks := by
  simp [State.faultBell]

theorem afterPulse_ranks (c : Cycle) : (s.afterPulse b c).engine.ranks = s.engine.ranks := by
  unfold State.afterPulse
  split
  · exact toRecovering_ranks b s c
  · split
    · rfl
    · split
      · exact toRecovering_ranks b s c
      · exact faultBell_ranks b s _

theorem releaseCoil_ranks : (s.releaseCoil b).engine.ranks = s.engine.ranks := by
  unfold State.releaseCoil
  split
  · rfl
  · split
    · dsimp only
      split
      · rfl
      · rw [toRecovering_ranks]
        rfl
    · rfl

theorem releaseAllCoils_ranks : s.releaseAllCoils.engine.ranks = s.engine.ranks :=
  foldl_ranks (fun s b => releaseCoil_ranks b s) _ s

theorem takeBellRecord_ranks (r : BellRecord) : (s.takeBellRecord b r).engine.ranks = s.engine.ranks := by
  unfold State.takeBellRecord
  dsimp only
  rw [arbiter_ranks]
  split <;> simp

theorem classify_engine : s.classify.engine = s.engine := raiseIf_engine ..

theorem reclassify_ranks : s.reclassify.engine.ranks = s.engine.ranks := by
  unfold State.reclassify
  split <;> simp [classify_engine]

theorem takeDriveSettings_ranks (d : DriveSettings) : (s.takeDriveSettings d).engine.ranks = s.engine.ranks := by
  simp [State.takeDriveSettings, classify_engine]

theorem hammerBack_ordered : Ordered s (s.hammerBack b) := by
  unfold State.hammerBack
  split
  · exact .refl s
  · split
    · exact (settle_ordered _).afterRanks (toRecovering_ranks b s _)
    · exact .refl s

theorem endPulse_ordered (c : Cycle) : Ordered s (s.endPulse b c) :=
  (settle_ordered _).afterRanks (by rw [afterPulse_ranks, arbiter_ranks, coilOff_engine])

theorem fallReady_ordered : Ordered s s.fallReady :=
  (loseDrive_ordered _).afterRanks (by rw [raise_engine, releaseAllCoils_ranks, setReady_engine])

theorem riseReady_ordered : Ordered s s.riseReady :=
  ((reconsider_ordered _).after (arbiter_settle_ordered _)).afterEngine (by rw [raise_engine, setReady_engine])

theorem releaseHush_ordered : Ordered s s.releaseHush := by
  unfold State.releaseHush
  dsimp only
  split
  · exact .ofEngine rfl
  · exact (releaseEngine_ordered _).afterRanks (by rw [arbiter_ranks, setHush_engine])

end

/-! ## The store (R86–R88, R169–R172) -/

section
variable (s : State)

theorem storePlaces_engine (job : StoreJob) (result : Completion) : (s.storePlaces job result).engine = s.engine := by
  cases result <;> rfl

theorem applyVerified_ordered (job : StoreJob) : Ordered s (s.applyVerified job) := by
  cases job with
  | book n r => exact createBooking_ordered n s r
  | amend n r => exact amendBooking_ordered n s r
  | withdraw n => exact withdrawNow_ordered s n
  | setBell b r => exact (settle_ordered _).afterRanks (takeBellRecord_ranks b s r)
  | setDrive d => exact (settle_ordered _).afterRanks (takeDriveSettings_ranks s d)
  | setProtection r => exact .ofEngine rfl
  | define m h => exact .ofEngine rfl
  | segment m i bytes => exact .ofEngine rfl
  | erase m => exact .ofEngine rfl

theorem applyFailed_engine (job : StoreJob) : (s.applyFailed job).engine = s.engine := by
  cases job <;> rfl

theorem completeOp_ordered (op : StoreOp) (result : Completion) : Ordered s (s.completeOp op result) := by
  have hplaces : Ordered s (s.storePlaces op.job result) := .ofEngine (storePlaces_engine ..)
  refine hplaces.trans ?_
  have hfailed (u : State) : Ordered u
      ((((u.applyFailed op.job).raise .store).storeIdle).respond op.port op.job.code .storeFault []) :=
    .ofEngine (by simp [applyFailed_engine])
  cases result with
  | verified =>
    exact ((applyVerified_ordered _ op.job).trans (.ofEngine (storeIdle_engine _))).trans
      (.ofEngine (respond_engine ..))
  | failed => exact hfailed _
  | failedAtCopyB => exact hfailed _

/-- R88: a damaged segment is remembered in the active context, which stays where it is. -/
theorem flagDamaged_ranks (slot segment : Nat) : (s.flagDamaged slot segment).engine.ranks = s.engine.ranks :=
  modActive_ranks (fun _ => by rfl) _

theorem bufferRead_ranks (slot segment : Nat) (d : Option Segment) :
    (s.bufferRead slot segment d).engine.ranks = s.engine.ranks := by
  unfold State.bufferRead
  dsimp only
  repeat' split
  all_goals simp [flagDamaged_ranks]

theorem portRead_engine (p : Port) (slot segment : Nat) (noise : List Byte) :
    (s.portRead p slot segment noise).engine = s.engine := by
  unfold State.portRead
  dsimp only
  rw [respond_engine]
  split <;> rfl

theorem serveRead_ranks (r : ReadRequest) (noise : List Byte) :
    (s.serveRead r noise).engine.ranks = s.engine.ranks := by
  unfold State.serveRead
  split
  · rfl
  · exact bufferRead_ranks ..
  · exact congrArg Engine.ranks (portRead_engine ..)

theorem afterRead_engine : s.afterRead.engine = s.engine := rfl

end

/-! ## The owners' parts of the requests -/

section
variable (p : Port) (body : List Byte) (s : State)

theorem respond_ordered (r : Byte) (c : AnswerCode) (bytes : List Byte) : Ordered s (s.respond p r c bytes) :=
  .ofEngine (respond_engine ..)

theorem serveBook_ordered : Ordered s (s.serveBook p body) := by
  unfold State.serveBook
  split
  · exact respond_ordered ..
  · split
    · exact respond_ordered ..
    · split
      · exact respond_ordered ..
      · split
        · split
          · exact .ofEngine rfl
          · exact respond_ordered ..
        · exact (createBooking_ordered _ s _).trans (respond_ordered ..)

theorem serveAmend_ordered : Ordered s (s.serveAmend p body) := by
  have hchecked (n : Nat) (b : Booking) (r : BookingRecord) : Ordered s (s.amendChecked p n b r) := by
    unfold State.amendChecked
    dsimp only
    split
    · exact respond_ordered ..
    · split
      · exact .ofEngine rfl
      · exact (amendBooking_ordered n s r).trans (respond_ordered ..)
  unfold State.serveAmend
  repeat' split
  case h_2.isFalse.isFalse => exact hchecked ..
  all_goals exact respond_ordered ..

theorem serveWithdraw_ordered : Ordered s (s.serveWithdraw p body) := by
  unfold State.serveWithdraw
  split
  · exact respond_ordered ..
  · split
    · exact respond_ordered ..
    · split
      · exact respond_ordered ..
      · split
        · exact respond_ordered ..
        · split
          · exact .ofEngine rfl
          · exact (withdrawNow_ordered s _).trans (respond_ordered ..)

theorem servePlayNow_ordered : Ordered s (s.servePlayNow p body) := by
  unfold State.servePlayNow
  split
  · exact respond_ordered ..
  · split
    · exact respond_ordered ..
    · split
      · exact respond_ordered ..
      · exact (createImmediate_ordered _ s _).trans (respond_ordered ..)

theorem serveHalt_ordered : Ordered s (s.serveHalt p body) := by
  unfold State.serveHalt
  split
  · exact respond_ordered ..
  · dsimp only
    split
    · exact respond_ordered ..
    · split
      · exact respond_ordered ..
      · exact (halt_ordered s ..).trans (respond_ordered ..)

theorem serveLiveOpen_ordered : Ordered s (s.serveLiveOpen p body) := by
  unfold State.serveLiveOpen
  split
  · exact respond_ordered ..
  · split
    · exact respond_ordered ..
    · split
      · exact respond_ordered ..
      · split
        · exact respond_ordered ..
        · exact (respond_ordered ..).after ((createImmediate_ordered ..).afterEngine rfl)

theorem serveLiveNotes_ordered : Ordered s (s.serveLiveNotes p body) := by
  unfold State.serveLiveNotes
  split
  · exact respond_ordered ..
  · split
    · exact respond_ordered ..
    · exact (settle_ordered _).afterEngine (respond_engine ..)

theorem serveLiveClose_ordered : Ordered s (s.serveLiveClose p) := by
  unfold State.serveLiveClose
  split
  · exact respond_ordered ..
  · exact (settle_ordered _).afterEngine (respond_engine ..)

theorem serveRestoreBell_ordered : Ordered s (s.serveRestoreBell p body) := by
  unfold State.serveRestoreBell
  split
  · exact respond_ordered ..
  · split
    · exact respond_ordered ..
    · exact (respond_ordered ..).after ((arbiter_settle_ordered _).afterEngine rfl)
    all_goals exact respond_ordered ..

theorem serveTestStrike_ordered : Ordered s (s.serveTestStrike p body) := by
  unfold State.serveTestStrike
  split
  · exact respond_ordered ..
  · exact (settle_ordered _).afterRanks (by rw [respond_engine, planTest_ranks])

theorem serveSetTime_ordered : Ordered s (s.serveSetTime p body) := by
  unfold State.serveSetTime
  split
  · exact respond_ordered ..
  · exact (setCalendar_ordered s _).trans (respond_ordered ..)

/-! Requests that tell the Precedence Engine nothing leave it alone. -/

theorem serveLookUp_engine : (s.serveLookUp p body).engine = s.engine := by
  unfold State.serveLookUp
  repeat' split
  all_goals simp

theorem serveSetCursor_engine : (s.serveSetCursor p body).engine = s.engine := by
  unfold State.serveSetCursor
  split <;> simp [State.setCursor]

theorem serveBrowse_engine : (s.serveBrowse p).engine = s.engine := by
  unfold State.serveBrowse
  split <;> simp [State.setCursor]

theorem serveReadOutcomes_engine : (s.serveReadOutcomes p).engine = s.engine := by
  simp [State.serveReadOutcomes]

theorem serveDefine_engine : (s.serveDefine p body).engine = s.engine := by
  unfold State.serveDefine
  repeat' split
  all_goals simp

theorem serveStoreSegment_engine : (s.serveStoreSegment p body).engine = s.engine := by
  unfold State.serveStoreSegment
  dsimp only
  repeat' split
  all_goals simp

theorem serveReadSegment_engine : (s.serveReadSegment p body).engine = s.engine := by
  unfold State.serveReadSegment
  dsimp only
  repeat' split
  all_goals simp

theorem serveErase_engine : (s.serveErase p body).engine = s.engine := by
  unfold State.serveErase
  repeat' split
  all_goals simp

theorem serveMelodyInfo_engine : (s.serveMelodyInfo p body).engine = s.engine := by
  unfold State.serveMelodyInfo
  split <;> simp

theorem serveSetBell_engine : (s.serveSetBell p body).engine = s.engine := by
  unfold State.serveSetBell
  repeat' split
  all_goals simp

theorem serveBellStatus_engine : (s.serveBellStatus p body).engine = s.engine := by
  unfold State.serveBellStatus
  split <;> simp

theorem serveSetDrive_engine : (s.serveSetDrive p body).engine = s.engine := by
  unfold State.serveSetDrive
  repeat' split
  all_goals simp

theorem serveProtection_engine : (s.serveProtection p body).engine = s.engine := by
  unfold State.serveProtection
  repeat' split
  all_goals simp

theorem serveReadNotices_engine : (s.serveReadNotices p).engine = s.engine := by
  exact respond_engine ..

theorem serveMask_engine : (s.serveMask p body).engine = s.engine := by
  unfold State.serveMask
  split <;> exact respond_engine ..

theorem serveReset_engine : (s.serveReset p).engine = s.engine := respond_engine ..

/-- R184: whatever its code, a request's owner keeps the ranks ordered. -/
theorem serve_ordered (code : Byte) : Ordered s (s.serve p code body) := by
  unfold State.serve
  split
  · exact serveBook_ordered ..
  · exact serveAmend_ordered ..
  · exact serveWithdraw_ordered ..
  · exact .ofEngine (serveLookUp_engine ..)
  · exact .ofEngine (serveSetCursor_engine ..)
  · exact .ofEngine (serveBrowse_engine ..)
  · exact respond_ordered ..
  · exact .ofEngine (serveReadOutcomes_engine ..)
  · exact servePlayNow_ordered ..
  · exact serveHalt_ordered ..
  · exact respond_ordered ..
  · exact serveLiveOpen_ordered ..
  · exact serveLiveNotes_ordered ..
  · exact serveLiveClose_ordered ..
  · exact .ofEngine (serveDefine_engine ..)
  · exact .ofEngine (serveStoreSegment_engine ..)
  · exact .ofEngine (serveReadSegment_engine ..)
  · exact .ofEngine (serveErase_engine ..)
  · exact .ofEngine (serveMelodyInfo_engine ..)
  · exact .ofEngine (serveSetBell_engine ..)
  · exact .ofEngine (serveBellStatus_engine ..)
  · exact serveRestoreBell_ordered ..
  · exact serveTestStrike_ordered ..
  · exact .ofEngine (serveSetDrive_engine ..)
  · exact .ofEngine (serveProtection_engine ..)
  · exact serveSetTime_ordered ..
  · exact respond_ordered ..
  · exact .ofEngine (serveReadNotices_engine ..)
  · exact .ofEngine (serveMask_engine ..)
  · exact .ofEngine (serveReset_engine ..)
  · exact .refl s

end

end Sys2Proof.Machine
end


section
/-! PROOFS. Every step keeps the ranks strictly decreasing from the active context down the stack (R50): O9. -/

namespace Sys2Proof.Machine

/-! ## The links and the ports (R178–R186) -/

section
variable (p : Port) (s : State)

theorem gap_engine : (s.gap p).engine = s.engine := by
  unfold State.gap
  split
  · rfl
  · split <;> rfl

theorem startAnswer_engine : (s.startAnswer p).engine = s.engine := by
  unfold State.startAnswer
  repeat' split
  all_goals rfl

theorem finishAnswer_engine : (s.finishAnswer p).engine = s.engine := by
  unfold State.finishAnswer
  split <;> rfl

/-- R180–R184: a request keeps the ranks ordered when its owner does. -/
theorem takeRequest_ordered (code : Byte) (body : List Byte) {serve : State → State}
    (h : ∀ u, Ordered u (serve u)) : Ordered s (s.takeRequest p code body serve) := by
  unfold State.takeRequest
  split
  · exact .refl s
  · refine (Ordered.ofEngine (gap_engine p s)).trans ?_
    dsimp only
    split
    · exact .refl _
    · split
      · exact .ofEngine rfl
      · split
        · exact .ofEngine (respond_engine ..)
        · split
          · exact .ofEngine (respond_engine ..)
          · exact (h _).afterEngine rfl

theorem broadcast_ordered (body : List Byte) : Ordered s (s.broadcast body) := by
  unfold State.broadcast
  split
  · exact .refl s
  · refine (Ordered.ofEngine (gap_engine .main s)).trans ?_
    dsimp only
    split
    · exact .refl _
    · split
      · split
        · exact .refl _
        · exact setCalendar_ordered _ _
      · exact .refl _

theorem takeFrame_ordered (f : RequestFrame) : Ordered s (s.takeFrame p f) := by
  unfold State.takeFrame
  split
  · exact .refl s
  · split
    · exact .ofEngine rfl
    · exact .refl s
    · exact broadcast_ordered s _
    · exact takeRequest_ordered p s _ _ fun u => serve_ordered p _ u _

theorem frames_ordered (n : Nat) (bs : List Byte) : Ordered s (State.frames p n bs s) := by
  induction n generalizing bs s with
  | zero => exact .ofEngine rfl
  | succ n ih =>
    unfold State.frames
    split
    case h_5 => exact (ih _ _).afterEngine (keepBytes_engine ..)
    case h_6 => exact ((ih _ _).after (takeFrame_ordered p _ _)).afterEngine (keepBytes_engine ..)
    all_goals exact .ofEngine rfl

theorem receive_ordered (bytes : List Byte) : Ordered s (s.receive p bytes) := by
  unfold State.receive
  split
  · exact .refl s
  · exact frames_ordered ..

end

/-! ## Resets, the load and the feed (R144, R174–R177) -/

/-- R174: a reset leaves no context. -/
theorem resetWith_ordered (T : TowerTime) (lock key : Bool) (d : Drive) (straps : Straps) (cause : ResetCause)
    (atB : Bool) (s : State) : Ordered s (s.resetWith T lock key d straps cause atB) := ⟨fun _ => List.Pairwise.nil⟩

theorem finishLoad_engine (s : State) : s.finishLoad.engine = s.engine := by
  unfold State.finishLoad
  split
  · simp
  · rfl

theorem passDeadline_ranks (c : Context) (s : State) : (s.passDeadline c).engine.ranks = s.engine.ranks := by
  refine Eq.trans ?_ (modActive_ranks (f := fun c => { c with feedDeadline := none }) (fun _ => by rfl) s)
  unfold State.passDeadline
  dsimp only
  split
  · rfl
  · split <;> rfl

/-! ## Every command -/

/-- A command that answers one given next state keeps the ranks ordered when that state does. -/
theorem ordered_of_next {s t u : State} (h : Ordered s u)
    (e : (Host.Outcome.next u : Host.Outcome State Fault Refusal) = .next t) : Ordered s t := by
  cases e
  exact h

/-- R50: every command keeps the ranks ordered. -/
theorem exec_ordered (c : Instr) (s t : State) (h : exec c s = .next t) : Ordered s t := by
  have request (p : Port) (code : Byte) (body : List Byte) {serve : State → State} (hs : ∀ u, Ordered u (serve u)) :=
    takeRequest_ordered p s code body hs
  have quiet (p : Port) (code : Byte) (body : List Byte) {serve : State → State}
      (hs : ∀ u, (serve u).engine = u.engine) := takeRequest_ordered p s code body fun u => .ofEngine (hs u)
  have answer (p : Port) (code : Byte) (body : List Byte) (r : Byte) (a : AnswerCode) (f : State → List Byte) :=
    takeRequest_ordered p s code body fun u => respond_ordered p u r a (f u)
  cases c with
  | powerOn pins straps b => exact ordered_of_next (resetWith_ordered ..) h
  | towerReset straps b => exact ordered_of_next (resetWith_ordered ..) h
  | loadComplete => exact ordered_of_next (.ofEngine (finishLoad_engine s)) h
  | referencePulse => exact ordered_of_next (pulse_ordered s) h
  | pulseTimeout =>
    refine ordered_of_next ?_ h
    split
    · exact .refl s
    · split
      · exact .ofEngine (expirePulse_engine s)
      · exact .refl s
  | normalAdvance => exact ordered_of_next (normalAdvance_ordered s) h
  | setTime p body => exact ordered_of_next (request _ _ _ (serveSetTime_ordered p body)) h
  | broadcastSetTime body => exact ordered_of_next (broadcast_ordered s body) h
  | readTime p body => exact ordered_of_next (answer _ _ _ _ _ _) h
  | book p body => exact ordered_of_next (request _ _ _ (serveBook_ordered p body)) h
  | amend p body => exact ordered_of_next (request _ _ _ (serveAmend_ordered p body)) h
  | withdraw p body => exact ordered_of_next (request _ _ _ (serveWithdraw_ordered p body)) h
  | lookUp p body => exact ordered_of_next (quiet _ _ _ (serveLookUp_engine p body)) h
  | setCursor p body => exact ordered_of_next (quiet _ _ _ (serveSetCursor_engine p body)) h
  | browse p body => exact ordered_of_next (quiet _ _ _ (serveBrowse_engine p)) h
  | nextDue p body => exact ordered_of_next (answer _ _ _ _ _ _) h
  | readOutcomes p body => exact ordered_of_next (quiet _ _ _ (serveReadOutcomes_engine p)) h
  | playNow p body => exact ordered_of_next (request _ _ _ (servePlayNow_ordered p body)) h
  | halt p body => exact ordered_of_next (request _ _ _ (serveHalt_ordered p body)) h
  | performanceStatus p body => exact ordered_of_next (answer _ _ _ _ _ _) h
  | liveOpen p body => exact ordered_of_next (request _ _ _ (serveLiveOpen_ordered p body)) h
  | liveNotes p body => exact ordered_of_next (request _ _ _ (serveLiveNotes_ordered p body)) h
  | liveClose p body => exact ordered_of_next (request _ _ _ (serveLiveClose_ordered p)) h
  | defineMelody p body => exact ordered_of_next (quiet _ _ _ (serveDefine_engine p body)) h
  | storeSegment p body => exact ordered_of_next (quiet _ _ _ (serveStoreSegment_engine p body)) h
  | readSegment p body => exact ordered_of_next (quiet _ _ _ (serveReadSegment_engine p body)) h
  | eraseMelody p body => exact ordered_of_next (quiet _ _ _ (serveErase_engine p body)) h
  | melodyInfo p body => exact ordered_of_next (quiet _ _ _ (serveMelodyInfo_engine p body)) h
  | setBell p body => exact ordered_of_next (quiet _ _ _ (serveSetBell_engine p body)) h
  | bellStatus p body => exact ordered_of_next (quiet _ _ _ (serveBellStatus_engine p body)) h
  | restoreBell p body => exact ordered_of_next (request _ _ _ (serveRestoreBell_ordered p body)) h
  | testStrike p body => exact ordered_of_next (request _ _ _ (serveTestStrike_ordered p body)) h
  | setDrive p body => exact ordered_of_next (quiet _ _ _ (serveSetDrive_engine p body)) h
  | setProtection p body => exact ordered_of_next (quiet _ _ _ (serveProtection_engine p body)) h
  | readNotices p body => exact ordered_of_next (quiet _ _ _ (serveReadNotices_engine p)) h
  | setNoticeMask p body => exact ordered_of_next (quiet _ _ _ (serveMask_engine p body)) h
  | reset p body => exact ordered_of_next (quiet _ _ _ (serveReset_engine p)) h
  | resetTakesEffect straps b =>
    refine ordered_of_next ?_ h
    split
    · exact resetWith_ordered ..
    · exact .refl s
  | unknownRequest p code body => exact ordered_of_next (request _ _ _ fun u => serve_ordered p body u code) h
  | frameDiscard p bytes => exact ordered_of_next (receive_ordered p s bytes) h
  | foreignFrame p bytes => exact ordered_of_next (receive_ordered p s bytes) h
  | frameGapTimeout p bytes =>
    exact ordered_of_next ((receive_ordered p s bytes).trans (.ofEngine (gap_engine p _))) h
  | answerTransmitStart p => exact ordered_of_next (.ofEngine (startAnswer_engine p s)) h
  | answerSent p => exact ordered_of_next (.ofEngine (finishAnswer_engine p s)) h
  | keyChange on =>
    cases h
    exact .ofEngine rfl
  | hushAssert =>
    refine ordered_of_next ?_ h
    split
    · exact .refl s
    · exact .ofRanks (hushActive_ranks (s.setHush true))
  | hushRelease =>
    refine ordered_of_next ?_ h
    split
    · exact releaseHush_ordered s
    · exact .refl s
  | driveReadyFall =>
    refine ordered_of_next ?_ h
    split
    · exact fallReady_ordered s
    · exact .refl s
  | driveReadyRise =>
    refine ordered_of_next ?_ h
    split
    · exact .refl s
    · exact riseReady_ordered s
  | bankMeasurement value =>
    refine ordered_of_next ?_ h
    split
    · exact .ofEngine rfl
    · exact (settle_ordered _).afterRanks (reclassify_ranks _)
  | sensorOpens bell =>
    cases h
    exact .ofEngine rfl
  | sensorCloses bell => exact ordered_of_next ((hammerBack_ordered _ _).afterEngine (modBell_engine ..)) h
  | fireTimeReached => exact ordered_of_next (arbiter_settle_ordered s) h
  | pulseEnd bell =>
    refine ordered_of_next ?_ h
    split
    · exact .refl s
    · split
      · exact endPulse_ordered _ s _
      · exact .refl s
  | returnLimit bell =>
    refine ordered_of_next ?_ h
    split
    · exact (settle_ordered _).afterRanks (faultBell_ranks _ s _)
    · exact .refl s
  | recoveryTime bell =>
    refine ordered_of_next ?_ h
    split
    · exact .refl s
    · split
      · exact (arbiter_settle_ordered _).afterEngine (modBell_engine ..)
      · exact .refl s
  | entryDrop =>
    refine ordered_of_next ?_ h
    split
    · exact .refl s
    · exact (settle_ordered _).afterRanks (dropEntry_ranks s _)
  | planningHorizonReached => exact ordered_of_next (settle_ordered s) h
  | feedDeadline =>
    refine ordered_of_next ?_ h
    split
    · exact .refl s
    · split
      · exact .refl s
      · split
        · exact .ofRanks (passDeadline_ranks _ s)
        · exact .refl s
  | idleLimit =>
    refine ordered_of_next ?_ h
    split
    · exact endActive_choice_ordered ..
    · exact .refl s
  | storeCompletion result =>
    refine ordered_of_next ?_ h
    split
    · exact .refl s
    · split
      · exact completeOp_ordered s _ _
      · exact .refl s
  | suspendEnd =>
    refine ordered_of_next ?_ h
    split
    · exact .ofEngine rfl
    · exact .refl s
  | segmentReadCompletion noise =>
    refine ordered_of_next ?_ h
    split
    · exact .refl s
    · split
      · exact (settle_ordered _).afterRanks (by rw [afterRead_engine, serveRead_ranks])
      · exact .refl s

/-- Settles O9: a crystal period moves no context, and every command keeps the ranks ordered (`exec_ordered`). The
heart is that a context is put on top only where its rank exceeds every rank below it: a newcomer because it
outranks the active context (`clear_start_ordered`), the head of the waiting list because it outranks the stack
(`choose_ordered`). -/
theorem rankOrderIsKept : Obligations.RankOrderIsKept := by
  unfold Obligations.RankOrderIsKept
  intro s t hs h
  unfold step at h
  split at h
  · cases h
    exact hs
  · exact (exec_ordered _ _ t h).ranks hs

end Sys2Proof.Machine
end


section
/-! PROOFS. The end of a performance that stands alone (R60, R61, R89, R143): what every end without a stack and a
waiting list leaves. -/

namespace Sys2Proof.Machine

/-- R82, R89: a performance with nothing to reach that is at its end ends, and the resume choice follows. -/
theorem settle_ends {s : State} {k : OutcomeKind} (hreach : s.reachOne = none) (hdue : s.endDue = some k) :
    s.settle = (s.endActive k none false).resumeChoice := by
  simp [State.settle, reachAll_of_none s hreach, hdue]

theorem ownedBy_eq_true {e : StrikeEntry} {n : Nat} : e.ownedBy n = true ↔ e.owner = .booking n := by
  simp [StrikeEntry.ownedBy]

theorem hasEntries_of_ownsNothing {s : State} {n : Nat} (h : s.ownsNothing n) : s.hasEntries n = false := by
  simpa [State.ownsNothing, State.hasEntries, StrikeEntry.ownedBy] using h

/-- R111: a removal that picks nothing changes nothing. -/
theorem removeStrikes_of_none {s : State} {pick : StrikeEntry → Bool} (h : ∀ e ∈ s.planner.queue, pick e = false) :
    s.removeStrikes pick = s := by
  have hgone : s.planner.queue.filter pick = [] := List.filter_eq_nil_iff.2 fun e he => by simp [h e he]
  have hkept : s.planner.queue.filter (fun e => !pick e) = s.planner.queue :=
    List.filter_eq_self.2 fun e he => by simp [h e he]
  unfold State.removeStrikes
  rw [hgone, hkept]
  rfl

theorem removeOwner_of_ownsNothing {s : State} {n : Nat} (h : s.ownsNothing n) : s.removeOwner n = s :=
  removeStrikes_of_none fun e he => by simpa [StrikeEntry.ownedBy] using h e he

/-- R60: the end of a performance without strikes of its own. -/
theorem endActive_of_ownsNothing {s : State} {c : Context} (ha : s.engine.active = some c)
    (hown : s.ownsNothing c.booking) (k : OutcomeKind) (x : Option OutcomeCause) :
    s.endActive k x false = ({ s with
      player := .initial, store := s.store.releaseReads fun _ => true
      engine := { s.engine with active := none } } : State).dispose c.booking k x c.counts false := by
  unfold State.endActive
  simp only [ha, removeOwner_of_ownsNothing hown]
  rfl

/-- R31: the feed goes with the disposal of its booking. -/
theorem dispose_live {s : State} {n : Nat} {b : Booking} (hb : s.booking? n = some b)
    (hk : b.record.kind.immediate = true) (hl : ∀ l, s.live = some l → l.booking = n) (k : OutcomeKind)
    (x : Option OutcomeCause) (counts : StrikeCounts) (w : Bool) : (s.dispose n k x counts w).live = none := by
  rw [dispose_eq_removed hb (.inl hk)]
  cases hs : s.live with
  | none => rfl
  | some l => simp [hl l hs]

/-- R60, R61: with no stack and nothing waiting, nothing follows an end. -/
theorem endActive_choice_alone {s : State} (hs : s.engine.stack = []) (hw : s.engine.waiting = []) (k : OutcomeKind)
    (x : Option OutcomeCause) :
    (s.endActive k x false).resumeChoice = s.endActive k x false ∧
      (s.endActive k x false).engine = ⟨none, [], []⟩ := by
  have hengine : (s.endActive k x false).engine = ⟨none, [], []⟩ := by
    rw [endActive_engine]
    simp [hs, hw]
  exact ⟨resumeChoice_of_empty _ (by rw [hengine]) (by rw [hengine]), hengine⟩

/-- R60: what the end of a performance that stands alone leaves. -/
theorem end_alone {s : State} {c : Context} {b : Booking} (ha : s.engine.active = some c) (hs : s.engine.stack = [])
    (hw : s.engine.waiting = []) (hb : s.booking? c.booking = some b) (k : OutcomeKind) (x : Option OutcomeCause) :
    let t := (s.endActive k x false).resumeChoice
    t.engine = ⟨none, [], []⟩ ∧ t.links = s.links ∧ t.disposed c.booking b ⟨k, x, b.current, c.counts⟩ ∧
      ∀ e, e ∈ t.planner.queue ↔ e ∈ s.planner.queue ∧ e.owner ≠ .booking c.booking := by
  obtain ⟨hchoice, hengine⟩ := endActive_choice_alone hs hw k x
  obtain ⟨pl, st, heq, hqueue⟩ := endActive_eq ha k x false
  obtain ⟨book, live, notices, hframe⟩ := dispose_frame c.booking k x c.counts false { s with
    planner := pl, player := .initial, store := st, engine := { s.engine with active := none } }
  dsimp only
  rw [hchoice]
  refine ⟨hengine, ?_, ?_, ?_⟩
  · rw [heq, hframe]
  · rw [heq]
    refine dispose_disposed ?_ k x c.counts
    exact hb
  · rw [heq, hframe]
    intro e
    rw [show pl.queue = _ from hqueue, mem_removeOwner]

/-- R31, R60: a LIVE performance that stands alone takes its feed along. -/
theorem end_alone_live {s : State} {c : Context} {b : Booking} (ha : s.engine.active = some c)
    (hs : s.engine.stack = []) (hw : s.engine.waiting = []) (hb : s.booking? c.booking = some b)
    (hk : b.record.kind.immediate = true) (hl : ∀ l, s.live = some l → l.booking = c.booking) (k : OutcomeKind)
    (x : Option OutcomeCause) : (s.endActive k x false).resumeChoice.live = none := by
  obtain ⟨pl, st, heq, -⟩ := endActive_eq ha k x false
  rw [(endActive_choice_alone hs hw k x).1, heq]
  refine dispose_live ?_ hk ?_ ..
  · exact hb
  · exact hl

end Sys2Proof.Machine
end

section
/-! PROOFS. LIVE NOTES and LIVE CLOSE (R141–R143, R145): O39. -/

namespace Sys2Proof.Machine

/-! ## What the two requests do to the feed -/

/-- R141: how many events of a request are accepted. -/
theorem accepted_eq (l : LiveFeed) (es : List Event) :
    let k := if l.mode = .stopped then 0 else min es.length (32 - l.queue.length)
    l.accepted es = es.take k ∧ (l.accepted es).length = k := by
  have htake (n : Nat) : es.take (min es.length n) = es.take n := by
    rw [List.take_eq_take_iff]
    omega
  cases hm : l.mode with
  | stopped => simp [LiveFeed.accepted, hm]
  | opened | closing => simp [LiveFeed.accepted, hm, htake, Config.streamQueueMax, min_comm]

/-- R141, R145: the feed after an append of `k` accepted events. -/
theorem append_eq (l : LiveFeed) {es : List Event} {k : Nat} (hk : (es.take k).length = k) :
    l.append (es.take k) = { l with
      queue := l.queue ++ es.take k
      idle := if l.queue = [] ∧ k ≠ 0 then ⟨0, none⟩ else l.idle } := by
  have hempty : (es.take k).isEmpty = true ↔ k = 0 := by
    rw [List.isEmpty_iff, ← List.length_eq_zero_iff, hk]
  have hidle : (l.queue.isEmpty && !(es.take k).isEmpty) = true ↔ l.queue = [] ∧ k ≠ 0 := by
    rw [Bool.and_eq_true, List.isEmpty_iff, Bool.not_eq_true', ← Bool.not_eq_true, hempty]
  unfold LiveFeed.append
  simp only [hidle]
  rfl

/-- R143, R145: the feed after LIVE CLOSE. -/
theorem close_eq (l : LiveFeed) : l.close =
    if l.mode = .opened then { l with mode := .closing, endsHalted := false, idle := ⟨0, none⟩ } else l := by
  cases hm : l.mode with
  | opened =>
    simp only [LiveFeed.close, hm, if_true]
    rfl
  | closing | stopped => simp [LiveFeed.close, hm]

/-! ## The two requests at their owner -/

section
variable {p : Port} {body : List Byte} {es : List Event} {l : LiveFeed} {s : State}

/-- R141, R143, R183: the answer of a request that has changed the feed. -/
theorem respond_withLive (h : s.links.resetPending = false) (code : Byte) (a : AnswerCode) (answer : List Byte)
    (f : Option LiveFeed) :
    ({ s.taken p with live := f } : State).respond p code a answer = { s.answered p code a answer with live := f } :=
  respond_of_links (t := { s.taken p with live := f }) h rfl code a answer

/-- R141: LIVE NOTES answers, and the Score Player goes on. -/
theorem exec_liveNotes (h : s.takes p 0x0D body.length = true) (hes : parseLiveNotes body = some es)
    (hl : s.live = some l) :
    exec (.liveNotes p body) s = .next ({ s.answered p 0x0D .done
      (s.encLiveNotes (l.accepted es).length (l.append (l.accepted es))) with
        live := some (l.append (l.accepted es)) } : State).settle := by
  show Host.Outcome.next (s.takeRequest ..) = _
  have hlive : (s.taken p).live = some l := hl
  rw [takeRequest_takes h]
  simp only [State.serveLiveNotes, hes, hlive]
  rw [respond_withLive (resetPending_of_takes h)]
  rfl

/-- R143: LIVE CLOSE answers, and the Score Player goes on. -/
theorem exec_liveClose (h : s.takes p 0x0E 0 = true) (hl : s.live = some l) :
    exec (.liveClose p []) s = .next ({ s.answered p 0x0E .done l.close.encodeClose with
      live := some l.close } : State).settle := by
  show Host.Outcome.next (s.takeRequest ..) = _
  have hlive : (s.taken p).live = some l := hl
  rw [takeRequest_takes h]
  simp only [State.serveLiveClose, hlive]
  rw [respond_withLive (resetPending_of_takes h)]

/-- R141: without a LIVE booking LIVE NOTES is answered NO_SUCH. -/
theorem exec_liveNotes_noSuch (h : s.takes p 0x0D body.length = true) (hes : parseLiveNotes body = some es)
    (hl : s.live = none) : exec (.liveNotes p body) s = .next (s.answered p 0x0D .noSuch []) := by
  have hlive : (s.taken p).live = none := hl
  refine congrArg Host.Outcome.next (takeRequest_answered h ?_)
  simp only [State.serveLiveNotes, hes, hlive]

/-- R143: without a LIVE booking LIVE CLOSE is answered NO_SUCH. -/
theorem exec_liveClose_noSuch (h : s.takes p 0x0E 0 = true) (hl : s.live = none) :
    exec (.liveClose p []) s = .next (s.answered p 0x0E .noSuch []) := by
  have hlive : (s.taken p).live = none := hl
  refine congrArg Host.Outcome.next (takeRequest_answered h ?_)
  simp only [State.serveLiveClose, hlive]

end

/-! ## The end of a live performance (R143) -/

/-- R142, R143: a live performance with nothing queued reaches nothing. -/
theorem reachOne_of_live_empty {s : State} {c : Context} {l : LiveFeed} (ha : s.engine.active = some c)
    (hk : c.melodyKind = none) (hl : s.live = some l) (hq : l.queue = []) : s.reachOne = none := by
  unfold State.reachOne
  simp [ha, hk, State.reachLive, hl, hq]

/-- R143: a live performance at play with no strike of its own ends as its feed says. -/
theorem endDue_of_live {s : State} {c : Context} {l : LiveFeed} (ha : s.engine.active = some c)
    (hm : c.mode = .playing) (hk : c.melodyKind = none) (hl : s.live = some l) (hown : s.ownsNothing c.booking) :
    s.endDue = l.ending := by
  simp [State.endDue, ha, hm, hk, hl, hasEntries_of_ownsNothing hown]

/-- R60, R143: the end of a live performance that stands alone, with nothing queued and no strike of its own. -/
theorem live_ends_alone {s : State} {c : Context} {b : Booking} {l : LiveFeed} {k : OutcomeKind}
    (he : s.engine = ⟨some c, [], []⟩) (hm : c.mode = .playing) (hk : c.melodyKind = none) (hl : s.live = some l)
    (hq : l.queue = []) (hend : l.ending = some k) (hown : s.ownsNothing c.booking)
    (hb : s.booking? c.booking = some b) :
    s.settle.engine = ⟨none, [], []⟩ ∧ s.settle.links = s.links ∧
      s.settle.disposed c.booking b ⟨k, none, b.current, c.counts⟩ ∧
      (l.booking = c.booking → b.record.kind.immediate = true → s.settle.live = none) := by
  have ha : s.engine.active = some c := by rw [he]
  have hstack : s.engine.stack = [] := by rw [he]
  have hwaiting : s.engine.waiting = [] := by rw [he]
  have hdue : s.endDue = some k := (endDue_of_live ha hm hk hl hown).trans hend
  obtain ⟨hengine, hlinks, hdisposed, -⟩ := end_alone ha hstack hwaiting hb k none
  rw [settle_ends (reachOne_of_live_empty ha hk hl hq) hdue]
  refine ⟨hengine, hlinks, hdisposed, fun hbooking himm => ?_⟩
  refine end_alone_live ha hstack hwaiting hb himm (fun x hx => ?_) k none
  cases hl.symm.trans hx
  exact hbooking

/-- Settles O39: LIVE NOTES and LIVE CLOSE answer and settle (`exec_liveNotes`, `exec_liveClose`); a feed closed with
nothing left is at its end (`endDue_of_live`), and the end stands alone (`end_alone`). -/
theorem liveNotesAndClose : Obligations.LiveNotesAndClose := by
  unfold Obligations.LiveNotesAndClose
  refine ⟨fun p body es l s h hes hl => ?_, fun p l s h hl => ?_, fun p s h hl => exec_liveClose_noSuch h hl,
    fun p body es s h hes hl => exec_liveNotes_noSuch h hes hl⟩
  · obtain ⟨htaken, hlength⟩ := accepted_eq l es
    dsimp only at htaken hlength ⊢
    generalize (if l.mode = .stopped then 0 else min es.length (32 - l.queue.length)) = k at htaken hlength ⊢
    have hexec := exec_liveNotes h hes hl
    rw [htaken] at hlength hexec
    rw [append_eq l hlength, hlength] at hexec
    simp only [State.encLiveNotes, List.length_append, hlength] at hexec
    refine ⟨fun hrests => ?_, hexec⟩
    rw [hexec]
    exact congrArg Host.Outcome.next (settle_of_rests _ hrests)
  · have hexec := exec_liveClose h hl
    have hqueue : l.close.queue = l.queue := close_queue l
    have hunder : l.close.underruns = l.underruns ∧ l.close.booking = l.booking := by
      rw [close_eq]
      split <;> exact ⟨rfl, rfl⟩
    unfold LiveFeed.encodeClose at hexec
    rw [hqueue, hunder.1, hunder.2, close_eq] at hexec
    dsimp only
    refine ⟨fun hrests => ?_, hexec, fun c b he hm hk hbooking hopen hq hown hb hkind => ?_⟩
    · rw [hexec]
      exact congrArg Host.Outcome.next (settle_of_rests _ hrests)
    · rw [if_pos hopen] at hexec ⊢
      have himm : b.record.kind.immediate = true := by rw [hkind]; rfl
      let closed : LiveFeed := { l with mode := .closing, endsHalted := false, idle := ⟨0, none⟩ }
      let t : State := { s.answered p 0x0E .done (be 1 l.booking ++ be 1 closed.mode.code ++ be 1 l.queue.length ++
        be 2 l.underruns) with live := some closed }
      have hend : closed.ending = some .played := by simp [LiveFeed.ending, closed, hq]
      obtain ⟨hengine, hlinks, hdisposed, hgone⟩ :=
        live_ends_alone (s := t) (l := closed) he hm hk rfl hq hend hown hb
      exact ⟨_, hexec, hengine, hgone hbooking himm, hlinks, hdisposed⟩

end Sys2Proof.Machine
end


section
/-! PROOFS. Contexts that end one after another (R60, R64, R70): what a whole engine's end leaves of the bookings. -/

namespace Sys2Proof.Machine

/-! ## Orphans that stay (R32) -/

/-- An outcome stands in the list with at most `k` behind it. -/
def Recent (k : Nat) (o : Orphan) (l : List Orphan) : Prop := ∃ pre post, l = pre ++ o :: post ∧ post.length ≤ k

theorem Recent.mem {k : Nat} {o : Orphan} {l : List Orphan} (h : Recent k o l) : o ∈ l := by
  obtain ⟨pre, post, rfl, -⟩ := h
  simp

/-- R32: an outcome with fewer than seven behind it survives the next one. -/
theorem Recent.orphan {k : Nat} {o x : Orphan} {b : Book} (h : Recent k o b.orphans) (hk : k < 7) :
    Recent (k + 1) o (b.orphan x).orphans := by
  obtain ⟨pre, post, hl, hpost⟩ := h
  have hmax : Config.orphanMax = 8 := rfl
  have hdrop : b.orphans.length + 1 - Config.orphanMax ≤ pre.length := by
    rw [hl, List.length_append, List.length_cons]
    omega
  refine ⟨pre.drop (b.orphans.length + 1 - Config.orphanMax), post ++ [x], ?_, by simpa using hpost⟩
  rw [Book.orphan, hl, List.drop_append_of_le_length (by rwa [← hl]), List.append_assoc]
  rfl

/-- R32: the outcome that joined last. -/
theorem recent_orphan (b : Book) (o : Orphan) : Recent 0 o (b.orphan o).orphans := ⟨_, [], rfl, Nat.le_refl 0⟩

/-! ## Disposals of many bookings (R30, R31) -/

/-- The contexts' bookings are disposed one after another, each with its context's counts. -/
def State.disposeContexts (s : State) (k : OutcomeKind) (l : List Context) : State :=
  l.foldl (fun s c => s.dispose c.booking k none c.counts false) s

/-- Another engine, planner, player and store. -/
def State.withPlay (s : State) (e : Engine) (pl : Planner) (py : Player) (st : Store) : State :=
  { s with engine := e, planner := pl, player := py, store := st }

section
variable (s : State) (e e' : Engine) (pl pl' : Planner) (py py' : Player) (st st' : Store)

@[simp] theorem withPlay_withPlay : (s.withPlay e pl py st).withPlay e' pl' py' st' = s.withPlay e' pl' py' st' := rfl

@[simp] theorem withPlay_engine : (s.withPlay e pl py st).engine = e := rfl

@[simp] theorem withPlay_planner : (s.withPlay e pl py st).planner = pl := rfl

@[simp] theorem withPlay_player : (s.withPlay e pl py st).player = py := rfl

@[simp] theorem withPlay_store : (s.withPlay e pl py st).store = st := rfl

/-- R30, R31: a disposal neither reads nor changes the engine, the players and the store. -/
theorem dispose_withPlay (n : Nat) (k : OutcomeKind) (x : Option OutcomeCause) (counts : StrikeCounts) :
    (s.withPlay e pl py st).dispose n k x counts false = (s.dispose n k x counts false).withPlay e pl py st := by
  cases hb : s.booking? n with
  | none =>
    have hb' : (s.withPlay e pl py st).booking? n = none := hb
    rw [dispose_of_none hb, dispose_of_none hb']
  | some b =>
    have hb' : (s.withPlay e pl py st).booking? n = some b := hb
    by_cases h : b.record.kind.immediate = true
    · rw [dispose_eq_removed hb (.inl h), dispose_eq_removed hb' (.inl h)]
      rfl
    · rw [dispose_eq_written hb (by simpa using h), dispose_eq_written hb' (by simpa using h)]
      rfl

theorem disposeContexts_withPlay (k : OutcomeKind) (l : List Context) :
    (s.withPlay e pl py st).disposeContexts k l = (s.disposeContexts k l).withPlay e pl py st := by
  induction l generalizing s with
  | nil => rfl
  | cons c l ih =>
    show State.disposeContexts (State.dispose ..) k l = _
    rw [dispose_withPlay, ih]
    rfl

end

theorem disposeContexts_append (s : State) (k : OutcomeKind) (l m : List Context) :
    s.disposeContexts k (l ++ m) = (s.disposeContexts k l).disposeContexts k m := List.foldl_append

/-- R30–R32: the disposals stay in the table, the notices and the feed. -/
theorem disposeContexts_frame (s : State) (k : OutcomeKind) (l : List Context) : ∃ book live notices,
    s.disposeContexts k l = { s with book := book, live := live, notices := notices } := by
  induction l generalizing s with
  | nil => exact ⟨_, _, _, rfl⟩
  | cons c l ih =>
    obtain ⟨book, live, notices, heq⟩ := dispose_frame c.booking k none c.counts false s
    obtain ⟨book', live', notices', heq'⟩ := ih (s.dispose c.booking k none c.counts false)
    refine ⟨book', live', notices', heq'.trans ?_⟩
    rw [heq]

section
variable {s : State} {k : OutcomeKind}

/-- R31, R139: a disposal of another booking leaves the feed. -/
theorem dispose_live_ne {n : Nat} (h : ∀ l, s.live = some l → l.booking ≠ n) (x : Option OutcomeCause)
    (counts : StrikeCounts) : (s.dispose n k x counts false).live = s.live := by
  cases hb : s.booking? n with
  | none => rw [dispose_of_none hb]
  | some b =>
    by_cases hi : b.record.kind.immediate = true
    · rw [dispose_eq_removed hb (.inl hi)]
      cases hl : s.live with
      | none => rfl
      | some l => simp [h l hl]
    · rw [dispose_eq_written hb (by simpa using hi)]
      rfl

/-- R31: no disposal makes a feed. -/
theorem dispose_live_sub {n : Nat} {x : Option OutcomeCause} {counts : StrikeCounts} {l : LiveFeed}
    (h : (s.dispose n k x counts false).live = some l) : s.live = some l := by
  cases hb : s.booking? n with
  | none => rwa [dispose_of_none hb] at h
  | some b =>
    by_cases hi : b.record.kind.immediate = true
    · rw [dispose_eq_removed hb (.inl hi)] at h
      dsimp only at h
      split at h
      · cases h
      · exact h
    · rwa [dispose_eq_written hb (by simpa using hi)] at h

/-- R32: a disposal brings one outcome at most. -/
theorem Recent.dispose {j : Nat} {o : Orphan} (h : Recent j o s.book.orphans) (hj : j < 7) (n : Nat)
    (x : Option OutcomeCause) (counts : StrikeCounts) :
    Recent (j + 1) o (s.dispose n k x counts false).book.orphans := by
  have hsame : Recent (j + 1) o s.book.orphans := by
    obtain ⟨pre, post, hl, hpost⟩ := h
    exact ⟨pre, post, hl, hpost.trans (Nat.le_succ j)⟩
  cases hb : s.booking? n with
  | none => rwa [dispose_of_none hb]
  | some b =>
    by_cases hi : b.record.kind.immediate = true
    · rw [dispose_eq_removed hb (.inl hi)]
      exact h.orphan hj
    · rwa [dispose_eq_written hb (by simpa using hi)]

variable {l : List Context}

theorem disposeContexts_flags {n : Notice} (h : s.notices.flags.get n = true) :
    (s.disposeContexts k l).notices.flags.get n = true := by
  induction l generalizing s with
  | nil => exact h
  | cons c l ih => exact ih ((dispose_tidy c.booking k none c.counts false s).flags n h)

theorem disposeContexts_booking?_ne {n : Nat} (h : ∀ x ∈ l, x.booking ≠ n) :
    (s.disposeContexts k l).booking? n = s.booking? n := by
  induction l generalizing s with
  | nil => rfl
  | cons c l ih =>
    obtain ⟨hc, hl⟩ := List.forall_mem_cons.1 h
    exact (ih hl).trans (dispose_booking?_ne (Ne.symm hc) ..)

theorem disposeContexts_live_ne {f : LiveFeed} (hf : s.live = some f) (h : ∀ x ∈ l, x.booking ≠ f.booking) :
    (s.disposeContexts k l).live = some f := by
  induction l generalizing s with
  | nil => exact hf
  | cons c l ih =>
    obtain ⟨hc, hl⟩ := List.forall_mem_cons.1 h
    refine ih ((dispose_live_ne (fun g hg => ?_) none c.counts).trans hf) hl
    cases hf.symm.trans hg
    exact Ne.symm hc

theorem disposeContexts_live_none (h : s.live = none) : (s.disposeContexts k l).live = none := by
  induction l generalizing s with
  | nil => exact h
  | cons c l ih =>
    refine ih ?_
    cases hl : (s.dispose c.booking k none c.counts false).live with
    | none => rfl
    | some f => exact (h.symm.trans (dispose_live_sub hl)).symm ▸ rfl

theorem disposeContexts_live_sub {f : LiveFeed} (h : (s.disposeContexts k l).live = some f) : s.live = some f := by
  induction l generalizing s with
  | nil => exact h
  | cons c l ih => exact dispose_live_sub (ih h)

theorem Recent.disposeContexts {j : Nat} {o : Orphan} (h : Recent j o s.book.orphans) (hj : j + l.length ≤ 7) :
    Recent (j + l.length) o (s.disposeContexts k l).book.orphans := by
  induction l generalizing s j with
  | nil => exact h
  | cons c l ih =>
    rw [List.length_cons] at hj ⊢
    have hstep := ih (h.dispose (k := k) (by omega) c.booking none c.counts) (by omega)
    rw [show j + (l.length + 1) = j + 1 + l.length by omega]
    exact hstep

/-- What the end of context `x` leaves of its booking `b` when other contexts have ended with it. -/
structure EndedWith (s t : State) (k : OutcomeKind) (l : List Context) (x : Context) (b : Booking) : Prop where
  outcome : t.notices.flags.outcome = true
  written : b.record.kind.immediate = false → ∃ b', t.booking? x.booking = some b' ∧ b'.unread = true ∧
    b'.busy = false ∧ b'.lastOutcome = some ⟨k, none, b.current, x.counts⟩
  removed : b.record.kind.immediate = true → t.booking? x.booking = none
  orphan : b.record.kind.immediate = true → l.length ≤ 8 →
    ⟨x.booking, b.record.kind, ⟨k, none, b.current, x.counts⟩⟩ ∈ t.book.orphans
  feed : b.record.kind.immediate = true → ∀ f, s.live = some f → f.booking = x.booking → t.live = none

/-- R30–R32, R60: of each context's booking the disposals leave what its own disposal leaves. -/
theorem disposeContexts_ended (hnodup : (l.map Context.booking).Nodup) {x : Context} (hx : x ∈ l) {b : Booking}
    (hb : s.booking? x.booking = some b) : EndedWith s (s.disposeContexts k l) k l x b := by
  obtain ⟨pre, post, rfl⟩ := List.append_of_mem hx
  rw [List.map_append, List.map_cons, List.nodup_append, List.nodup_cons] at hnodup
  obtain ⟨-, ⟨hpost, -⟩, hdisjoint⟩ := hnodup
  have hpreNe : ∀ y ∈ pre, y.booking ≠ x.booking := fun y hy =>
    hdisjoint y.booking (List.mem_map_of_mem hy) x.booking (List.mem_cons_self ..)
  have hpostNe : ∀ y ∈ post, y.booking ≠ x.booking := fun y hy heq =>
    hpost (heq ▸ List.mem_map_of_mem (f := Context.booking) hy)
  let u := s.disposeContexts k pre
  let v := u.dispose x.booking k none x.counts false
  have hu : u.booking? x.booking = some b := (disposeContexts_booking?_ne hpreNe).trans hb
  have hall : s.disposeContexts k (pre ++ x :: post) = v.disposeContexts k post := disposeContexts_append ..
  have hbooking : (v.disposeContexts k post).booking? x.booking = v.booking? x.booking :=
    disposeContexts_booking?_ne hpostNe
  obtain ⟨houtcome, hwritten, hremoved⟩ := dispose_disposed hu k none x.counts
  rw [hall]
  refine ⟨disposeContexts_flags (n := .outcome) houtcome, fun hi => ?_, fun hi => ?_, fun hi hlength => ?_,
    fun hi f hf hfx => ?_⟩
  · rw [hbooking]
    exact hwritten hi
  · rw [hbooking]
    exact (hremoved hi).1
  · have hrecent : Recent 0 ⟨x.booking, b.record.kind, ⟨k, none, b.current, x.counts⟩⟩ v.book.orphans := by
      show Recent 0 _ (u.dispose x.booking k none x.counts false).book.orphans
      rw [dispose_eq_removed hu (.inl hi)]
      exact recent_orphan _ _
    rw [List.length_append, List.length_cons] at hlength
    exact (hrecent.disposeContexts (by omega)).mem
  · refine disposeContexts_live_none (dispose_live hu hi (fun g hg => ?_) ..)
    cases hf.symm.trans (disposeContexts_live_sub hg)
    exact hfx

end

/-! ## Every context ends (R60, R64, R70) -/

theorem endStacked_eq (c : Context) (k : OutcomeKind) (s : State) : s.endStacked c k none false =
    (s.dispose c.booking k none c.counts false).withPlay
      { s.engine with stack := s.engine.stack.filter (·.booking != c.booking) } s.planner s.player s.store :=
  dispose_withPlay ..

/-- R60: the stacked contexts end from the top on. -/
theorem foldl_endStacked (k : OutcomeKind) (l : List Context) (s : State) :
    l.foldl (fun s c => s.endStacked c k none false) s = (s.disposeContexts k l).withPlay
      { s.engine with stack := s.engine.stack.filter fun y => l.all fun x => y.booking != x.booking }
      s.planner s.player s.store := by
  induction l generalizing s with
  | nil => simp [State.disposeContexts, State.withPlay]
  | cons c l ih =>
    have hcons : s.disposeContexts k (c :: l) = (s.dispose c.booking k none c.counts false).disposeContexts k l := rfl
    have hfilter : (s.engine.stack.filter (·.booking != c.booking)).filter
        (fun y => l.all fun x => y.booking != x.booking) =
          s.engine.stack.filter fun y => (c :: l).all fun x => y.booking != x.booking := by
      simp only [List.filter_filter, List.all_cons, Bool.and_comm]
    rw [List.foldl_cons, ih, endStacked_eq, disposeContexts_withPlay, hcons, ← hfilter]
    rfl

/-- R60: every context ends, the active one first; the players are the engine's to leave. -/
theorem endAll_eq (k : OutcomeKind) (s : State) : ∃ pl py st,
    (s.endActive k none false).engine.stack.foldl (fun s c => s.endStacked c k none false)
        (s.endActive k none false) =
      (s.disposeContexts k (s.engine.active.toList ++ s.engine.stack)).withPlay
        { s.engine with active := none, stack := [] } pl py st := by
  have hnone (l : List Context) : (l.filter fun y => l.all fun x => y.booking != x.booking) = [] := by
    refine List.filter_eq_nil_iff.2 fun y hy hall => ?_
    simpa using List.all_eq_true.1 hall y hy
  have hstack : (s.endActive k none false).engine.stack = s.engine.stack := by rw [endActive_engine]
  rw [foldl_endStacked, hstack, hnone, endActive_engine]
  cases ha : s.engine.active with
  | none =>
    have hs : s.endActive k none false = s := by simp [State.endActive, ha]
    rw [hs]
    exact ⟨_, _, _, rfl⟩
  | some c =>
    obtain ⟨pl, st, heq, -⟩ := endActive_eq ha k none false
    have hend : s.endActive k none false = (s.dispose c.booking k none c.counts false).withPlay
        { s.engine with active := none } pl .initial st := heq.trans (dispose_withPlay ..)
    rw [hend, disposeContexts_withPlay]
    exact ⟨_, _, _, rfl⟩

end Sys2Proof.Machine
end


section
/-! PROOFS. The arbiter apart from the performances (R128, R129), and the coils of a drive that falls (R134). -/

namespace Sys2Proof.Machine

/-! ## The arbiter (R128, R129) -/

section
variable {s : State}

/-- R110, R129: a fire of an entry that no performance at play owns stays in the planner and the drive. -/
theorem fire_frame {e : StrikeEntry} (h : ∀ c, s.engine.active = some c → e.owner ≠ .booking c.booking) :
    ∃ pl dr, s.fire e = { s with planner := pl, drive := dr } ∧ pl.queue = s.planner.queue.erase e := by
  have hcounts (f : StrikeCounts → StrikeCounts) : s.countsOf e.owner f = s := by
    unfold State.countsOf State.modActive
    cases ha : s.engine.active with
    | none =>
      rw [Option.map_none, ← ha]
    | some c => rw [Option.map_some, if_neg (h c ha), ← ha]
  rw [fire_eq]
  unfold State.afterFire
  simp only [hcounts]
  exact ⟨_, _, rfl, rfl⟩

/-- R128: where no performance at play owns a strike, the arbiter stays in the planner and the drive, and entries
only leave. -/
theorem arbiter_frame (h : ∀ c, s.engine.active = some c → s.ownsNothing c.booking) :
    ∃ pl dr, s.arbiter = { s with planner := pl, drive := dr } ∧ ∀ e ∈ pl.queue, e ∈ s.planner.queue := by
  suffices hfold : ∀ (l : List StrikeEntry) (u : State), (∀ e ∈ l, e ∈ s.planner.queue) →
      (∃ pl dr, u = { s with planner := pl, drive := dr } ∧ ∀ e ∈ pl.queue, e ∈ s.planner.queue) →
      ∃ pl dr, l.foldl State.fireIfEligible u = { s with planner := pl, drive := dr } ∧
        ∀ e ∈ pl.queue, e ∈ s.planner.queue from
    hfold s.planner.queue s (fun _ => id) ⟨_, _, rfl, fun _ => id⟩
  intro l
  induction l with
  | nil => exact fun u _ hu => hu
  | cons e l ih =>
    intro u hl hu
    obtain ⟨he, hl⟩ := List.forall_mem_cons.1 hl
    refine ih _ hl ?_
    unfold State.fireIfEligible
    split
    · obtain ⟨pl, dr, rfl, hpl⟩ := hu
      obtain ⟨pl', dr', heq, hqueue⟩ := fire_frame (s := { s with planner := pl, drive := dr }) (e := e)
        fun c hc => h c hc e he
      refine ⟨pl', dr', heq, fun x hx => hpl x ?_⟩
      rw [hqueue] at hx
      exact List.mem_of_mem_erase hx
    · exact hu

/-- R128: a closed arbiter does nothing. -/
theorem arbiter_of_closed (h : s.drive.arbiterOpen = false) : s.arbiter = s := by
  unfold State.arbiter
  generalize s.planner.queue = l
  induction l with
  | nil => rfl
  | cons e l ih =>
    have hstep : s.fireIfEligible e = s := by simp [State.fireIfEligible, State.eligible, h]
    rw [List.foldl_cons, hstep, ih]

/-- R128, R134: with the drive not ready the arbiter is closed. -/
theorem arbiterOpen_of_not_ready (h : s.drive.ready = false) : s.drive.arbiterOpen = false := by
  simp [Drive.arbiterOpen, h]

end

/-! ## Coils released (R134) -/

/-- R124, R125, R134: bell `x` after the release of its coil at time `now`. -/
def Bell.released (now : Nat) (x : Bell) : Bell :=
  match x.cycle with
  | none => x
  | some y =>
    if x.state = .driven then
      if y.sensor = true ∧ x.sensorOpen = true then
        { x with state := .returning, cycle := some { y with returnLimit := some (now + 1000 * y.r) } }
      else if y.a + 1000 * y.h ≤ now then { x with state := .ready, cycle := none }
      else { x with state := .recovering, cycle := some { y with returnLimit := none } }
    else x

theorem released_of_not_driven {now : Nat} {x : Bell} (h : x.state ≠ .driven) : x.released now = x := by
  unfold Bell.released
  split
  · rfl
  · exact if_neg h

theorem released_of_driven {now : Nat} {x : Bell} {y : Cycle} (h : x.state = .driven) (hy : x.cycle = some y) :
    x.released now =
      if y.sensor = true ∧ x.sensorOpen = true then
        { x with state := .returning, cycle := some { y with returnLimit := some (now + 1000 * y.r) } }
      else if y.a + 1000 * y.h ≤ now then { x with state := .ready, cycle := none }
      else { x with state := .recovering, cycle := some { y with returnLimit := none } } := by
  simp only [Bell.released, hy, h, if_true]

/-- R134: a bell with a cycle is DRIVEN no more. -/
theorem released_not_driven {now : Nat} {x : Bell} (h : x.state = .driven → x.cycle ≠ none) :
    (x.released now).state ≠ .driven := by
  by_cases hx : x.state = .driven
  · obtain ⟨y, hy⟩ := Option.ne_none_iff_exists'.1 (h hx)
    rw [released_of_driven hx hy]
    split
    · exact nofun
    · split <;> exact nofun
  · rwa [released_of_not_driven hx]

theorem released_strikes (now : Nat) (x : Bell) : (x.released now).strikes = x.strikes := by
  unfold Bell.released
  split
  · rfl
  · split
    · split
      · rfl
      · split <;> rfl
    · rfl

section
variable {s : State}

/-- R134: a bell in RECOVERING or READY while the drive is not ready lets nothing fire. -/
theorem toRecovering_of_not_ready (h : s.drive.ready = false) (b : Nat) (y : Cycle) : s.toRecovering b y =
    s.modBell b fun x => if y.a + 1000 * y.h ≤ s.now then { x with state := .ready, cycle := none }
      else { x with state := .recovering, cycle := some { y with returnLimit := none } } := by
  have hclosed : (s.modBell b Bell.toReady).drive.arbiterOpen = false := arbiterOpen_of_not_ready h
  unfold State.toRecovering
  rw [arbiter_of_closed hclosed]
  unfold Cycle.recovery
  split
  · rfl
  · rfl

/-- R134: a coil released while the drive is not ready lets nothing fire. -/
theorem releaseCoil_eq (h : s.drive.ready = false) (b : Nat) : s.releaseCoil b =
    if (s.bell b).state = .driven ∧ (s.bell b).cycle ≠ none then s.coilFreed.modBell b (Bell.released s.now)
    else s := by
  unfold State.releaseCoil
  rw [coilOff_eq]
  cases hc : (s.bell b).cycle with
  | none => simp
  | some y =>
    by_cases hd : (s.bell b).state = .driven
    · simp only [hd, if_true, ne_eq, reduceCtorEq, not_false_eq_true, and_self]
      have hreleased := released_of_driven (now := s.now) hd hc
      split
      · rename_i hopen
        refine modBell_congr (s := s.coilFreed) ?_
        exact (hreleased.trans (if_pos (Bool.and_eq_true_iff.1 hopen))).symm
      · rename_i hopen
        rw [toRecovering_of_not_ready (s := s.coilFreed) h]
        refine modBell_congr (s := s.coilFreed) ?_
        exact (hreleased.trans (if_neg fun h => hopen (Bool.and_eq_true_iff.2 h))).symm
    · simp [hd]

theorem bell_modBell_ne {b n : Nat} (h : n ≠ b) (f : Bell → Bell) : (s.modBell b f).bell n = s.bell n := by
  simp [State.modBell, State.bell, List.getD_eq_getElem?_getD, Ne.symm h]

/-- A bell past the table is OFF. -/
theorem lt_of_driven {b : Nat} (h : (s.bell b).state = .driven) : b < s.drive.bells.length := by
  by_contra hb
  have hbell : s.bell b = .initial false := by
    simp [State.bell, List.getD_eq_getElem?_getD, List.getElem?_eq_none (Nat.not_lt.1 hb)]
  rw [hbell] at h
  cases h

/-- A place that held the property and holds it no more counts one less. -/
theorem countP_modify_of_leaves {α : Type} {p : α → Bool} {f : α → α} {l : List α} {i : Nat} (hi : i < l.length)
    (hp : p l[i] = true) (hq : ¬ p (f l[i]) = true) : l.countP p = (l.modify i f).countP p + 1 := by
  have hl : l = l.take i ++ l[i] :: l.drop (i + 1) := by simp
  rw [List.modify_eq_take_cons_drop hi, List.countP_append, List.countP_cons_of_neg hq]
  conv_lhs => rw [hl]
  rw [List.countP_append, List.countP_cons_of_pos hp, Nat.add_assoc]

/-- R134: the coils of the bells `l` are released from `s` to `t`. -/
structure CoilsReleased (l : List Nat) (s t : State) : Prop where
  frame : ∃ dr, t = { s with drive := dr }
  ready : t.drive.ready = s.drive.ready
  hush : t.drive.hush = s.drive.hush
  level : t.drive.level = s.drive.level
  table : t.drive.bells.length = s.drive.bells.length
  inside : ∀ b ∈ l, t.bell b = (s.bell b).released s.now
  outside : ∀ b, b ∉ l → t.bell b = s.bell b
  counted : s.coilsCounted = true → t.coilsCounted = true

theorem CoilsReleased.now {l : List Nat} {s t : State} (h : CoilsReleased l s t) : t.now = s.now := by
  obtain ⟨dr, rfl⟩ := h.frame
  rfl

theorem releaseCoil_released (h : s.drive.ready = false) (b : Nat) : CoilsReleased [b] s (s.releaseCoil b) := by
  rw [releaseCoil_eq h]
  split
  · rename_i hdriven
    have hlt := lt_of_driven hdriven.1
    refine ⟨⟨_, rfl⟩, rfl, rfl, rfl, List.length_modify .., fun n hn => ?_,
      fun n hn => bell_modBell_ne (s := s.coilFreed) (List.ne_of_not_mem_cons hn) _, fun hcount => ?_⟩
    · rw [List.mem_singleton.1 hn]
      exact bell_modBell_self (s := s.coilFreed) hlt _
    · have hbell : s.drive.bells[b] = s.bell b := by
        simp [State.bell, List.getD_eq_getElem?_getD, hlt]
      have hgone : ((s.bell b).released s.now).state ≠ .driven := released_not_driven fun _ => hdriven.2
      have hdrop := countP_modify_of_leaves (p := fun x => x.state == .driven) (f := Bell.released s.now) hlt
        (by simpa [hbell] using hdriven.1) (by simpa [hbell] using hgone)
      simp only [State.coilsCounted, beq_iff_eq] at hcount ⊢
      show s.drive.energised - 1 = List.countP _ (s.drive.bells.modify b _)
      rw [hcount, hdrop, Nat.add_sub_cancel]
  · rename_i hnot
    refine ⟨⟨_, rfl⟩, rfl, rfl, rfl, rfl, fun n hn => ?_, fun _ _ => rfl, id⟩
    rw [List.mem_singleton.1 hn]
    by_cases hd : (s.bell b).state = .driven
    · have hc : (s.bell b).cycle = none := by
        by_contra hc
        exact hnot ⟨hd, hc⟩
      simp [Bell.released, hc]
    · rw [released_of_not_driven hd]

/-- R134: a coil is released once. -/
theorem released_released (now : Nat) (x : Bell) : (x.released now).released now = x.released now := by
  by_cases hd : x.state = .driven
  · cases hc : x.cycle with
    | none => simp [Bell.released, hc]
    | some y => exact released_of_not_driven (released_not_driven fun _ => by simp [hc])
  · rw [released_of_not_driven hd, released_of_not_driven hd]

/-- R134: every coil is released. -/
theorem releaseAllCoils_released (h : s.drive.ready = false) : CoilsReleased bellNumbers s s.releaseAllCoils := by
  unfold State.releaseAllCoils
  generalize bellNumbers = l
  induction l generalizing s with
  | nil => exact ⟨⟨_, rfl⟩, rfl, rfl, rfl, rfl, nofun, fun _ _ => rfl, id⟩
  | cons b l ih =>
    have hone := releaseCoil_released h b
    have hrest := ih (hone.ready.trans h)
    have hat : (s.releaseCoil b).bell b = (s.bell b).released s.now := hone.inside b (List.mem_singleton_self b)
    have hoff (n : Nat) (hn : n ≠ b) : (s.releaseCoil b).bell n = s.bell n := hone.outside n (by simpa using hn)
    refine ⟨?_, hrest.ready.trans hone.ready, hrest.hush.trans hone.hush, hrest.level.trans hone.level,
      hrest.table.trans hone.table, fun n hn => ?_, fun n hn => ?_, hrest.counted ∘ hone.counted⟩
    · obtain ⟨dr, hdr⟩ := hone.frame
      obtain ⟨dr', hdr'⟩ := hrest.frame
      exact ⟨dr', hdr'.trans (by rw [hdr])⟩
    · rw [List.foldl_cons]
      by_cases hl : n ∈ l
      · rw [hrest.inside n hl, hone.now]
        by_cases hnb : n = b
        · rw [hnb, hat, released_released]
        · rw [hoff n hnb]
      · have hnb : n = b := (List.mem_cons.1 hn).resolve_right hl
        rw [hrest.outside n hl, hnb, hat]
    · obtain ⟨hnb, hl⟩ := not_or.1 (mt List.mem_cons.2 hn)
      exact (hrest.outside n hl).trans (hoff n hnb)

/-- R127, R134: with every coil released none is energised. -/
theorem energised_of_released {t : State} (h : CoilsReleased bellNumbers s t) (hcount : s.coilsCounted = true)
    (hlength : s.drive.bells.length = 64)
    (hcycle : ∀ b, b < 64 → (s.bell b).state = .driven → (s.bell b).cycle ≠ none) :
    t.drive.energised = 0 := by
  have ht : t.drive.energised = t.drive.bells.countP fun b => b.state == .driven := by
    simpa [State.coilsCounted] using h.counted hcount
  rw [ht, List.countP_eq_zero]
  intro x hx
  obtain ⟨b, hb, rfl⟩ := List.getElem_of_mem hx
  have hlt : b < 64 := by rwa [h.table, hlength] at hb
  have hbell : t.drive.bells[b] = t.bell b := by simp [State.bell, List.getD_eq_getElem?_getD, hb]
  rw [hbell, h.inside b (List.mem_range.2 hlt)]
  simpa using released_not_driven (hcycle b hlt)

end

end Sys2Proof.Machine
end


section
/-! PROOFS. The edges of DRIVE READY (R70, R71, R112, R134): O38. -/

namespace Sys2Proof.Machine

/-! ## The fall (R70, R112, R134) -/

/-- R70, R112: the drive's loss empties the strike queue and the engine, and disposes each context's booking. -/
theorem loseDrive_eq {s : State} (h : s.engine.active ≠ none ∨ s.engine.stack ≠ []) : ∃ pl py st,
    s.loseDrive = (s.disposeContexts .driveLost (s.engine.active.toList ++ s.engine.stack)).withPlay
      { s.engine with active := none, stack := [] } pl py st ∧ pl.queue = [] := by
  obtain ⟨pl, py, st, hend⟩ := endAll_eq .driveLost s
  have hnot : (s.engine.active.isNone && s.engine.stack.isEmpty) = false := by
    rw [← Bool.not_eq_true, Bool.and_eq_true, Option.isNone_iff_eq_none, List.isEmpty_iff]
    tauto
  have hlose : s.loseDrive = ((s.endActive .driveLost none false).engine.stack.foldl
      (fun s c => s.endStacked c .driveLost none false) (s.endActive .driveLost none false)).removeAllStrikes := by
    simp [State.loseDrive, hnot]
  obtain ⟨pl', heq, hqueue⟩ := removeStrikes_eq (fun _ => true)
    ((s.disposeContexts .driveLost (s.engine.active.toList ++ s.engine.stack)).withPlay
      { s.engine with active := none, stack := [] } pl py st)
  refine ⟨pl', py, st, ?_, by simpa using hqueue⟩
  rw [hlose, hend, State.removeAllStrikes, heq]
  rfl

theorem loseDrive_of_none {s : State} (ha : s.engine.active = none) (hs : s.engine.stack = []) :
    s.loseDrive = s := by simp [State.loseDrive, ha, hs]

/-- R70: whether or not there is a context, the drive's loss stays in the table, the notices, the feed and the
performance side. -/
theorem loseDrive_frame (s : State) : ∃ pl py st, s.loseDrive =
    (s.disposeContexts .driveLost (s.engine.active.toList ++ s.engine.stack)).withPlay
      { s.engine with active := none, stack := [] } pl py st ∧
    ((s.engine.active ≠ none ∨ s.engine.stack ≠ []) → pl.queue = []) ∧
    (s.engine.active = none → s.engine.stack = [] → pl = s.planner) := by
  by_cases h : s.engine.active ≠ none ∨ s.engine.stack ≠ []
  · obtain ⟨pl, py, st, heq, hqueue⟩ := loseDrive_eq h
    exact ⟨pl, py, st, heq, fun _ => hqueue, fun ha hs => (h.elim (· ha) (· hs)).elim⟩
  · obtain ⟨ha, hs⟩ := not_or.1 h
    obtain ha := not_not.1 ha
    obtain hs := not_not.1 hs
    refine ⟨s.planner, s.player, s.store, ?_, fun h' => absurd h' h, fun _ _ => rfl⟩
    have hengine : ({ s.engine with active := none, stack := [] } : Engine) = s.engine := by rw [← ha, ← hs]
    rw [loseDrive_of_none ha hs, hengine, ha, hs]
    rfl

/-! ## The rise (R71, R128, R134) -/

/-- R71, R134: what the rise of DRIVE READY makes of the state before the arbiter. -/
def State.risen (s : State) : State := { s with drive := { s.drive with ready := true } }.raise .drive

theorem exec_driveReadyRise {s : State} (h : s.drive.ready = false) :
    exec .driveReadyRise s = .next s.risen.arbiter.settle.reconsider := by
  show Host.Outcome.next (if s.drive.ready then s else s.riseReady) = _
  rw [h]
  rfl

/-- R52, R53, R68: where every booking waits on, nothing is decided. -/
theorem reconsider_of_allWait {s : State} (h : s.allWait) : s.reconsider = s := by
  rcases h with h | h | h | ⟨c, hc, hall⟩
  · exact reconsider_of_hush h
  · simp [State.reconsider, h]
  · exact reconsider_of_empty s h
  · refine reconsider_of_waits hc fun k hk => ?_
    obtain ⟨x, hx, hwait⟩ := hall k hk
    exact ⟨x, hx, judge_waits hwait⟩

/-- R71: with nothing at play, nothing planned and nothing waiting, a fire time changes nothing. -/
theorem arbiter_settle_of_quiet {s : State} (h : s.quiet = true) : s.arbiter.settle = s := by
  obtain ⟨ha, -, -, hq⟩ := (quiet_iff s).1 h
  rw [arbiter_nil s hq, settle_of_inactive s ha]

/-- R128: with nothing at play, a fire time leaves the engine and the table as they are. -/
theorem arbiter_settle_of_inactive {s : State} (ha : s.engine.active = none) : s.arbiter.settle = s.arbiter ∧
    s.arbiter.engine = s.engine ∧ s.arbiter.book = s.book := by
  obtain ⟨pl, dr, hv, -⟩ := arbiter_frame (s := s) fun c hc => absurd (ha.symm.trans hc) nofun
  refine ⟨settle_of_inactive _ (by rw [hv]; exact ha), ?_, ?_⟩
  · rw [hv]
  · rw [hv]

/-- R55: what the start of the one booking that waits leaves, with nothing at play. -/
theorem start_alone {s : State} {n : Nat} {b : Booking} (he : s.engine = ⟨none, [], [n]⟩)
    (hb : s.booking? n = some b) (hp : s.playable b.record) :
    let t := s.start n
    t.engine.active.map Context.booking = some n ∧ t.engine.stack = [] ∧ t.engine.waiting = [] ∧
      t.planner = s.planner ∧ t.drive = s.drive ∧ t.notices = s.notices ∧
      t.booking? n = some { b with state := .sounding, waiting := none } := by
  obtain ⟨pl, st, heq, -⟩ := start_eq hb hp
  obtain ⟨h1, h2⟩ := booking?_range hb
  dsimp only
  rw [heq]
  exact ⟨rfl, by rw [he], by simp [he], rfl, rfl, rfl, booking?_setBooking_self h1 h2 b.begun⟩

/-- R52, R55: after a fire time with nothing at play, the one booking that waits starts. -/
theorem reconsider_starts_alone {s : State} {n : Nat} {b : Booking} (hh : s.drive.hush = false)
    (hl : s.store.loading = false) (he : s.engine = ⟨none, [], [n]⟩) (hb : s.booking? n = some b)
    (hp : s.playable b.record) :
    let v := s.arbiter.settle
    let t := v.reconsider
    t.engine.active.map Context.booking = some n ∧ t.engine.stack = [] ∧ t.engine.waiting = [] ∧
      t.planner = v.planner ∧ t.drive = v.drive ∧ t.notices = v.notices ∧
      t.booking? n = some { b with state := .sounding, waiting := none } := by
  obtain ⟨hsettle, hengine, hbook⟩ := arbiter_settle_of_inactive (s := s) (by rw [he])
  have hkept := arbiter_kept s
  have hengine : s.arbiter.engine = ⟨none, [], [n]⟩ := hengine.trans he
  have hbooking : s.arbiter.booking? n = some b := by rw [State.booking?, hbook]; exact hb
  have hplayable : s.arbiter.playable b.record := hp.congr hkept.ready hkept.library
  have hstart : s.arbiter.reconsider = s.arbiter.start n :=
    reconsider_idle_starts (hkept.hush.trans hh) (hkept.loading.trans hl) (by rw [hengine]) (by rw [hengine])
      (by rw [hengine]) hbooking hplayable
  dsimp only
  rw [hsettle, hstart]
  exact start_alone hengine hbooking hplayable

/-- The state after the fall of DRIVE READY: the drive unit `dr`, DRIVE raised, every context's booking disposed. -/
def State.fallen (s : State) (dr : Drive) (pl : Planner) (py : Player) (st : Store) : State :=
  ((({ s with drive := dr } : State).raise .drive).disposeContexts .driveLost
    (s.engine.active.toList ++ s.engine.stack)).withPlay { s.engine with active := none, stack := [] } pl py st

/-- R70, R112, R134: the fall of DRIVE READY releases the coils, raises DRIVE and ends every context. -/
theorem exec_driveReadyFall {s : State} (h : s.drive.ready = true) : ∃ dr pl py st,
    CoilsReleased bellNumbers (s.setReady false) { s with drive := dr } ∧
    exec .driveReadyFall s = .next (s.fallen dr pl py st) ∧
    ((s.engine.active ≠ none ∨ s.engine.stack ≠ []) → pl.queue = []) ∧
    (s.engine.active = none → s.engine.stack = [] → pl = s.planner) := by
  have hreleased := releaseAllCoils_released (s := s.setReady false) rfl
  obtain ⟨dr, hdr⟩ := hreleased.frame
  have hdr : (s.setReady false).releaseAllCoils = { s with drive := dr } := hdr
  have hexec : exec .driveReadyFall s = .next (((s.setReady false).releaseAllCoils).raise .drive).loseDrive :=
    congrArg Host.Outcome.next (if_pos h : (if s.drive.ready then s.fallReady else s) = s.fallReady)
  rw [hdr] at hreleased hexec
  obtain ⟨pl, py, st, heq, hqueue, hplanner⟩ := loseDrive_frame (({ s with drive := dr } : State).raise .drive)
  exact ⟨dr, pl, py, st, hreleased, hexec.trans (congrArg _ heq), hqueue, hplanner⟩

section
variable (s : State) (dr : Drive) (pl : Planner) (py : Player) (st : Store)

/-- R70, R134: what the fall leaves as it was, the drive unit and the performance side apart. -/
theorem fallen_frame : ∃ book live notices, s.fallen dr pl py st =
    { s with drive := dr, book := book, live := live, notices := notices, planner := pl, player := py, store := st
             engine := { s.engine with active := none, stack := [] } } := by
  obtain ⟨book, live, notices, hframe⟩ := disposeContexts_frame (({ s with drive := dr } : State).raise .drive)
    .driveLost (s.engine.active.toList ++ s.engine.stack)
  refine ⟨book, live, notices, ?_⟩
  unfold State.fallen
  rw [hframe]
  rfl

theorem fallen_drive_flag : (s.fallen dr pl py st).notices.flags.drive = true :=
  disposeContexts_flags (n := .drive) rfl

theorem fallen_bell (b : Nat) : (s.fallen dr pl py st).bell b = ({ s with drive := dr } : State).bell b := by
  obtain ⟨book, live, notices, heq⟩ := fallen_frame s dr pl py st
  rw [heq]
  rfl

end

/-- Settles O38: the fall by `releaseAllCoils_released` and `loseDrive_frame`, the rise by `reconsider_of_allWait` and
`reconsider_starts_alone`. -/
theorem driveReadyEdges : Obligations.DriveReadyEdges := by
  unfold Obligations.DriveReadyEdges
  refine ⟨fun s hready hcycle => ?_, fun s hready => ⟨fun hquiet => ?_, _, rfl, fun hwait => ?_⟩,
    fun n m b h s hready hhush hload he hb hm hstate hdamaged hknown => ?_⟩
  · obtain ⟨dr, pl, py, st, hreleased, hexec, hqueue, hplanner⟩ := exec_driveReadyFall hready
    obtain ⟨book, live, notices, hframe⟩ := fallen_frame s dr pl py st
    have hbell (b : Nat) (hb : b < 64) : (s.fallen dr pl py st).bell b = (s.bell b).released s.now :=
      (fallen_bell s dr pl py st b).trans (hreleased.inside b (List.mem_range.2 hb))
    have hdrive : (s.fallen dr pl py st).drive = dr := by rw [hframe]
    have hended {x : Context} (hx : x ∈ s.engine.active.toList ++ s.engine.stack)
        (hnodup : ((s.engine.active.toList ++ s.engine.stack).map Context.booking).Nodup) {b : Booking}
        (hb : s.booking? x.booking = some b) := disposeContexts_ended
          (s := ({ s with drive := dr } : State).raise .drive) (k := .driveLost) hnodup hx hb
    refine ⟨_, hexec, by rw [hdrive]; exact hreleased.ready, rfl, fallen_drive_flag s dr pl py st, hqueue,
      fun ha hs => ⟨hplanner ha hs, ?_⟩, fun b hb => ⟨?_, ?_⟩, fun b hb hd => ?_, fun b y hb hd hy => ?_,
      fun hcount hlength => ?_, fun hlength hnodup => ⟨fun x hx b hb => ?_, fun l hl hne => ?_, fun n hn => ?_⟩,
      by rw [hdrive]; exact hreleased.hush, by rw [hdrive]; exact hreleased.level, by rw [hframe], by rw [hframe]⟩
    · unfold State.fallen
      rw [ha, hs]
      rfl
    · rw [hbell b hb]
      exact released_not_driven (hcycle b hb)
    · rw [hbell b hb, released_strikes]
    · rw [hbell b hb, released_of_not_driven hd]
    · rw [hbell b hb, released_of_driven hd hy]
      rfl
    · rw [hdrive]
      exact energised_of_released hreleased hcount hlength hcycle
    · obtain ⟨houtcome, hwritten, hremoved, horphan, hfeed⟩ := hended hx hnodup hb
      exact ⟨houtcome, hwritten, fun hi => ⟨hremoved hi, horphan hi (by omega), hfeed hi⟩⟩
    · exact disposeContexts_live_ne hl hne
    · exact disposeContexts_booking?_ne hn
  · have hquiet : s.risen.quiet = true := hquiet
    rw [exec_driveReadyRise hready, arbiter_settle_of_quiet hquiet]
    obtain ⟨-, -, hw, -⟩ := (quiet_iff s).1 hquiet
    have hnone : s.risen.engine.waiting = [] := hw
    rw [reconsider_of_empty _ hnone]
    rfl
  · rw [exec_driveReadyRise hready]
    exact congrArg Host.Outcome.next (reconsider_of_allWait hwait)
  · exact ⟨_, _, rfl, exec_driveReadyRise hready, reconsider_starts_alone (s := s.risen) hhush hload he hb
      ⟨rfl, m, h, hm, hstate, hdamaged, hknown⟩⟩

end Sys2Proof.Machine
end


section
/-! PROOFS. Resume points (R57, R111): the earliest entry of a performance, the scan for the latest phrase mark, and
the toll gone back to. -/

namespace Sys2Proof.Machine

/-! ## The order of score positions (R111) -/

theorem before_iff (a b : ScorePos) : a.before b = true ↔
    a.repeatNo < b.repeatNo ∨ (a.repeatNo = b.repeatNo ∧ (a.segment < b.segment ∨ (a.segment = b.segment ∧
      (a.event < b.event ∨ (a.event = b.event ∧ a.number < b.number))))) := by
  simp [ScorePos.before]

theorem before_irrefl (a : ScorePos) : a.before a = false := by
  rw [← Bool.not_eq_true, before_iff]
  omega

/-- What comes before an earlier position comes before a later one. -/
theorem before_trans {a b c : ScorePos} (hab : a.before b = true) (hbc : b.before c = true) : a.before c = true := by
  rw [before_iff] at *
  omega

/-- The earliest of the positions seen, if any was seen. -/
def Earliest (seen : List (Option ScorePos)) (acc : Option ScorePos) : Prop :=
  (acc = none ↔ ∀ x ∈ seen, x = none) ∧
    ∀ r, acc = some r → some r ∈ seen ∧ ∀ x, some x ∈ seen → x.before r = false

/-- R111: one position more is seen. -/
theorem Earliest.step {seen : List (Option ScorePos)} {acc : Option ScorePos} (h : Earliest seen acc)
    (y : Option ScorePos) : Earliest (seen ++ [y]) (earlierPos acc y) := by
  obtain ⟨hnone, hsome⟩ := h
  cases acc with
  | none =>
    have hall : ∀ x ∈ seen, x = none := hnone.1 rfl
    refine ⟨⟨fun hy x hx => ?_, fun hx => hx y (by simp)⟩, fun r hr => ⟨by simp [← hr, earlierPos], fun x hx => ?_⟩⟩
    · rcases List.mem_append.1 hx with hx | hx
      · exact hall x hx
      · exact (List.mem_singleton.1 hx).trans hy
    · have hx : some x = y := by
        rcases List.mem_append.1 hx with hx | hx
        · exact absurd (hall _ hx) nofun
        · exact List.mem_singleton.1 hx
      cases hx.trans hr
      exact before_irrefl _
  | some a =>
    obtain ⟨ha, hmin⟩ := hsome a rfl
    cases y with
    | none =>
      refine ⟨⟨nofun, fun hx => absurd (hx (some a) (by simp [ha])) nofun⟩, fun r hr => ?_⟩
      cases hr
      exact ⟨by simp [ha], fun x hx => hmin x (by simpa using hx)⟩
    | some b =>
      have hne : earlierPos (some a) (some b) ≠ none := by
        simp only [earlierPos]
        split <;> exact nofun
      refine ⟨⟨fun h => absurd h hne, fun hx => absurd (hx (some a) (by simp [ha])) nofun⟩, fun r hr => ?_⟩
      simp only [earlierPos] at hr
      split at hr
      · rename_i hba
        cases hr
        refine ⟨by simp, fun x hx => ?_⟩
        rcases List.mem_append.1 hx with hx | hx
        · by_contra hxb
          have hxa := before_trans (by simpa using hxb) hba
          rw [hmin x hx] at hxa
          cases hxa
        · cases List.mem_singleton.1 hx
          exact before_irrefl _
      · rename_i hba
        cases hr
        refine ⟨by simp [ha], fun x hx => ?_⟩
        rcases List.mem_append.1 hx with hx | hx
        · exact hmin x hx
        · cases List.mem_singleton.1 hx
          simpa using hba

/-- R111: `earliestEntry` is the earliest of the positions of the performance's entries. -/
theorem earliestEntry_earliest (n : Nat) (s : State) :
    Earliest ((s.planner.queue.filter (·.ownedBy n)).map StrikeEntry.pos) (s.earliestEntry n) := by
  have hfold (l : List StrikeEntry) : ∀ (seen : List (Option ScorePos)) (acc : Option ScorePos), Earliest seen acc →
      Earliest (seen ++ l.map StrikeEntry.pos) (l.foldl (fun acc e => earlierPos acc e.pos) acc) := by
    induction l with
    | nil => exact fun seen acc h => by simpa using h
    | cons e l ih =>
      intro seen acc h
      have hstep := ih _ _ (h.step e.pos)
      rwa [List.append_assoc] at hstep
  exact hfold _ [] none ⟨by simp, nofun⟩

/-! ## The scan for a phrase mark (R57, R80) -/

section
variable (limit : Nat × Nat) (l : List (Nat × Nat × Event)) (p : PhraseScan)

/-- R57: the scan counts the ticks of all events. -/
theorem scan_tick : (l.foldl (PhraseScan.step limit) p).tick = p.tick + (l.map fun x => x.2.2.delta).sum := by
  induction l generalizing p with
  | nil => rfl
  | cons x l ih =>
    have hstep : (PhraseScan.step limit p x).tick = p.tick + x.2.2.delta := by
      unfold PhraseScan.step
      dsimp only
      split
      · split <;> rfl
      all_goals rfl
    rw [List.foldl_cons, ih, hstep, List.map_cons, List.sum_cons, Nat.add_assoc]

/-- R57, R80: the scan keeps the tempo in force. -/
theorem scan_tempo : (l.foldl (PhraseScan.step limit) p).tempo =
    l.foldl (fun tempo x => match x.2.2 with
      | .tempo v _ => max 20 (min 240 v)
      | _ => tempo) p.tempo := by
  induction l generalizing p with
  | nil => rfl
  | cons x l ih =>
    rw [List.foldl_cons, ih, List.foldl_cons]
    congr 1
    obtain ⟨segment, event, e⟩ := x
    cases e with
    | phrase d =>
      simp only [PhraseScan.step]
      split <;> rfl
    | note pitch strength d => rfl
    | rest d => rfl
    | tempo v d => rfl

variable {l}

/-- R57: a mark past the limit does not count. -/
theorem scan_found (h : ∀ x ∈ l, x.2.2.isPhrase = true → atOrBefore (x.1, x.2.1) limit = false) :
    (l.foldl (PhraseScan.step limit) p).found = p.found := by
  induction l generalizing p with
  | nil => rfl
  | cons x l ih =>
    obtain ⟨hx, hl⟩ := List.forall_mem_cons.1 h
    rw [List.foldl_cons, ih _ hl]
    obtain ⟨segment, event, e⟩ := x
    cases e with
    | phrase d =>
      have hpast : atOrBefore (segment, event) limit = false := hx rfl
      simp [PhraseScan.step, hpast]
    | note pitch strength d => rfl
    | rest d => rfl
    | tempo v d => rfl

end

/-! ## The limit of the scan (R57, R111; log 18) -/

/-- Where the scan for a phrase mark stops: at the planning position or the earliest entry removed; nowhere, when an
entry of an earlier repetition is removed. -/
def Context.resumeLimit (c : Context) (removed : Option ScorePos) : Option (Nat × Nat) :=
  match removed with
  | none => some (c.pos.segment, c.pos.event)
  | some r =>
    if r.repeatNo < c.repeatNo then none
    else if atOrBefore (r.segment, r.event) (c.pos.segment, c.pos.event) then some (r.segment, r.event)
    else some (c.pos.segment, c.pos.event)

theorem scoreResume_eq (s : State) (c : Context) (slot : Nat) (removed : Option ScorePos) :
    s.scoreResume c slot removed = match c.resumeLimit removed with
      | none => c.repetitionStart
      | some l => (((s.score slot).foldl (PhraseScan.step l) ⟨c.repStart, c.tempo, none⟩).found).getD
          c.repetitionStart := rfl

theorem atOrBefore_iff (a b : Nat × Nat) : atOrBefore a b = true ↔ a.1 < b.1 ∨ (a.1 = b.1 ∧ a.2 ≤ b.2) := by
  simp [atOrBefore]

/-- R57, log 18: a mark counts when it stands at or before the planning position and the earliest entry removed. -/
theorem atOrBefore_resumeLimit (c : Context) (removed : Option ScorePos) (x : Nat × Nat) :
    (atOrBefore x (c.pos.segment, c.pos.event) = true ∧
      ∀ r, removed = some r → c.repeatNo ≤ r.repeatNo ∧ atOrBefore x (r.segment, r.event) = true) ↔
    ∃ l, c.resumeLimit removed = some l ∧ atOrBefore x l = true := by
  cases removed with
  | none => simp [Context.resumeLimit]
  | some r =>
    simp only [Context.resumeLimit, Option.some.injEq, forall_eq']
    split
    · rename_i hrep
      simp only [reduceCtorEq, false_and, exists_false, iff_false]
      omega
    · rename_i hrep
      simp only [atOrBefore_iff]
      split
      · simp only [Option.some.injEq, exists_eq_left']
        omega
      · simp only [Option.some.injEq, exists_eq_left']
        omega

section
variable {s : State} {c : Context} {slot : Nat} {removed : Option ScorePos}

/-- R57: the latest phrase mark that counts is the resume point, at its tick and in the tempo in force there. -/
theorem scoreResume_of_mark {front back : List (Nat × Nat × Event)} {segment event delta : Nat} {l : Nat × Nat}
    (hscore : s.score slot = front ++ (segment, event, Event.phrase delta) :: back)
    (hl : c.resumeLimit removed = some l) (hmark : atOrBefore (segment, event) l = true)
    (hback : ∀ x ∈ back, x.2.2.isPhrase = true → atOrBefore (x.1, x.2.1) l = false) :
    s.scoreResume c slot removed =
      (let before := c.repStart + (front.map fun x => x.2.2.delta).sum
       ⟨⟨segment, event, before, 0⟩, before + delta,
        front.foldl (fun tempo x => match x.2.2 with
          | .tempo v _ => max 20 (min 240 v)
          | _ => tempo) c.tempo⟩) := by
  rw [scoreResume_eq, hl]
  simp only [hscore, List.foldl_append, List.foldl_cons]
  rw [scan_found l _ hback]
  simp only [PhraseScan.step, hmark, if_true, scan_tick, scan_tempo, Event.delta, Option.getD_some]

/-- R57: with no mark that counts, the resume point is the start of the repetition. -/
theorem scoreResume_of_none (h : ∀ l, c.resumeLimit removed = some l →
    ∀ x ∈ s.score slot, x.2.2.isPhrase = true → atOrBefore (x.1, x.2.1) l = false) :
    s.scoreResume c slot removed = ⟨⟨0, 0, c.repStart, 0⟩, c.repStart, c.tempo⟩ := by
  rw [scoreResume_eq]
  cases hl : c.resumeLimit removed with
  | none => rfl
  | some l =>
    dsimp only
    rw [scan_found l _ (h l hl)]
    rfl

end

theorem resumePoint_of_score {s : State} {c : Context} {slot : Nat} (hk : c.melodyKind = some .score)
    (hm : c.melody = some slot) (hr : c.atResume = false) (removed : Option ScorePos) :
    s.resumePoint c removed = s.scoreResume c slot removed := by
  simp [State.resumePoint, hk, hm, hr]

/-- R57, R95: a TOLL goes back to the earlier of the tolls removed and the toll at the planning position. -/
theorem resumePoint_of_toll {s : State} {c : Context} (hk : c.melodyKind = some .toll) (removed : Option ScorePos) :
    s.resumePoint c removed = c.tollResume removed := by
  simp [State.resumePoint, hk]

/-- R69, R146: a LIVE performance keeps its position. -/
theorem resumePoint_of_live {s : State} {c : Context} (hk : c.melodyKind = none) (removed : Option ScorePos) :
    s.resumePoint c removed = ⟨c.pos, c.pos.tick, c.tempoNow⟩ := by
  simp [State.resumePoint, hk]

end Sys2Proof.Machine
end


section
/-! PROOFS. Take-ups (R84, R85, R146): what the Score Player and the Live Feed do with a context that starts again. -/

namespace Sys2Proof.Machine

/-! ## The reads of a take-up (R85, R88, R170) -/

theorem makeRoom_reads (st : Store) : ∀ r ∈ st.makeRoom.reads, r ∈ st.reads := by
  unfold Store.makeRoom
  split
  · exact fun _ => id
  · split
    · split
      · exact fun _ => id
      · rename_i x rest hreads
        intro r hr
        rw [hreads]
        rcases List.mem_cons.1 hr with rfl | hr
        · exact List.mem_cons_self ..
        · exact List.mem_cons_of_mem _ (List.mem_of_mem_eraseP hr)
    · exact fun r hr => List.mem_of_mem_eraseP hr

/-- R170: a segment asked for joins the reads, and no other does. -/
theorem requestSegment_reads (slot index : Nat) (s : State) :
    ∀ r ∈ (s.requestSegment slot index).store.reads, r ∈ s.store.reads ∨ r.segment = index := by
  intro r hr
  have hr : r ∈ joinReads s.store.makeRoom.reads ⟨slot, index, .buffer false⟩ := hr
  unfold joinReads at hr
  split at hr
  · rcases List.mem_append.1 hr with hr | hr
    · exact .inl (makeRoom_reads _ r hr)
    · rw [List.mem_singleton.1 hr]
      exact .inr rfl
  · exact .inl (makeRoom_reads _ r hr)

section
variable (c : Context) (slot segment : Nat) (s : State)

/-- R85: a prefetch leaves the current buffer, the stop point and whether planning is done. -/
theorem prefetch_player : (s.prefetch c slot segment).player.cur = s.player.cur ∧
    (s.prefetch c slot segment).player.stopPoint = s.player.stopPoint ∧
    (s.prefetch c slot segment).player.done = s.player.done := by
  unfold State.prefetch
  split
  · exact ⟨rfl, rfl, rfl⟩
  · split
    · exact ⟨rfl, rfl, rfl⟩
    · split <;> exact ⟨rfl, rfl, rfl⟩

variable {c slot segment s}

/-- R85, R88: the segment after, unless it failed for the context, is read into the next buffer. -/
theorem prefetch_after (h : segment + 1 < (s.melody slot).segmentCount) : s.prefetch c slot segment =
    if segment + 1 ∈ c.failed then { s with player := { s.player with next := .failed (segment + 1) } }
    else ({ s with player := { s.player with next := .reading (segment + 1) } } : State).requestSegment slot
      (segment + 1) := by
  simp [State.prefetch, State.following, h]

/-- R85: a take-up reads the segment of the planning position and the one after. -/
theorem startReads_player (h : c.pos.segment ∉ c.failed) :
    let t := s.startReads c slot
    let after := c.pos.segment + 1
    t.player.cur = .reading c.pos.segment ∧ t.player.done = s.player.done ∧ t.player.stopPoint = s.player.stopPoint ∧
      (after < (s.melody slot).segmentCount → after ∉ c.failed → t.player.next = .reading after) ∧
      (after < (s.melody slot).segmentCount → after ∈ c.failed → t.player.next = .failed after ∧
        ∀ r ∈ t.store.reads, r ∈ s.store.reads ∨ r.segment = c.pos.segment) := by
  let u : State := ({ s with player := { s.player with cur := .reading c.pos.segment } } : State).requestSegment slot
    c.pos.segment
  have hstart : s.startReads c slot = u.prefetch c slot c.pos.segment := if_neg h
  obtain ⟨hcur, hstop, hdone⟩ := prefetch_player c slot c.pos.segment u
  dsimp only
  rw [hstart]
  refine ⟨hcur, hdone, hstop, fun hafter hnot => ?_, fun hafter hin => ?_⟩
  · rw [prefetch_after (s := u) hafter, if_neg hnot]
    rfl
  · rw [prefetch_after (s := u) hafter, if_pos hin]
    exact ⟨rfl, requestSegment_reads slot c.pos.segment _⟩

end

/-! ## Take-ups by the kind of the melody (R84, R96, R146) -/

section
variable {s : State} {c : Context} (ha : s.engine.active = some c)
include ha

/-- R84, R90: the take-up of a SCORE. -/
theorem takeUp_of_score {slot : Nat} (hk : c.melodyKind = some .score) (hm : c.melody = some slot) :
    s.takeUp = ({ s with player := { Player.initial with
      stopPoint := if c.pendingHalt = some .atPhrase then s.stopFromHere c slot else none } } : State).startReads c
        slot := by
  unfold State.takeUp
  simp only [ha, hk, hm]
  rfl

/-- R84: the take-up of a TOLL without an AT_PHRASE halt. -/
theorem takeUp_of_toll (hk : c.melodyKind = some .toll) (hp : c.pendingHalt ≠ some .atPhrase) :
    s.takeUp = { s with player := .initial } := by
  unfold State.takeUp
  simp [ha, hk, hp]

/-- R146: the take-up of a LIVE performance. -/
theorem takeUp_of_live (hk : c.melodyKind = none) : s.takeUp = { s with
    player := .initial
    engine := { s.engine with active := some { c with
      feedDeadline := some (c.originTime + 48 * (1250000 / c.tempoNow)) } }
    live := s.live.map fun l => { l with idle := l.idleAtTakeUp s.now } } := by
  unfold State.takeUp State.takeUpLive State.modActive
  simp only [ha, hk, Option.map_some]
  rfl

/-- R88, log 44: a take-up at a segment that failed reads nothing, and planning is done. -/
theorem takeUp_of_failed {slot : Nat} (hk : c.melodyKind = some .score) (hm : c.melody = some slot)
    (hf : c.pos.segment ∈ c.failed) : ∃ pl, s.takeUp = { s with player := pl } ∧ pl.done = some .damaged := by
  rw [takeUp_of_score ha hk hm]
  unfold State.startReads
  rw [if_pos hf]
  exact ⟨_, rfl, rfl⟩

end

end Sys2Proof.Machine
end

section
/-! PROOFS. The line HUSH (R68, R69): what its assertion and its release do at the engine. -/

namespace Sys2Proof.Machine

/-! ## The assertion (R68, R111, R145) -/

theorem exec_hushAssert {s : State} (h : s.drive.hush = false) :
    exec .hushAssert s = .next (s.setHush true).hushActive := by
  refine congrArg Host.Outcome.next (if_neg ?_)
  simp [h]

section
variable {s : State} {c : Context} (ha : s.engine.active = some c) (hm : c.mode = .playing)
include ha hm

/-- R68: once its strikes have left, a hushed context waits at its resume point, the feed's idle time held. -/
theorem hushActive_of_gone {removed : State} (hgone : (if c.melodyKind.isNone then s.removeOwnerLost c.booking
      else s.removeOwner c.booking).letGo = removed) : s.hushActive =
      { removed.modActive fun x => { x with
          mode := .hushed, resume := removed.resumePoint c (s.earliestEntry c.booking), feedDeadline := none } with
        live := removed.live.map fun l =>
          if l.booking == c.booking then { l with idle := l.idle.hold removed.now } else l } := by
  have hnot : (c.mode == .hushed) = false := by rw [hm]; rfl
  subst hgone
  unfold State.hushActive
  simp only [ha, hnot, Bool.false_eq_true, if_false]

/-- R68: a SCORE or TOLL that falls silent; its strikes leave uncounted. -/
theorem hushActive_of_melody (hk : c.melodyKind ≠ none) : ∃ pl st live, s.hushActive = { s with
      planner := pl, player := .initial, store := st, live := live
      engine := { s.engine with active := some { c with
        mode := .hushed, resume := s.resumePoint c (s.earliestEntry c.booking), feedDeadline := none } } } ∧
    pl.queue = s.planner.queue.filter fun e => !e.ownedBy c.booking := by
  obtain ⟨pl, st, heq, hqueue, hplaces⟩ := removeOwner_letGo_eq c.booking s
  have hnot : ¬ c.melodyKind.isNone = true := by
    rw [Option.isNone_iff_eq_none]
    exact hk
  have hresume := resumePoint_congr (s := s) (t := { s with planner := pl, player := .initial, store := st }) rfl
    hplaces c (s.earliestEntry c.booking)
  refine ⟨pl, st, s.live.map fun l => if l.booking == c.booking then { l with idle := l.idle.hold s.now } else l, ?_,
    hqueue⟩
  rw [hushActive_of_gone ha hm ((congrArg State.letGo (if_neg hnot)).trans heq), hresume]
  simp only [State.modActive, ha, Option.map_some]
  rfl

/-- A context with `n` strikes more charged lost (R110). -/
def Context.strikesLost (c : Context) (n : Nat) : Context :=
  { c with counts := { c.counts with lost := min 65535 (c.counts.lost + n) } }

omit hm in
/-- R111: the strikes of a LIVE performance that leave are charged lost, one each. -/
theorem removeOwnerLost_eq (hlost : c.counts.lost ≤ 65535) : s.removeOwnerLost c.booking =
    ({ s with engine := { s.engine with active := some (c.strikesLost
      (s.planner.queue.filter fun e => e.owner = .booking c.booking).length) } } : State).removeOwner c.booking := by
  have hgone : s.planner.queue.filter (·.ownedBy c.booking) =
      s.planner.queue.filter fun e => e.owner = .booking c.booking := rfl
  have hown : (s.planner.queue.filter fun e => e.owner = .booking c.booking).filter
      (fun e => e.owner = .booking c.booking) = s.planner.queue.filter fun e => e.owner = .booking c.booking := by
    simp
  unfold State.removeOwnerLost
  dsimp only
  rw [charge_lost, hgone]
  simp only [State.modActive, ha, Option.map_some, context_lost, hown]
  split
  · rename_i hzero
    rw [hzero, Context.strikesLost, Nat.add_zero, Nat.min_eq_right hlost]
  · rfl

/-- R68, R111, R145: a LIVE performance that falls silent. -/
theorem hushActive_of_live {l : LiveFeed} (hk : c.melodyKind = none) (hl : s.live = some l)
    (hlb : l.booking = c.booking) (hlost : c.counts.lost ≤ 65535) : ∃ pl st, s.hushActive = { s with
      planner := pl, player := .initial, store := st
      live := some { l with idle := l.idle.hold s.now }
      engine := { s.engine with active := some { c.strikesLost
          (s.planner.queue.filter fun e => e.owner = .booking c.booking).length with
        mode := .hushed, resume := ⟨c.pos, c.pos.tick, c.tempoNow⟩, feedDeadline := none } } } ∧
    pl.queue = s.planner.queue.filter fun e => !e.ownedBy c.booking := by
  obtain ⟨pl, st, heq, hqueue, -⟩ := removeOwner_letGo_eq c.booking { s with engine := { s.engine with
    active := some (c.strikesLost (s.planner.queue.filter fun e => e.owner = .booking c.booking).length) } }
  have hlive : c.melodyKind.isNone = true := by simp [hk]
  have hheld : s.live.map (fun l => if l.booking == c.booking then { l with idle := l.idle.hold s.now } else l) =
      some { l with idle := l.idle.hold s.now } := by
    simp [hl, hlb]
  refine ⟨pl, st, ?_, hqueue⟩
  rw [← removeOwnerLost_eq ha hlost] at heq
  rw [hushActive_of_gone ha hm ((congrArg State.letGo (if_pos hlive)).trans heq), resumePoint_of_live hk]
  simp only [State.modActive, Option.map_some]
  rw [← hheld]
  rfl

end

/-! ## The release (R69, R128) -/

/-- R69, R128: the state in which the engine takes the release up. -/
def State.unhushed (s : State) : State := { s with drive := { s.drive with hush := false } }

theorem exec_hushRelease {s : State} (h : s.drive.hush = true) (hl : s.store.loading = false) :
    exec .hushRelease s = .next s.unhushed.arbiter.releaseEngine := by
  have hload : (s.setHush false).store.loading = false := hl
  show Host.Outcome.next (if s.drive.hush then s.releaseHush else s) = _
  rw [if_pos h]
  unfold State.releaseHush
  exact congrArg Host.Outcome.next (if_neg (by rw [hload]; exact Bool.false_ne_true))

section
variable {s : State} {c : Context} (ha : s.engine.active = some c) (hm : c.mode = .hushed)
include ha hm

/-- R69: a hushed context restarts, and the engine reconsiders. -/
theorem releaseEngine_restarts (h : s.restartActive.endDue = none) : s.releaseEngine = s.restartActive.reconsider := by
  unfold State.releaseEngine
  simp [ha, hm, h]

/-- R69: a hushed context that restarts at its end ends at once. -/
theorem releaseEngine_ends {k : OutcomeKind} (h : s.restartActive.endDue = some k) :
    s.releaseEngine = (s.restartActive.endActive k none false).resumeChoice := by
  unfold State.releaseEngine
  simp [ha, hm, h]

omit hm in
theorem restartActive_eq : s.restartActive = ({ s with
    engine := { s.engine with active := some (s.restarted c) } } : State).takeUp := by
  unfold State.restartActive State.modActive
  simp only [ha, Option.map_some]

/-- R128, log 35: under HUSH the context owns no strike, so the arbiter's re-evaluation leaves it alone. -/
theorem unhushed_arbiter (hown : s.ownsNothing c.booking) : ∃ pl dr,
    s.unhushed.arbiter = { s with planner := pl, drive := dr } ∧ s.unhushed.arbiter.settle = s.unhushed.arbiter ∧
    dr.hush = false ∧ s.unhushed.arbiter.ownsNothing c.booking := by
  obtain ⟨pl, dr, heq, hsub⟩ := arbiter_frame (s := s.unhushed) fun x hx => by
    cases ha.symm.trans hx
    exact hown
  have hhush := (arbiter_kept s.unhushed).hush
  rw [heq] at hhush
  refine ⟨pl, dr, heq, settle_of_hushed _ c ?_ hm, hhush, ?_⟩
  · rw [heq]
    exact ha
  · rw [heq]
    exact fun e he => hown e (hsub e he)

end

end Sys2Proof.Machine
end


section
/-! PROOFS. The resume choice (R61, R62): the head of the waiting list starts, or the stack top resumes. -/

namespace Sys2Proof.Machine

section
variable {s : State}

/-- R61: with HUSH released the choice is made. -/
theorem resumeChoice_open (hh : s.drive.hush = false) :
    s.resumeChoice = engineLoop (19998 + 1 + 1) .choose s := by
  simp [State.resumeChoice, hh, engineFuel]

/-- R68: under HUSH no choice is made. -/
theorem resumeChoice_of_hush (hh : s.drive.hush = true) : s.resumeChoice = s := if_pos hh

theorem choose_of_inactive (ha : s.engine.active = none) : s.agendaStep .choose = s.choose := by
  simp [State.agendaStep, ha]

/-- R53: a list of bookings that all wait on is left as it is, from whatever place it is looked through. -/
theorem engineLoop_of_waits {c : Context} (ha : s.engine.active = some c)
    (hwait : ∀ k ∈ s.engine.waiting, ∃ x, s.booking? k = some x ∧ c.judge x.record = .waits) (n k : Nat) :
    engineLoop n (.judge k) s = s := by
  induction n generalizing k with
  | zero => rfl
  | succ n ih =>
    cases hk : s.engine.waiting[k]? with
    | none => exact engineLoop_done (judge_past hk)
    | some m =>
      obtain ⟨x, hx, hjudge⟩ := hwait m (List.mem_of_getElem? hk)
      refine (engineLoop_next (a' := .judge (k + 1)) ?_).trans (ih (k + 1))
      simp [State.agendaStep, State.judgeAt, hk, hx, ha, hjudge]

/-- R61: the one booking that waits comes before the stack top, and starts. -/
theorem resumeChoice_starts {n : Nat} {b : Booking} (hh : s.drive.hush = false) (ha : s.engine.active = none)
    (hw : s.engine.waiting = [n]) (hb : s.booking? n = some b) (hp : s.playable b.record)
    (hfirst : s.headFirst b.record = true) : s.resumeChoice = s.start n := by
  have hchoose : s.agendaStep .choose = (s.start n, some (.judge 0)) := by
    rw [choose_of_inactive ha]
    unfold State.choose
    simp only [hw, hb, hfirst, if_true, startRefusal_of_playable hp]
    exact settleStart_of_playable hb hp _
  obtain ⟨pl, st, heq, -⟩ := start_eq hb hp
  have hempty : (s.start n).engine.waiting[0]? = none := by
    rw [heq]
    simp [hw]
  rw [resumeChoice_open hh, engineLoop_next hchoose, engineLoop_done (judge_past hempty)]

/-- R62: the stack top at its resume point, in the active place. -/
theorem resumeTop_eq {top : Context} {rest : List Context} (hs : s.engine.stack = top :: rest) :
    s.resumeTop = (({ s with engine := { s.engine with active := some (top.fromResume s.now), stack := rest } } :
      State).setBookingState top.booking .sounding).takeUp := by
  unfold State.resumeTop
  rw [hs]

/-- R61, R62: the stack top resumes, where no booking comes before it and it is not at its end. -/
theorem resumeChoice_resumes {top c : Context} {rest : List Context} (hh : s.drive.hush = false)
    (ha : s.engine.active = none) (hs : s.engine.stack = top :: rest)
    (hfirst : ∀ n ∈ s.engine.waiting, ∃ x, s.booking? n = some x ∧ s.headFirst x.record = false)
    (hend : s.resumeTop.endDue = none) (hc : s.resumeTop.engine.active = some c)
    (hwait : ∀ k ∈ s.resumeTop.engine.waiting, ∃ x, s.resumeTop.booking? k = some x ∧
      c.judge x.record = .waits) : s.resumeChoice = s.resumeTop := by
  have hsettle : s.resumeTop.settleStart (.judge 0) = (s.resumeTop, some (.judge 0)) := by
    unfold State.settleStart
    rw [hend]
  have hchoose : s.agendaStep .choose = (s.resumeTop, some (.judge 0)) := by
    rw [choose_of_inactive ha]
    unfold State.choose
    split
    · rw [hs, ← hsettle]
      rfl
    · rename_i n rest hw
      obtain ⟨x, hx, hnot⟩ := hfirst n (by simp [hw])
      rw [← hsettle]
      simp [hx, hnot]
  rw [resumeChoice_open hh, engineLoop_next hchoose, engineLoop_of_waits hc hwait]

end

end Sys2Proof.Machine
end

section
/-! PROOFS. HUSH asserted and released (R57, R68, R69, R111, R145, R146): O37. -/

namespace Sys2Proof.Machine

/-! ## The assertion -/

/-- R68, R111: HUSH ASSERT on a SCORE or TOLL. -/
theorem hushAssert_silences {s : State} {c : Context} (hh : s.drive.hush = false) (ha : s.engine.active = some c)
    (hm : c.mode = .playing) (hk : c.melodyKind ≠ none) : ∃ t, exec .hushAssert s = .next t ∧
      t.engine = { s.engine with active := some { c with
        mode := .hushed, resume := s.resumePoint c (s.earliestEntry c.booking), feedDeadline := none } } ∧
      t.drive = { s.drive with hush := true } ∧ t.book = s.book ∧ t.player = .initial ∧
      t.notices = s.notices ∧ t.time = s.time ∧ t.links = s.links ∧ t.library = s.library ∧
      ∀ e, e ∈ t.planner.queue ↔ e ∈ s.planner.queue ∧ e.owner ≠ .booking c.booking := by
  obtain ⟨pl, st, live, heq, hqueue⟩ := hushActive_of_melody (s := s.setHush true) ha hm hk
  refine ⟨_, exec_hushAssert hh, ?_⟩
  have hresume : (s.setHush true).resumePoint c ((s.setHush true).earliestEntry c.booking) =
      s.resumePoint c (s.earliestEntry c.booking) := resumePoint_congr rfl rfl c _
  rw [heq, hresume]
  refine ⟨rfl, rfl, rfl, rfl, rfl, rfl, rfl, rfl, fun e => ?_⟩
  rw [show pl.queue = _ from hqueue, mem_removeOwner]
  rfl

/-- R68, R111, R145: HUSH ASSERT on a LIVE performance. -/
theorem hushAssert_silences_live {s : State} {c : Context} {l : LiveFeed} (hh : s.drive.hush = false)
    (ha : s.engine.active = some c) (hm : c.mode = .playing) (hk : c.melodyKind = none) (hl : s.live = some l)
    (hlb : l.booking = c.booking) (hlost : c.counts.lost ≤ 65535) : ∃ t, exec .hushAssert s = .next t ∧
      t.engine = { s.engine with active := some { c with
        mode := .hushed, resume := ⟨c.pos, c.pos.tick, c.tempoNow⟩, feedDeadline := none
        counts := { c.counts with lost := min 65535 (c.counts.lost +
          (s.planner.queue.filter fun e => e.owner = .booking c.booking).length) } } } ∧
      t.live = some { l with idle := match l.idle.since with
        | some since => ⟨l.idle.kept + (s.time.clock - since), none⟩
        | none => l.idle } ∧
      t.drive = { s.drive with hush := true } ∧ t.book = s.book ∧ t.player = .initial ∧
      t.notices = s.notices ∧ t.time = s.time ∧ t.links = s.links ∧ t.library = s.library ∧
      ∀ e, e ∈ t.planner.queue ↔ e ∈ s.planner.queue ∧ e.owner ≠ .booking c.booking := by
  obtain ⟨pl, st, heq, hqueue⟩ := hushActive_of_live (s := s.setHush true) ha hm hk hl hlb hlost
  refine ⟨_, exec_hushAssert hh, ?_⟩
  rw [heq]
  refine ⟨rfl, ?_, rfl, rfl, rfl, rfl, rfl, rfl, rfl, fun e => ?_⟩
  · have hhold : l.idle.hold s.now = match l.idle.since with
        | some since => ⟨l.idle.kept + (s.time.clock - since), none⟩
        | none => l.idle := by
      unfold IdleTime.hold State.now
      cases l.idle.since <;> rfl
    rw [← hhold]
    rfl
  · rw [show pl.queue = _ from hqueue, mem_removeOwner]
    rfl

/-! ## The release -/

section
variable {s : State} {c : Context} (hh : s.drive.hush = true) (hload : s.store.loading = false)
  (ha : s.engine.active = some c) (hm : c.mode = .hushed) (hown : s.ownsNothing c.booking)

/-- R69: the hushed context restarted at the release. -/
def State.restartState (s : State) (c : Context) (pl : Planner) (dr : Drive) : State :=
  { s with planner := pl, drive := dr, engine := { s.engine with active := some (s.restarted c) } }

include hh hload ha hm hown

/-- R69, R128: the release lets the arbiter go on, and the hushed context restarts; what follows is its end, or the
engine reconsiders. -/
theorem hushRelease_restarts : ∃ pl dr,
    exec .fireTimeReached s.unhushed = .next { s with planner := pl, drive := dr } ∧ dr.hush = false ∧
    (s.restartState c pl dr).ownsNothing c.booking ∧
    ((s.restartState c pl dr).takeUp.endDue = none →
      exec .hushRelease s = .next (s.restartState c pl dr).takeUp.reconsider) ∧
    ∀ k, (s.restartState c pl dr).takeUp.endDue = some k →
      exec .hushRelease s = .next ((s.restartState c pl dr).takeUp.endActive k none false).resumeChoice := by
  obtain ⟨pl, dr, heq, hsettle, hhush, hnothing⟩ := unhushed_arbiter ha hm hown
  have hexec := exec_hushRelease hh hload
  have hfire : exec .fireTimeReached s.unhushed = .next s.unhushed.arbiter.settle := rfl
  rw [hsettle] at hfire
  rw [heq] at hexec hfire hnothing
  have hrestart : ({ s with planner := pl, drive := dr } : State).restartActive = (s.restartState c pl dr).takeUp :=
    restartActive_eq (s := { s with planner := pl, drive := dr }) ha
  refine ⟨pl, dr, hfire, hhush, hnothing, fun hend => ?_, fun k hend => ?_⟩
  · rw [hexec, releaseEngine_restarts (s := { s with planner := pl, drive := dr }) ha hm (by rw [hrestart]; exact hend),
      hrestart]
  · rw [hexec, releaseEngine_ends (s := { s with planner := pl, drive := dr }) ha hm (by rw [hrestart]; exact hend),
      hrestart]

end

end Sys2Proof.Machine
end


section
/-! PROOFS. HUSH released by the kind of the performance (R69, R88, R95, R146): O37. -/

namespace Sys2Proof.Machine

/-! ## Hushed contexts as they restart (R69, R95, R146) -/

section
variable (s : State) {c : Context}

/-- R69, R95, log 38: a SCORE or TOLL as it restarts. -/
theorem restarted_of_melody (hk : c.melodyKind ≠ none) : s.restarted c = { c with
    mode := .playing, pos := c.resume.pos, tempoNow := c.resume.tempo
    originTime := s.time.clock + 500000, originTick := c.resume.tick, atResume := true
    repeatNo := if c.melodyKind = some .toll then (c.resume.pos.number - 1) / c.tollCount + 1 else c.repeatNo } := by
  have hcase : (c.fromResume s.now).melodyKind = c.melodyKind := rfl
  unfold State.restarted
  dsimp only
  rw [hcase]
  cases hm : c.melodyKind with
  | none => exact absurd hm hk
  | some k =>
    cases k with
    | score =>
      simp only [Context.fromResume, hm]
      rfl
    | toll =>
      simp only [Context.fromResume, hm, if_true]
      rfl

/-- R146: a LIVE performance as it restarts. -/
theorem restarted_of_live {l : LiveFeed} (hk : c.melodyKind = none) (hl : s.live = some l) : s.restarted c = { c with
    mode := .playing, pos := c.resume.pos, tempoNow := c.resume.tempo, originTime := s.time.clock + 500000
    originTick := c.resume.pos.tick + ((l.queue.head?.map Event.delta).getD 0), atResume := true } := by
  have hcase : (c.fromResume s.now).melodyKind = none := hk
  have htick : s.liveRestartTick (c.fromResume s.now) =
      c.resume.pos.tick + ((l.queue.head?.map Event.delta).getD 0) := by
    unfold State.liveRestartTick
    rw [hl]
    cases hq : l.queue <;> simp [hq, Context.fromResume]
  unfold State.restarted
  dsimp only
  split
  · rename_i hscore
    cases hcase.symm.trans hscore
  · rename_i htoll
    cases hcase.symm.trans htoll
  · rw [htick]
    rfl

/-- R145, R146: the idle time of a feed that is taken up. -/
theorem idleAtTakeUp_eq (l : LiveFeed) (now : Nat) : l.idleAtTakeUp now =
    if l.queue = [] ∧ l.mode = .opened then ⟨l.idle.kept, some now⟩ else ⟨0, none⟩ := by
  unfold LiveFeed.idleAtTakeUp
  simp only [Bool.and_eq_true, List.isEmpty_iff, beq_iff_eq]
  rfl

end

/-! ## Restarts -/

section
variable {s : State} {c : Context} (hh : s.drive.hush = true) (hload : s.store.loading = false)
  (ha : s.engine.active = some c) (hm : c.mode = .hushed) (hown : s.ownsNothing c.booking)
include hh hload ha hm hown

/-- R69, R85: HUSH RELEASE on a SCORE or TOLL that goes on, with nothing waiting. -/
theorem hushRelease_goesOn (hk : c.melodyKind ≠ none) (hslot : c.melody ≠ none) (hp : c.pendingHalt = none)
    (hw : s.engine.waiting = []) (hfailed : c.melodyKind = some .score → c.resume.pos.segment ∉ c.failed) :
    ∃ pl dr, exec .fireTimeReached s.unhushed = .next { s with planner := pl, drive := dr } ∧
      exec .hushRelease s = .next (s.restartState c pl dr).takeUp ∧
      ∃ py st, (s.restartState c pl dr).takeUp = { s.restartState c pl dr with player := py, store := st } ∧
        py.done = none := by
  obtain ⟨pl, dr, hfire, -, -, hgoes, -⟩ := hushRelease_restarts hh hload ha hm hown
  have hrestarted := restarted_of_melody s hk
  have hcan : (s.restarted c).canPlan := by
    rw [hrestarted]
    cases hkind : c.melodyKind with
    | none => exact absurd hkind hk
    | some kind =>
      cases kind with
      | score => exact .inl ⟨rfl, hslot, hfailed hkind⟩
      | toll => exact .inr ⟨rfl, by simp [hp]⟩
  obtain ⟨py, st, heq, hdone⟩ := takeUp_eq (s := s.restartState c pl dr) rfl hcan
  have hend : (s.restartState c pl dr).takeUp.endDue = none := by
    rw [heq]
    exact endDue_of_planning rfl hcan.melodyKind hdone
  have hempty : (s.restartState c pl dr).takeUp.engine.waiting = [] := by
    rw [heq]
    exact hw
  refine ⟨pl, dr, hfire, ?_, py, st, heq, hdone⟩
  rw [hgoes hend, reconsider_of_empty _ hempty]

/-- R69, R146: HUSH RELEASE on a LIVE performance that goes on, with nothing waiting. -/
theorem hushRelease_goesOn_live {l : LiveFeed} (hk : c.melodyKind = none) (hl : s.live = some l)
    (hw : s.engine.waiting = []) (hmode : l.mode = .opened ∨ (l.mode = .closing ∧ l.queue ≠ [])) :
    ∃ pl dr, exec .fireTimeReached s.unhushed = .next { s with planner := pl, drive := dr } ∧
      exec .hushRelease s = .next (s.restartState c pl dr).takeUp := by
  obtain ⟨pl, dr, hfire, -, hnothing, hgoes, -⟩ := hushRelease_restarts hh hload ha hm hown
  have hrestarted := restarted_of_live s hk hl
  have hkind : (s.restarted c).melodyKind = none := by rw [hrestarted]; exact hk
  have htake := takeUp_of_live (s := s.restartState c pl dr) rfl hkind
  have hend : (s.restartState c pl dr).takeUp.endDue = none := by
    rw [htake]
    unfold State.endDue
    dsimp only
    split
    · rfl
    · have hlive : (s.restartState c pl dr).live = some l := hl
      simp only [hkind, hlive, Option.map_some, Option.bind_some, LiveFeed.ending]
      rcases hmode with h | ⟨h, hq⟩
      · simp [h]
      · simp [h, hq]
  have hempty : (s.restartState c pl dr).takeUp.engine.waiting = [] := by
    rw [htake]
    exact hw
  refine ⟨pl, dr, hfire, ?_⟩
  rw [hgoes hend, reconsider_of_empty _ hempty]

/-- R60, R69: what a hushed performance without strikes leaves that ends as it restarts, with none other. -/
theorem hushRelease_ends {b : Booking} {k : OutcomeKind} (hs : s.engine.stack = []) (hw : s.engine.waiting = [])
    (hb : s.booking? c.booking = some b)
    (hend : ∀ pl dr, (s.restartState c pl dr).ownsNothing c.booking → ∃ x py live,
      (s.restartState c pl dr).takeUp = { s.restartState c pl dr with
        player := py, live := live, engine := { s.engine with active := some x } } ∧
      x.booking = c.booking ∧ x.counts = c.counts ∧ (s.restartState c pl dr).takeUp.endDue = some k) :
    ∃ v t : State, exec .fireTimeReached s.unhushed = .next v ∧ exec .hushRelease s = .next t ∧
      t.engine = ⟨none, [], []⟩ ∧ t.planner = v.planner ∧ t.drive = v.drive ∧
      t.store.reads = (s.store.releaseReads (fun _ => true)).reads ∧
      t.disposed c.booking b ⟨k, none, b.current, c.counts⟩ := by
  obtain ⟨pl, dr, hfire, -, hnothing, -, hends⟩ := hushRelease_restarts hh hload ha hm hown
  obtain ⟨x, py, live, heq, hxb, hxc, hdue⟩ := hend pl dr hnothing
  have hexec := hends k hdue
  generalize hu : (s.restartState c pl dr).takeUp = u at heq hdue hexec
  have hact : u.engine.active = some x := by rw [heq]
  have hstack : u.engine.stack = [] := by rw [heq]; exact hs
  have hwaiting : u.engine.waiting = [] := by rw [heq]; exact hw
  have hbooking : u.booking? x.booking = some b := by rw [heq, hxb]; exact hb
  have hunothing : u.ownsNothing x.booking := by rw [heq, hxb]; exact hnothing
  obtain ⟨hchoice, -⟩ := endActive_choice_alone hstack hwaiting k none
  obtain ⟨hengine, -, hdisposed, -⟩ := end_alone hact hstack hwaiting hbooking k none
  have hended := endActive_of_ownsNothing hact hunothing k none
  obtain ⟨book, live', notices, hframe⟩ := dispose_frame x.booking k none x.counts false { u with
    player := .initial, store := u.store.releaseReads fun _ => true, engine := { u.engine with active := none } }
  rw [hxb, hxc] at hdisposed
  refine ⟨_, _, hfire, hexec, hengine, ?_, ?_, ?_, hdisposed⟩
  all_goals
    rw [hchoice, hended, hframe, heq]
    rfl

end

/-- R61, R69: HUSH RELEASE with no context starts the one booking that waits. -/
theorem hushRelease_starts {s : State} {n : Nat} {b : Booking} (hh : s.drive.hush = true)
    (hload : s.store.loading = false) (he : s.engine = ⟨none, [], [n]⟩) (hb : s.booking? n = some b)
    (hp : s.playable b.record) : ∃ v t : State, exec .fireTimeReached s.unhushed = .next v ∧
      exec .hushRelease s = .next t ∧ t.engine.active.map Context.booking = some n ∧ t.engine.stack = [] ∧
      t.engine.waiting = [] ∧ t.planner = v.planner ∧ t.drive = v.drive ∧
      t.booking? n = some { b with state := .sounding, waiting := none } := by
  obtain ⟨hsettle, hengine, hbook⟩ := arbiter_settle_of_inactive (s := s.unhushed) (by rw [State.unhushed, he])
  have hkept := arbiter_kept s.unhushed
  have hfire : exec .fireTimeReached s.unhushed = .next s.unhushed.arbiter.settle := rfl
  have hexec := exec_hushRelease hh hload
  have hengine : s.unhushed.arbiter.engine = ⟨none, [], [n]⟩ := hengine.trans he
  have hbooking : s.unhushed.arbiter.booking? n = some b := by rw [State.booking?, hbook]; exact hb
  have hplayable : s.unhushed.arbiter.playable b.record := hp.congr hkept.ready hkept.library
  have hchoice : s.unhushed.arbiter.releaseEngine = s.unhushed.arbiter.resumeChoice := by
    unfold State.releaseEngine
    simp only [hengine]
  have hstart : s.unhushed.arbiter.resumeChoice = s.unhushed.arbiter.start n :=
    resumeChoice_starts hkept.hush (by rw [hengine]) (by rw [hengine]) hbooking hplayable
      (by simp [State.headFirst, hengine])
  rw [hsettle] at hfire
  rw [hchoice, hstart] at hexec
  obtain ⟨hactive, hstack, hwaiting, hplanner, hdrive, -, hbegun⟩ := start_alone hengine hbooking hplayable
  exact ⟨_, _, hfire, hexec, hactive, hstack, hwaiting, hplanner, hdrive, hbegun⟩

/-- R69, R128: with an idle engine HUSH RELEASE is the arbiter's alone. -/
theorem hushRelease_of_idle {s : State} (hh : s.drive.hush = true) (hload : s.store.loading = false)
    (hidle : s.engineIdle = true) : exec .hushRelease s = .next s.unhushed.arbiter ∧
      exec .fireTimeReached s.unhushed = .next s.unhushed.arbiter := by
  have he := engineIdle_iff.1 hidle
  have ha : s.unhushed.engine.active = none := by rw [State.unhushed, he]
  obtain ⟨hsettle, hengine, -⟩ := arbiter_settle_of_inactive ha
  have hengine : s.unhushed.arbiter.engine = ⟨none, [], []⟩ := hengine.trans he
  have hchoice : s.unhushed.arbiter.releaseEngine = s.unhushed.arbiter := by
    unfold State.releaseEngine
    simp only [hengine]
    exact resumeChoice_of_empty _ (by rw [hengine]) (by rw [hengine])
  rw [exec_hushRelease hh hload, hchoice]
  exact ⟨rfl, congrArg Host.Outcome.next hsettle⟩

/-- R74, R138: during the load the level alone is followed. -/
theorem hushRelease_of_loading {s : State} (hh : s.drive.hush = true) (hload : s.store.loading = true) :
    exec .hushRelease s = .next s.unhushed := by
  have hload : (s.setHush false).store.loading = true := hload
  show Host.Outcome.next (if s.drive.hush then s.releaseHush else s) = _
  rw [if_pos hh]
  unfold State.releaseHush
  exact congrArg Host.Outcome.next (if_pos hload)

/-- R57: the marks past the limit are those that do not count. -/
theorem past_of_not_counting {c : Context} {removed : Option ScorePos} {l : Nat × Nat} {xs : List (Nat × Nat × Event)}
    (hl : c.resumeLimit removed = some l)
    (h : ∀ x ∈ xs, x.2.2.isPhrase = true → ¬ (atOrBefore (x.1, x.2.1) (c.pos.segment, c.pos.event) = true ∧
      ∀ r, removed = some r → c.repeatNo ≤ r.repeatNo ∧ atOrBefore (x.1, x.2.1) (r.segment, r.event) = true)) :
    ∀ x ∈ xs, x.2.2.isPhrase = true → atOrBefore (x.1, x.2.1) l = false := by
  intro x hx hphrase
  have hnot := h x hx hphrase
  rw [atOrBefore_resumeLimit] at hnot
  by_contra hmark
  exact hnot ⟨l, hl, by simpa using hmark⟩

/-- R111: what the earliest entry of a performance is. -/
theorem earliestEntry_spec (n : Nat) (s : State) :
    (s.earliestEntry n = none ↔ ∀ e ∈ s.planner.queue, e.owner = .booking n → e.pos = none) ∧
    ∀ r, s.earliestEntry n = some r →
      (∃ e ∈ s.planner.queue, e.owner = .booking n ∧ e.pos = some r) ∧
      ∀ e ∈ s.planner.queue, e.owner = .booking n → ∀ x, e.pos = some x → x.before r = false := by
  obtain ⟨hnone, hsome⟩ := earliestEntry_earliest n s
  have hmem (x : Option ScorePos) : x ∈ (s.planner.queue.filter (·.ownedBy n)).map StrikeEntry.pos ↔
      ∃ e ∈ s.planner.queue, e.owner = .booking n ∧ e.pos = x := by
    simp [List.mem_map, List.mem_filter, ownedBy_eq_true, and_assoc]
  refine ⟨hnone.trans ⟨fun h e he ho => h e.pos ((hmem _).2 ⟨e, he, ho, rfl⟩), fun h x hx => ?_⟩, fun r hr => ?_⟩
  · obtain ⟨e, he, ho, rfl⟩ := (hmem x).1 hx
    exact h e he ho
  · obtain ⟨hin, hmin⟩ := hsome r hr
    exact ⟨(hmem _).1 hin, fun e he ho x hx => hmin x ((hmem _).2 ⟨e, he, ho, hx⟩)⟩

/-- R69, R85, R88: HUSH RELEASE on a SCORE or TOLL: where it goes on, and what is read for it. -/
theorem hushRelease_of_melody {s : State} {c : Context} (hh : s.drive.hush = true) (hload : s.store.loading = false)
    (ha : s.engine.active = some c) (hm : c.mode = .hushed) (hown : s.ownsNothing c.booking)
    (hk : c.melodyKind ≠ none) (hslot : c.melody ≠ none) (hp : c.pendingHalt = none) (hw : s.engine.waiting = [])
    (hfailed : c.melodyKind = some .score → c.resume.pos.segment ∉ c.failed) :
    ∃ v t : State, exec .fireTimeReached s.unhushed = .next v ∧ exec .hushRelease s = .next t ∧
      t.engine = { s.engine with active := some { c with
        mode := .playing, pos := c.resume.pos, tempoNow := c.resume.tempo
        originTime := s.time.clock + 500000, originTick := c.resume.tick, atResume := true
        repeatNo := if c.melodyKind = some .toll
          then (c.resume.pos.number - 1) / c.tollCount + 1 else c.repeatNo } } ∧
      (∀ slot, c.melodyKind = some .score → c.melody = some slot →
        let after := c.resume.pos.segment + 1
        t.player.cur = .reading c.resume.pos.segment ∧
        (after < (s.melody slot).segmentCount → after ∉ c.failed → t.player.next = .reading after) ∧
        (after < (s.melody slot).segmentCount → after ∈ c.failed → t.player.next = .failed after ∧
          ∀ r ∈ t.store.reads, r ∈ s.store.reads ∨ r.segment = c.resume.pos.segment)) ∧
      t.player.done = none ∧ t.player.stopPoint = none ∧
      t.drive = v.drive ∧ t.book = s.book ∧ t.planner = v.planner ∧
      t.notices = s.notices ∧ t.time = s.time ∧ t.links = s.links ∧ t.library = s.library := by
  obtain ⟨pl, dr, hfire, hexec, py, st, heq, hdone⟩ :=
    hushRelease_goesOn hh hload ha hm hown hk hslot hp hw hfailed
  have hrestarted := restarted_of_melody s hk
  have hkind : (s.restarted c).melodyKind = c.melodyKind := by rw [hrestarted]
  have hmelody : (s.restarted c).melody = c.melody := by rw [hrestarted]
  have hhalt : (s.restarted c).pendingHalt = none := by rw [hrestarted]; exact hp
  have hscore (slot : Nat) (hks : c.melodyKind = some .score) (hms : c.melody = some slot) :
      (s.restartState c pl dr).takeUp =
        ({ s.restartState c pl dr with player := .initial } : State).startReads (s.restarted c) slot := by
    rw [takeUp_of_score (c := s.restarted c) rfl (hkind.trans hks) (hmelody.trans hms), hhalt]
    rfl
  have hread (slot : Nat) (hks : c.melodyKind = some .score) := startReads_player
    (s := { s.restartState c pl dr with player := .initial }) (c := s.restarted c) (slot := slot)
    (by rw [hrestarted]; exact hfailed hks)
  have hstop : (s.restartState c pl dr).takeUp.player.stopPoint = none := by
    cases hks : c.melodyKind with
    | none => exact absurd hks hk
    | some k =>
      cases k with
      | score =>
        obtain ⟨slot, hms⟩ := Option.ne_none_iff_exists'.1 hslot
        obtain ⟨-, -, hstop, -⟩ := hread slot hks
        rw [hscore slot hks hms]
        exact hstop
      | toll =>
        rw [takeUp_of_toll (c := s.restarted c) rfl (hkind.trans hks) (by simp [hhalt])]
        rfl
  refine ⟨_, _, hfire, hexec, ?_, fun slot hks hms => ?_, ?_, hstop, ?_⟩
  · rw [heq, ← hrestarted]
    rfl
  · obtain ⟨hcur, -, -, hnext, hskip⟩ := hread slot hks
    rw [hscore slot hks hms]
    rw [hrestarted] at hcur hnext hskip ⊢
    exact ⟨hcur, hnext, hskip⟩
  · rw [heq]
    exact hdone
  · rw [heq]
    exact ⟨rfl, rfl, rfl, rfl, rfl, rfl, rfl⟩

/-- R146: a LIVE performance taken up as it restarts. -/
theorem restartState_takeUp_live {s : State} {c : Context} {l : LiveFeed} (hk : c.melodyKind = none)
    (hl : s.live = some l) (pl : Planner) (dr : Drive) : (s.restartState c pl dr).takeUp = { s with
      planner := pl, drive := dr, player := .initial
      engine := { s.engine with active := some { c with
        mode := .playing, pos := c.resume.pos, tempoNow := c.resume.tempo, originTime := s.time.clock + 500000
        originTick := c.resume.pos.tick + ((l.queue.head?.map Event.delta).getD 0)
        feedDeadline := some (s.time.clock + 500000 + 48 * (1250000 / c.resume.tempo)), atResume := true } }
      live := some { l with idle := if l.queue = [] ∧ l.mode = .opened
        then ⟨l.idle.kept, some s.time.clock⟩ else ⟨0, none⟩ } } := by
  have hrestarted := restarted_of_live s hk hl
  have hkind : (s.restarted c).melodyKind = none := by rw [hrestarted]; exact hk
  have hlive : (s.restartState c pl dr).live = some l := hl
  rw [takeUp_of_live (c := s.restarted c) rfl hkind, hlive, hrestarted, Option.map_some, idleAtTakeUp_eq]
  rfl

/-- R69, R147: HUSH RELEASE on a LIVE performance that is at its end. -/
theorem hushRelease_ends_live {s : State} {c : Context} {l : LiveFeed} {b : Booking} (hh : s.drive.hush = true)
    (hload : s.store.loading = false) (ha : s.engine.active = some c) (hm : c.mode = .hushed)
    (hown : s.ownsNothing c.booking) (hk : c.melodyKind = none) (hl : s.live = some l) (hs : s.engine.stack = [])
    (hw : s.engine.waiting = []) (hb : s.booking? c.booking = some b)
    (hmode : l.mode = .stopped ∨ (l.mode = .closing ∧ l.queue = [])) :
    ∃ v t : State, exec .fireTimeReached s.unhushed = .next v ∧ exec .hushRelease s = .next t ∧
      t.engine = ⟨none, [], []⟩ ∧ t.planner = v.planner ∧ t.drive = v.drive ∧ t.disposed c.booking b
        ⟨if l.mode = .closing ∧ l.endsHalted = false then .played else .halted, none, b.current, c.counts⟩ := by
  have hend (pl : Planner) (dr : Drive) (hnothing : (s.restartState c pl dr).ownsNothing c.booking) : ∃ x py live,
      (s.restartState c pl dr).takeUp = { s.restartState c pl dr with
        player := py, live := live, engine := { s.engine with active := some x } } ∧
      x.booking = c.booking ∧ x.counts = c.counts ∧ (s.restartState c pl dr).takeUp.endDue =
        some (if l.mode = .closing ∧ l.endsHalted = false then .played else .halted) := by
    have htake := restartState_takeUp_live hk hl pl dr
    refine ⟨_, _, _, htake, rfl, rfl, ?_⟩
    rw [htake]
    refine (endDue_of_live rfl ?_ ?_ rfl ?_).trans ?_
    · rfl
    · exact hk
    · exact hnothing
    rcases hmode with h | ⟨h, hq⟩
    · simp [LiveFeed.ending, h]
    · cases l.endsHalted <;> simp [LiveFeed.ending, h, hq]
  obtain ⟨v, t, hfire, hexec, hengine, hplanner, hdrive, -, hdisposed⟩ :=
    hushRelease_ends hh hload ha hm hown hs hw hb hend
  exact ⟨v, t, hfire, hexec, hengine, hplanner, hdrive, hdisposed⟩

/-- R88, log 44: HUSH RELEASE on a SCORE that would begin with a segment that failed. -/
theorem hushRelease_ends_damaged {s : State} {c : Context} {b : Booking} (hh : s.drive.hush = true)
    (hload : s.store.loading = false) (he : s.engine = ⟨some c, [], []⟩) (hm : c.mode = .hushed)
    (hk : c.melodyKind = some .score) (hslot : c.melody ≠ none) (hfailed : c.resume.pos.segment ∈ c.failed)
    (hown : s.ownsNothing c.booking) (hb : s.booking? c.booking = some b) :
    ∃ v t : State, exec .fireTimeReached s.unhushed = .next v ∧ exec .hushRelease s = .next t ∧
      t.engine = ⟨none, [], []⟩ ∧ t.planner = v.planner ∧ t.drive = v.drive ∧
      t.store.reads = (s.store.releaseReads (fun _ => true)).reads ∧
      t.disposed c.booking b ⟨.scoreDamaged, none, b.current, c.counts⟩ := by
  obtain ⟨slot, hms⟩ := Option.ne_none_iff_exists'.1 hslot
  have hrestarted := restarted_of_melody s (c := c) (by rw [hk]; exact nofun)
  refine hushRelease_ends hh hload (by rw [he]) hm hown (by rw [he]) (by rw [he]) hb fun pl dr hnothing => ?_
  obtain ⟨py, htake, hdone⟩ := takeUp_of_failed (s := s.restartState c pl dr) (c := s.restarted c) (slot := slot) rfl
    (by rw [hrestarted]; exact hk) (by rw [hrestarted]; exact hms) (by rw [hrestarted]; exact hfailed)
  refine ⟨s.restarted c, py, s.live, htake, by rw [hrestarted], by rw [hrestarted], ?_⟩
  have hentries : (s.restartState c pl dr).takeUp.hasEntries (s.restarted c).booking = false := by
    rw [htake, hrestarted]
    exact hasEntries_of_ownsNothing hnothing
  have hactive : (s.restartState c pl dr).takeUp.engine.active = some (s.restarted c) := by rw [htake]; rfl
  have hmode : (s.restarted c).mode = .playing := by rw [hrestarted]
  have hkind : (s.restarted c).melodyKind = some .score := by rw [hrestarted]; exact hk
  unfold State.endDue
  simp only [hactive, hentries, hmode, hkind]
  rw [htake, hdone]
  rfl

/-- Settles O37: the assertion by `hushAssert_silences` and `hushAssert_silences_live`, the release by
`hushRelease_goesOn`, `hushRelease_goesOn_live` and `hushRelease_ends`, the resume points by `scoreResume_of_mark`,
`scoreResume_of_none` and `earliestEntry_earliest`. -/
theorem hushSilencesAndReleases : Obligations.HushSilencesAndReleases := by
  unfold Obligations.HushSilencesAndReleases
  intro released
  refine ⟨fun c s hh ha hm hk => hushAssert_silences hh ha hm hk,
    fun c s hh hload ha hm hk hslot hp hw hown hfailed => ?_,
    fun c l s ha hk hl hlb => ⟨fun hh hm hlost => hushAssert_silences_live hh ha hm hk hl hlb hlost,
      fun hh hload hm hw hown hmode => ?_, fun b hh hload hm hs hw hown hb hmode => ?_⟩,
    fun c b s hh hload he hm hk hslot hfailed hown hb => ?_,
    fun s hh ha => ?_, fun s hh => ⟨fun h => ?_, fun hidle hload => ?_⟩,
    fun n m b h s hh hready hload he hb hm hstate hdamaged hknown => ?_,
    fun s => ⟨fun hh => ?_, fun hh => ?_⟩,
    fun c slot removed s hk hm => ⟨fun hr => ?_, fun hr => ⟨fun front segment event delta back hscore hmark hback => ?_,
      fun hnone => ?_⟩⟩,
    fun c removed s hk => resumePoint_of_toll hk removed, fun n s => ⟨?_, fun r hr => ?_⟩⟩
  · exact hushRelease_of_melody hh hload ha hm hown hk hslot hp hw hfailed
  · obtain ⟨pl, dr, hfire, hexec⟩ := hushRelease_goesOn_live hh hload ha hm hown hk hl hw hmode
    refine ⟨_, hfire, ?_⟩
    rw [hexec, restartState_takeUp_live hk hl]
  · exact hushRelease_ends_live hh hload ha hm hown hk hl hs hw hb hmode
  · exact hushRelease_ends_damaged hh hload he hm hk hslot hfailed hown hb
  · have ha : (s.setHush true).engine.active = none := ha
    rw [exec_hushAssert hh]
    unfold State.hushActive
    simp only [ha]
    rfl
  · by_cases hload : s.store.loading = true
    · exact hushRelease_of_loading hh hload
    · obtain ⟨ha, hs, hw, hq⟩ := (quiet_iff s).1 (h.resolve_right hload)
      obtain ⟨hexec, -⟩ := hushRelease_of_idle hh (by simpa using hload) (by simp [State.engineIdle, ha, hs, hw])
      rw [hexec, arbiter_nil s.unhushed hq]
      rfl
  · obtain ⟨hexec, hfire⟩ := hushRelease_of_idle hh hload hidle
    exact hexec.trans hfire.symm
  · exact hushRelease_starts hh hload he hb ⟨hready, m, h, hm, hstate, hdamaged, hknown⟩
  · exact congrArg Host.Outcome.next (if_pos hh)
  · exact congrArg Host.Outcome.next (if_neg (by simp [hh]))
  · exact resumePoint_of_atResume s c removed hk (by simp [hm]) hr
  · obtain ⟨l, hl, hbefore⟩ := (atOrBefore_resumeLimit c removed (segment, event)).1 hmark
    rw [resumePoint_of_score hk hm hr]
    exact scoreResume_of_mark hscore hl hbefore (past_of_not_counting hl hback)
  · rw [resumePoint_of_score hk hm hr]
    exact scoreResume_of_none fun l hl => past_of_not_counting hl hnone
  · exact (earliestEntry_spec n s).1
  · exact (earliestEntry_spec n s).2 r hr

end Sys2Proof.Machine
end


section
/-! PROOFS. HALT at its owner (R64–R67): whom it names, what the request does, and how a halt is stored. -/

namespace Sys2Proof.Machine

/-! ## Whom a HALT names (R64) -/

/-- R64: a HALT that names the active context alone names it, and nothing on the stack. -/
theorem names_of_haltsOnly {s : State} {target : HaltTarget} {c : Context} (h : s.haltsOnly target c) :
    target.names true c = true ∧ ∀ x ∈ s.engine.stack, target.names false x = false := by
  rcases h with rfl | ⟨rfl, hs⟩ | ⟨rfl, hne⟩
  · exact ⟨rfl, fun _ _ => rfl⟩
  · exact ⟨rfl, by simp [hs]⟩
  · exact ⟨by simp [HaltTarget.names], fun x hx => by simpa [HaltTarget.names] using hne x hx⟩

/-- R64: the targets of a HALT that names the active context alone. -/
theorem haltTargets_of_haltsOnly {s : State} {target : HaltTarget} {c : Context} (h : s.haltsOnly target c)
    (ha : s.engine.active = some c) : s.haltTargets target = [c] := by
  obtain ⟨hactive, hstack⟩ := names_of_haltsOnly h
  have hnone : s.engine.stack.filter (target.names false) = [] :=
    List.filter_eq_nil_iff.2 fun x hx => by simp [hstack x hx]
  simp [State.haltTargets, ha, hactive, hnone]

/-- R64: ALL names every context. -/
theorem haltTargets_all (s : State) : s.haltTargets .all = s.engine.active.toList ++ s.engine.stack := by
  have hall (b : Bool) : HaltTarget.all.names b = fun _ => true := rfl
  simp only [State.haltTargets, hall, List.filter_true]

/-! ## The request (R64, R182, R184) -/

section
variable {p : Port} {body : List Byte} {target : HaltTarget} {k : HaltCondition} {s : State}
  (h : s.takes p 0x0A body.length = true) (hparse : parseHalt body = some (target, k))
include h hparse

/-- R64: a HALT whose targets the port may halt takes effect, and DONE is answered. -/
theorem exec_halt (htargets : s.haltTargets target ≠ []) (hrank : ∀ x ∈ s.haltTargets target, x.rank ≤ s.privilege p) :
    exec (.halt p body) s = .next { (s.taken p).halt target k with links := (s.answered p 0x0A .done []).links } := by
  have hsame : (s.taken p).haltTargets target = s.haltTargets target := rfl
  have hempty : (s.haltTargets target).isEmpty = false := by simpa using htargets
  have hlinks : ((s.taken p).halt target k).links = (s.taken p).links := (halt_kept target k _).links
  show Host.Outcome.next (s.takeRequest ..) = _
  rw [takeRequest_takes h]
  unfold State.serveHalt
  simp only [hparse, hsame, hempty, taken_privilege, Bool.false_eq_true, if_false]
  have hallowed : ∀ x ∈ s.haltTargets target, ¬ s.privilege p < x.rank := fun x hx => Nat.not_lt.2 (hrank x hx)
  rw [if_neg fun hany => ?_, respond_of_links (resetPending_of_takes h) hlinks]
  obtain ⟨x, hx, hbelow⟩ := List.any_eq_true.1 hany
  exact hallowed x hx (of_decide_eq_true hbelow)

/-- R64: a HALT that names nothing. -/
theorem exec_halt_noSuch (htargets : s.haltTargets target = []) :
    exec (.halt p body) s = .next (s.answered p 0x0A .noSuch []) := by
  have hsame : (s.taken p).haltTargets target = [] := htargets
  refine congrArg Host.Outcome.next (takeRequest_answered h ?_)
  unfold State.serveHalt
  simp only [hparse, hsame, List.isEmpty_nil, if_true]

/-- R164: a HALT with a target above the port's privilege level. -/
theorem exec_halt_privilege {x : Context} (hx : x ∈ s.haltTargets target) (hrank : s.privilege p < x.rank) :
    exec (.halt p body) s = .next (s.answered p 0x0A .privilege []) := by
  have hsame : (s.taken p).haltTargets target = s.haltTargets target := rfl
  have hempty : (s.haltTargets target).isEmpty = false := by
    rw [List.isEmpty_eq_false_iff]
    exact List.ne_nil_of_mem hx
  refine congrArg Host.Outcome.next (takeRequest_answered h ?_)
  unfold State.serveHalt
  simp only [hparse, hsame, hempty, taken_privilege, Bool.false_eq_true, if_false]
  exact if_pos (List.any_eq_true.2 ⟨x, hx, decide_eq_true hrank⟩)

/-- R64: a HALT on the active context alone. -/
theorem exec_halt_active {c : Context} (honly : s.haltsOnly target c) (ha : s.engine.active = some c)
    (hrank : c.rank ≤ s.privilege p) :
    exec (.halt p body) s = .next { (s.taken p).halt target k with links := (s.answered p 0x0A .done []).links } := by
  have htargets := haltTargets_of_haltsOnly honly ha
  refine exec_halt h hparse (by rw [htargets]; simp) fun x hx => ?_
  rw [htargets, List.mem_singleton] at hx
  rwa [hx]

end

/-! ## Halts that act later (R66, R67) -/

/-- The halt that a condition stores. -/
def HaltCondition.pending : HaltCondition → PendingHalt
  | .now => .atPhrase
  | .atPhrase => .atPhrase
  | .atEnd => .atEnd

theorem halt_of_later {k : HaltCondition} (hk : k ≠ .now) (target : HaltTarget) (s : State) :
    s.halt target k = s.haltLater target k.pending := by
  cases k with
  | now => exact absurd rfl hk
  | atPhrase => rfl
  | atEnd => rfl

/-- R66, R67: context `x` with a later halt stored: the condition that acts sooner is kept. -/
def Context.halting (x : Context) (k : HaltCondition) : Context := { x with
  pendingHalt := if x.pendingHalt = some .atPhrase ∨ k = .atPhrase then some .atPhrase else some .atEnd
  lastRepeat := if x.pendingHalt = none ∧ k = .atEnd then x.repeatNo else x.lastRepeat }

theorem storeHalt_eq {k : HaltCondition} (hk : k ≠ .now) (x : Context) : x.storeHalt k.pending = x.halting k := by
  have hpending : some (soonerHalt x.pendingHalt k.pending) =
      if x.pendingHalt = some .atPhrase ∨ k = .atPhrase then some PendingHalt.atPhrase else some .atEnd := by
    cases k with
    | now => exact absurd rfl hk
    | atPhrase => cases x.pendingHalt with
      | none => rfl
      | some h => cases h <;> rfl
    | atEnd => cases x.pendingHalt with
      | none => rfl
      | some h => cases h <;> rfl
  have hlast : (x.pendingHalt.isNone && k.pending == .atEnd) = true ↔ x.pendingHalt = none ∧ k = .atEnd := by
    cases k with
    | now => exact absurd rfl hk
    | atPhrase => simp [HaltCondition.pending]
    | atEnd => simp [HaltCondition.pending]
  unfold Context.storeHalt Context.halting
  simp only [hpending, hlast]

/-- R67: a halt that acts no sooner is the one already stored. -/
theorem halting_of_stored {k : HaltCondition} {x : Context}
    (h : x.pendingHalt = some .atPhrase ∨ (x.pendingHalt = some .atEnd ∧ k = .atEnd)) : x.halting k = x := by
  unfold Context.halting
  rcases h with h | ⟨h, rfl⟩
  · rw [if_pos (.inl h), if_neg (by simp [h]), ← h]
  · rw [if_neg (by simp [h]), if_neg (by simp [h]), ← h]

/-- R67: whether the halt stored is the one there is. -/
theorem stored_iff {k : HaltCondition} (hk : k ≠ .now) (x : Context) :
    x.pendingHalt = some (soonerHalt x.pendingHalt k.pending) ↔
      x.pendingHalt = some .atPhrase ∨ (x.pendingHalt = some .atEnd ∧ k = .atEnd) := by
  cases k with
  | now => exact absurd rfl hk
  | atPhrase => cases x.pendingHalt with
    | none => simp
    | some h => cases h <;> simp [soonerHalt, HaltCondition.pending]
  | atEnd => cases x.pendingHalt with
    | none => simp
    | some h => cases h <;> simp [soonerHalt, HaltCondition.pending]

section
variable {s : State} {c : Context} {k : HaltCondition} (hk : k ≠ .now) (ha : s.engine.active = some c)
include hk ha

/-- R67: a halt that acts no sooner changes nothing. -/
theorem haltActiveLater_of_stored
    (h : c.pendingHalt = some .atPhrase ∨ (c.pendingHalt = some .atEnd ∧ k = .atEnd)) :
    s.haltActiveLater k.pending = s := by
  unfold State.haltActiveLater
  simp only [ha]
  exact if_pos ((stored_iff hk c).2 h)

/-- R66, R67: a halt that acts sooner is stored, and reaches the block that plans. -/
theorem haltActiveLater_of_new
    (h : ¬ (c.pendingHalt = some .atPhrase ∨ (c.pendingHalt = some .atEnd ∧ k = .atEnd))) :
    s.haltActiveLater k.pending = ({ s with engine := { s.engine with active := some (c.halting k) } } :
      State).applyHalt (c.halting k) k.pending := by
  have hsooner : soonerHalt c.pendingHalt k.pending = k.pending := by
    cases hp : c.pendingHalt with
    | none => rfl
    | some x =>
      cases x with
      | atPhrase => exact absurd (.inl hp) h
      | atEnd => rfl
  unfold State.haltActiveLater
  simp only [ha]
  rw [if_neg (mt (stored_iff hk c).1 h), storeHalt_eq hk, hsooner]
  simp only [State.modActive, ha, Option.map_some]

/-- R66: a later halt on the active context alone is stored with it, and the performance goes on. -/
theorem halt_later_active {target : HaltTarget} (honly : s.haltsOnly target c) :
    s.halt target k = (s.haltActiveLater k.pending).settle := by
  obtain ⟨hactive, hstack⟩ := names_of_haltsOnly honly
  have hsame : s.haltStackedLater (target.names false) k.pending = s := by
    have hmap : (s.engine.stack.map fun x => if target.names false x then x.storeHalt k.pending else x) =
        s.engine.stack := by
      refine (List.map_congr_left fun x hx => ?_).trans (List.map_id _)
      rw [hstack x hx]
      rfl
    unfold State.haltStackedLater
    rw [hmap]
  rw [halt_of_later hk]
  unfold State.haltLater
  simp only [hsame, ha, Option.any_some, hactive, if_true]

/-- R67, R147: under HUSH a halt on a SCORE or TOLL is stored with it. -/
theorem haltActiveLater_hushed (hm : c.mode = .hushed) (hkind : c.melodyKind ≠ none) :
    s.haltActiveLater k.pending = { s with engine := { s.engine with active := some (c.halting k) } } := by
  by_cases h : c.pendingHalt = some .atPhrase ∨ (c.pendingHalt = some .atEnd ∧ k = .atEnd)
  · rw [haltActiveLater_of_stored hk ha h, halting_of_stored h, ← ha]
  · rw [haltActiveLater_of_new hk ha h]
    have hmode : ((c.halting k).mode == .hushed) = true := by
      simp [Context.halting, hm]
    unfold State.applyHalt
    split
    · rename_i hnone
      exact absurd hnone hkind
    · rw [hmode]
      rfl

end

end Sys2Proof.Machine
end


section
/-! PROOFS. HALT that acts now, on hushed and on stacked contexts (R61, R62, R64, R65, R67): O36. -/

namespace Sys2Proof.Machine

/-! ## HALT NOW on the active context (R65) -/

section
variable {s : State} {c : Context}

/-- R65: a HALT NOW that names no stacked context halts none. -/
theorem haltStackedNow_of_none {named : Context → Bool} (h : ∀ x ∈ s.engine.stack, named x = false) :
    s.haltStackedNow named = s := by
  have hnone : s.engine.stack.filter named = [] := List.filter_eq_nil_iff.2 fun x hx => by simp [h x hx]
  unfold State.haltStackedNow
  rw [hnone]
  rfl

/-- R65: HALT NOW on the active context alone ends it, and the resume choice follows. -/
theorem haltNow_active {target : HaltTarget} (ha : s.engine.active = some c) (hnames : target.names true c = true)
    (hstack : ∀ x ∈ s.engine.stack, target.names false x = false) :
    s.haltNow target = (s.endActive .halted none false).resumeChoice := by
  have hsame : (s.endActive .halted none false).haltStackedNow (target.names false) =
      s.endActive .halted none false :=
    haltStackedNow_of_none fun x hx => hstack x (by rwa [endActive_engine] at hx)
  unfold State.haltNow
  simp only [ha, Option.any_some, hnames, if_true, hsame]

/-- R60: what an end leaves before the resume choice. -/
theorem endActive_leaves {b : Booking} (ha : s.engine.active = some c) (hb : s.booking? c.booking = some b)
    (k : OutcomeKind) (x : Option OutcomeCause) : let v := s.endActive k x false
    v.engine = { s.engine with active := none } ∧ v.drive = s.drive ∧ v.library = s.library ∧ v.time = s.time ∧
      (∀ n, n ≠ c.booking → v.booking? n = s.booking? n) ∧ v.disposed c.booking b ⟨k, x, b.current, c.counts⟩ := by
  obtain ⟨pl, st, heq, -⟩ := endActive_eq ha k x false
  obtain ⟨book, live, notices, hframe⟩ := dispose_frame c.booking k x c.counts false { s with
    planner := pl, player := .initial, store := st, engine := { s.engine with active := none } }
  refine ⟨endActive_engine k x false s, ?_, ?_, ?_, fun n hn => ?_, ?_⟩
  · rw [heq, hframe]
  · rw [heq, hframe]
  · rw [heq, hframe]
  · rw [heq, dispose_booking?_ne hn]
    rfl
  · rw [heq]
    refine dispose_disposed ?_ k x c.counts
    exact hb

end

/-! ## The resume choice after the end (R61, R62) -/

section
variable {s : State} {top : Context} {rest : List Context} {bt : Booking}
  (hs : s.engine.stack = top :: rest) (hbt : s.booking? top.booking = some bt)
  (hcan : (top.fromResume s.now).canPlan)
include hs hbt hcan

/-- R62: the stack top as it resumes: its booking is SOUNDING, and its Score Player plans on. -/
theorem resumeTop_resumed : ∃ py st, s.resumeTop = { s with
      engine := { s.engine with active := some (top.fromResume s.now), stack := rest }
      book := s.book.setSlot top.booking (.occupied { bt with state := .sounding }), player := py, store := st } ∧
    py.done = none ∧ (top.melodyKind = some .score → py.cur = .reading top.resume.pos.segment) := by
  have hbt' : ({ s with engine := { s.engine with active := some (top.fromResume s.now), stack := rest } } :
      State).booking? top.booking = some bt := hbt
  have htop := resumeTop_eq hs
  rw [setBookingState_eq hbt'] at htop
  obtain ⟨py, st, heq, hdone⟩ := takeUp_eq (s := ({ s with engine := { s.engine with
    active := some (top.fromResume s.now), stack := rest } } : State).setBooking top.booking
      { bt with state := .sounding }) rfl hcan
  refine ⟨py, st, htop.trans heq, hdone, fun hk => ?_⟩
  obtain ⟨-, hm, hf⟩ | ⟨htoll, -⟩ := hcan
  · obtain ⟨slot, hslot⟩ := Option.ne_none_iff_exists'.1 hm
    have hscore := takeUp_of_score (s := ({ s with engine := { s.engine with
      active := some (top.fromResume s.now), stack := rest } } : State).setBooking top.booking
        { bt with state := .sounding }) rfl hk hslot
    obtain ⟨hcur, -⟩ := startReads_player (slot := slot) (s := { (({ s with engine := { s.engine with
      active := some (top.fromResume s.now), stack := rest } } : State).setBooking top.booking
        { bt with state := .sounding }) with player := _ }) hf
    rw [← hscore, heq] at hcur
    exact hcur
  · cases hk.symm.trans htoll

/-- R61, R62: the stack top resumes where each booking that waits is of class WAIT or does not outrank it. -/
theorem resumeChoice_resumed (hh : s.drive.hush = false) (ha : s.engine.active = none)
    (hwait : ∀ n ∈ s.engine.waiting, n ≠ top.booking ∧ ∃ x, s.booking? n = some x ∧
      (x.record.cls = .wait ∨ x.record.rank ≤ top.rank)) : s.resumeChoice = s.resumeTop := by
  obtain ⟨py, st, heq, hdone, -⟩ := resumeTop_resumed hs hbt hcan
  have hend : s.resumeTop.endDue = none := by
    rw [heq]
    exact endDue_of_planning rfl hcan.melodyKind hdone
  refine resumeChoice_resumes (c := top.fromResume s.now) hh ha hs (fun n hn => ?_) hend (by rw [heq]) fun n hn => ?_
  · obtain ⟨-, x, hx, hnot⟩ := hwait n hn
    refine ⟨x, hx, ?_⟩
    unfold State.headFirst
    rw [hs]
    rcases hnot with h | h
    · simp [h]
    · simp [Nat.not_lt.2 h]
  · have hn : n ∈ s.engine.waiting := by rwa [heq] at hn
    obtain ⟨hne, x, hx, hnot⟩ := hwait n hn
    refine ⟨x, ?_, judge_waits hnot.symm⟩
    rw [heq]
    exact (booking?_setBooking_ne (booking?_range hbt).1 hne _).trans hx

end

end Sys2Proof.Machine
end


section
/-! PROOFS. The clauses on HALT NOW, on stacked contexts, under HUSH and on no context (R61–R67, R164): O36. -/

namespace Sys2Proof.Machine

section
variable {p : Port} {body : List Byte} {target : HaltTarget} {s : State} {c : Context} {b : Booking}

/-! ## HALT NOW on the active context -/

/-- The disposal of a booking is told apart from the links. -/
theorem State.disposed.withLinks {t : State} {n : Nat} {o : OutcomeRecord} (h : t.disposed n b o) (l : Links) :
    ({ t with links := l } : State).disposed n b o := h.congr rfl rfl id

/-- R64, R65: HALT NOW on the active context with nothing suspended and nothing waiting. -/
theorem halt_now_alone (h : s.takes p 0x0A body.length = true) (hparse : parseHalt body = some (target, .now))
    (htarget : target = .active ∨ target = .all ∨ target = .booking c.booking) (ha : s.engine.active = some c)
    (hs : s.engine.stack = []) (hw : s.engine.waiting = []) (hrank : c.rank ≤ s.privilege p)
    (hb : s.booking? c.booking = some b) : ∃ t, exec (.halt p body) s = .next t ∧ t.engine = ⟨none, [], []⟩ ∧
      t.links = (s.answered p 0x0A .done []).links ∧ t.notices.flags.outcome = true ∧
      (∀ e, e ∈ t.planner.queue ↔ e ∈ s.planner.queue ∧ e.owner ≠ .booking c.booking) ∧
      (b.record.kind.immediate = false → ∃ b', t.booking? c.booking = some b' ∧ b'.unread = true ∧
        b'.busy = false ∧ b'.lastOutcome = some ⟨.halted, none, b.current, c.counts⟩) ∧
      (b.record.kind.immediate = true → t.booking? c.booking = none ∧
        t.book.orphans.getLast? =
          some ⟨c.booking, b.record.kind, ⟨.halted, none, b.current, c.counts⟩⟩) := by
  have honly : s.haltsOnly target c := by
    rcases htarget with rfl | rfl | rfl
    · exact .inl rfl
    · exact .inr (.inl ⟨rfl, hs⟩)
    · exact .inr (.inr ⟨rfl, by simp [hs]⟩)
  obtain ⟨hnames, hnone⟩ := names_of_haltsOnly honly
  have hexec := exec_halt_active h hparse honly ha hrank
  have hnow : (s.taken p).halt target .now = ((s.taken p).endActive .halted none false).resumeChoice :=
    haltNow_active (s := s.taken p) ha hnames hnone
  obtain ⟨hengine, -, ⟨houtcome, hwritten, hremoved⟩, hqueue⟩ := end_alone (s := s.taken p) ha hs hw hb .halted none
  rw [hnow] at hexec
  exact ⟨_, hexec, hengine, rfl, houtcome, hqueue, hwritten, hremoved⟩

section
variable (h : s.takes p 0x0A body.length = true) (hparse : parseHalt body = some (target, .now))
  (honly : s.haltsOnly target c) (ha : s.engine.active = some c) (hrank : c.rank ≤ s.privilege p)
  (hb : s.booking? c.booking = some b)
include h hparse honly ha hrank hb

/-- R65: what HALT NOW on the active context does, and the state in which the resume choice is made. -/
theorem halt_now_leaves : ∃ v : State, exec (.halt p body) s = .next { v.resumeChoice with
      links := (s.answered p 0x0A .done []).links } ∧
    v.engine = { s.engine with active := none } ∧ v.drive = s.drive ∧ v.library = s.library ∧ v.time = s.time ∧
      (∀ n, n ≠ c.booking → v.booking? n = s.booking? n) ∧
      v.disposed c.booking b ⟨.halted, none, b.current, c.counts⟩ := by
  obtain ⟨hnames, hnone⟩ := names_of_haltsOnly honly
  have hexec := exec_halt_active h hparse honly ha hrank
  have hnow : (s.taken p).halt target .now = ((s.taken p).endActive .halted none false).resumeChoice :=
    haltNow_active (s := s.taken p) ha hnames hnone
  rw [hnow] at hexec
  exact ⟨_, hexec, endActive_leaves (s := s.taken p) ha hb .halted none⟩

/-- R65, R68: under HUSH the end is all. -/
theorem halt_now_hushed (hh : s.drive.hush = true) : ∃ t, exec (.halt p body) s = .next t ∧
    t.engine = { s.engine with active := none } ∧ t.disposed c.booking b ⟨.halted, none, b.current, c.counts⟩ := by
  obtain ⟨v, hexec, hengine, hdrive, -, -, -, hdisposed⟩ := halt_now_leaves h hparse honly ha hrank hb
  rw [resumeChoice_of_hush (by rw [hdrive]; exact hh)] at hexec
  exact ⟨_, hexec, hengine, hdisposed.withLinks _⟩

/-- R61, R62, R65: with HUSH released the stack top resumes, or the one booking that waits starts. -/
theorem halt_now_released (hh : s.drive.hush = false) : ∃ t, exec (.halt p body) s = .next t ∧
      t.links = (s.answered p 0x0A .done []).links ∧
      (∀ top rest bt, s.engine.stack = top :: rest → top.booking ≠ c.booking →
        s.booking? top.booking = some bt →
        ((top.melodyKind = some .score ∧ top.resume.pos.segment ∉ top.failed) ∨
          (top.melodyKind = some .toll ∧ top.pendingHalt ≠ some .atPhrase)) →
        top.melody ≠ none →
        (s.engine.waiting = [] ∨ ∃ n x, s.engine.waiting = [n] ∧ n ≠ c.booking ∧ n ≠ top.booking ∧
          s.booking? n = some x ∧ (x.record.cls = .wait ∨ x.record.rank ≤ top.rank)) →
        t.engine = { s.engine with
          active := some { top with
            mode := .playing, pos := top.resume.pos, tempoNow := top.resume.tempo
            originTime := s.time.clock + 500000, originTick := top.resume.tick, atResume := true }
          stack := rest } ∧
        t.booking? top.booking = some { bt with state := .sounding } ∧
        t.disposed c.booking b ⟨.halted, none, b.current, c.counts⟩ ∧
        (top.melodyKind = some .score → t.player.cur = .reading top.resume.pos.segment)) ∧
      (∀ n x m h, s.engine.waiting = [n] → n ≠ c.booking → s.booking? n = some x →
        (∀ top, s.engine.stack.head? = some top → x.record.cls ≠ .wait ∧ top.rank < x.record.rank) →
        s.drive.ready = true → x.record.melody = some m → (s.melody m).state = .complete →
        (s.melody m).damaged = false → (s.melody m).known? = some h →
        t.engine.active.map Context.booking = some n ∧ t.engine.stack = s.engine.stack ∧
        t.engine.waiting = [] ∧ t.booking? n = some { x with state := .sounding, waiting := none }) := by
  obtain ⟨v, hexec, hengine, hdrive, hlibrary, htime, hothers, hdisposed⟩ :=
    halt_now_leaves h hparse honly ha hrank hb
  have hvh : v.drive.hush = false := by rw [hdrive]; exact hh
  have hva : v.engine.active = none := by rw [hengine]
  have hvw : v.engine.waiting = s.engine.waiting := by rw [hengine]
  have hvs : v.engine.stack = s.engine.stack := by rw [hengine]
  refine ⟨_, hexec, rfl, fun top rest bt hs hne hbt hkind hmelody hwait => ?_,
    fun n x m hd hw hne hx hfirst hready hm hstate hdamaged hknown => ?_⟩
  · have hvbt : v.booking? top.booking = some bt := (hothers _ hne).trans hbt
    have hvs : v.engine.stack = top :: rest := hvs.trans hs
    have hcan : (top.fromResume v.now).canPlan := by
      rcases hkind with ⟨hk, hf⟩ | ⟨hk, hp⟩
      · exact .inl ⟨hk, hmelody, hf⟩
      · exact .inr ⟨hk, hp⟩
    have hwaits : ∀ n ∈ v.engine.waiting, n ≠ top.booking ∧ ∃ x, v.booking? n = some x ∧
        (x.record.cls = .wait ∨ x.record.rank ≤ top.rank) := by
      intro n hn
      rw [hvw] at hn
      rcases hwait with hw | ⟨n', x, hw, hnc, hnt, hx, hnot⟩
      · rw [hw] at hn
        cases hn
      · rw [hw, List.mem_singleton] at hn
        subst hn
        exact ⟨hnt, x, (hothers _ hnc).trans hx, hnot⟩
    obtain ⟨py, st, heq, -, hcur⟩ := resumeTop_resumed hvs hvbt hcan
    rw [resumeChoice_resumed hvs hvbt hcan hvh hva hwaits, heq]
    obtain ⟨h1, h2⟩ := booking?_range hvbt
    refine ⟨?_, booking?_setBooking_self h1 h2 _, hdisposed.congr ?_ rfl id, hcur⟩
    · rw [hengine]
      simp only [Context.fromResume, State.now, htime]
      rfl
    · exact booking?_setBooking_ne h1 (Ne.symm hne) _
  · have hvx : v.booking? n = some x := (hothers _ hne).trans hx
    have hvp : v.playable x.record :=
      State.playable.congr (s := s) ⟨hready, m, hd, hm, hstate, hdamaged, hknown⟩ (by rw [hdrive]) hlibrary
    have hhead : v.headFirst x.record = true := by
      unfold State.headFirst
      rw [hvs]
      cases hstack : s.engine.stack with
      | nil => rfl
      | cons top rest =>
        obtain ⟨hcls, htop⟩ := hfirst top (by rw [hstack]; rfl)
        simp [hcls, htop]
    rw [resumeChoice_starts hvh hva (hvw.trans hw) hvx hvp hhead]
    obtain ⟨pl, st, heq, -⟩ := start_eq hvx hvp
    obtain ⟨h1, h2⟩ := booking?_range hvx
    rw [heq]
    exact ⟨rfl, hvs, by simp [hvw, hw], booking?_setBooking_self h1 h2 x.begun⟩

end

/-! ## HALT ALL that acts now -/

/-- R64, R65: HALT NOW of ALL ends every context. -/
theorem halt_now_all (h : s.takes p 0x0A body.length = true) (hparse : parseHalt body = some (.all, .now))
    (hw : s.engine.waiting = []) (hsome : s.engine.active.toList ++ s.engine.stack ≠ [])
    (hrank : ∀ x ∈ s.engine.active.toList ++ s.engine.stack, x.rank ≤ s.privilege p)
    (hnodup : ((s.engine.active.toList ++ s.engine.stack).map Context.booking).Nodup) :
    ∃ t, exec (.halt p body) s = .next t ∧ t.engine = ⟨none, [], []⟩ ∧
      t.links = (s.answered p 0x0A .done []).links ∧
      ∀ x ∈ s.engine.active.toList ++ s.engine.stack, ∀ b, s.booking? x.booking = some b →
        (b.record.kind.immediate = false → ∃ b', t.booking? x.booking = some b' ∧ b'.unread = true ∧
          b'.busy = false ∧ b'.lastOutcome = some ⟨.halted, none, b.current, x.counts⟩) ∧
        (b.record.kind.immediate = true → t.booking? x.booking = none) := by
  obtain ⟨pl, py, st, hend⟩ := endAll_eq .halted (s.taken p)
  have hstacked (u : State) : u.haltStackedNow (HaltTarget.all.names false) =
      u.engine.stack.foldl (fun s c => s.endStacked c .halted none false) u := by
    have hall : HaltTarget.all.names false = fun _ => true := rfl
    unfold State.haltStackedNow
    rw [hall, List.filter_true]
  have hhalt : (s.taken p).halt .all .now = ((s.taken p).disposeContexts .halted
      (s.engine.active.toList ++ s.engine.stack)).withPlay ⟨none, [], []⟩ pl py st := by
    have hfinal : ((s.taken p).disposeContexts .halted ((s.taken p).engine.active.toList ++
        (s.taken p).engine.stack)).withPlay { (s.taken p).engine with active := none, stack := [] } pl py st =
          ((s.taken p).disposeContexts .halted (s.engine.active.toList ++ s.engine.stack)).withPlay
            ⟨none, [], []⟩ pl py st := by
      have hengine : ({ s.engine with active := none, stack := [] } : Engine) = ⟨none, [], []⟩ :=
        congrArg (Engine.mk none []) hw
      exact congrArg (((s.taken p).disposeContexts .halted
        (s.engine.active.toList ++ s.engine.stack)).withPlay · pl py st) hengine
    rw [hfinal] at hend
    show (s.taken p).haltNow .all = _
    unfold State.haltNow
    rw [hstacked, hstacked, hend]
    split
    · exact resumeChoice_of_empty _ rfl rfl
    · rename_i hnone
      have ha : (s.taken p).engine.active = none := by
        cases hact : (s.taken p).engine.active with
        | none => rfl
        | some x => exact absurd (by rw [hact]; rfl) hnone
      have hsame : (s.taken p).endActive .halted none false = s.taken p := by
        unfold State.endActive
        rw [ha]
      rwa [hsame] at hend
  have hexec := exec_halt h hparse (by rwa [haltTargets_all]) (by rwa [haltTargets_all])
  rw [hhalt] at hexec
  refine ⟨_, hexec, rfl, rfl, fun x hx b hb => ?_⟩
  obtain ⟨-, hwritten, hremoved, -⟩ := disposeContexts_ended (s := s.taken p) (k := .halted) hnodup hx hb
  exact ⟨hwritten, hremoved⟩

/-! ## HALT by number on a stacked context -/

section
variable {k : HaltCondition} {above below : List Context} {x : Context}
  (h : s.takes p 0x0A body.length = true) (hparse : parseHalt body = some (.booking x.booking, k))
  (hs : s.engine.stack = above ++ x :: below) (hne : ∀ y ∈ above ++ below, y.booking ≠ x.booking)
  (ha : ∀ c, s.engine.active = some c → c.booking ≠ x.booking)

omit h hparse ha in
include hs hne in
/-- A number names one context of a stack without duplicates. -/
theorem filter_stack_named : s.engine.stack.filter (fun y => y.booking == x.booking) = [x] ∧
    s.engine.stack.filter (fun y => y.booking != x.booking) = above ++ below := by
  have habove : ∀ y ∈ above, y.booking ≠ x.booking := fun y hy => hne y (List.mem_append_left _ hy)
  have hbelow : ∀ y ∈ below, y.booking ≠ x.booking := fun y hy => hne y (List.mem_append_right _ hy)
  have hnone (l : List Context) (hl : ∀ y ∈ l, y.booking ≠ x.booking) :
      l.filter (fun y => y.booking == x.booking) = [] ∧ l.filter (fun y => y.booking != x.booking) = l := by
    refine ⟨List.filter_eq_nil_iff.2 fun y hy => by simpa using hl y hy,
      List.filter_eq_self.2 fun y hy => by simpa using hl y hy⟩
  obtain ⟨ha1, ha2⟩ := hnone above habove
  obtain ⟨hb1, hb2⟩ := hnone below hbelow
  rw [hs]
  constructor
  · simp [List.filter_append, ha1, hb1]
  · simp [List.filter_append, ha2, hb2]

include ha in
/-- A number that names no active context. -/
theorem any_named_eq_false : s.engine.active.any ((HaltTarget.booking x.booking).names true) = false := by
  cases hact : s.engine.active with
  | none => rfl
  | some c => simpa [HaltTarget.names] using ha c hact

include h hparse hs hne ha

theorem exec_halt_stacked (hrank : x.rank ≤ s.privilege p) : exec (.halt p body) s =
    .next { (s.taken p).halt (.booking x.booking) k with links := (s.answered p 0x0A .done []).links } := by
  have htargets : s.haltTargets (.booking x.booking) = [x] := by
    have hactive : s.engine.active.toList.filter ((HaltTarget.booking x.booking).names true) = [] := by
      refine List.filter_eq_nil_iff.2 fun c hc => ?_
      simpa [HaltTarget.names] using ha c (by simpa using hc)
    unfold State.haltTargets
    rw [hactive]
    exact (filter_stack_named hs hne).1
  refine exec_halt h hparse (by simp [htargets]) fun y hy => ?_
  rw [htargets, List.mem_singleton] at hy
  rwa [hy]

/-- R65: HALT NOW by number takes a suspended context out of the stack. -/
theorem halt_now_stacked (hrank : x.rank ≤ s.privilege p) (hb : s.booking? x.booking = some b) (hk : k = .now) :
    ∃ t, exec (.halt p body) s = .next t ∧ t.engine = { s.engine with stack := above ++ below } ∧
      t.planner = s.planner ∧ t.disposed x.booking b ⟨.halted, none, b.current, x.counts⟩ := by
  subst hk
  obtain ⟨hone, hrest⟩ := filter_stack_named hs hne
  have hany : (s.taken p).engine.active.any ((HaltTarget.booking x.booking).names true) = false :=
    any_named_eq_false ha
  have hfilter : (s.taken p).engine.stack.filter ((HaltTarget.booking x.booking).names false) = [x] := hone
  have hhalt : (s.taken p).halt (.booking x.booking) .now = (s.taken p).endStacked x .halted none false := by
    show (s.taken p).haltNow _ = _
    unfold State.haltNow State.haltStackedNow
    rw [hany, hfilter]
    rfl
  have hexec := exec_halt_stacked h hparse hs hne ha hrank
  have hstack : (s.taken p).engine.stack.filter (fun y => y.booking != x.booking) = above ++ below := hrest
  rw [hhalt, endStacked_eq, hstack] at hexec
  have hdisposed := dispose_disposed (s := s.taken p) hb .halted none x.counts
  exact ⟨_, hexec, rfl, rfl, hdisposed.congr rfl rfl id⟩

/-- R66, R67: a later HALT by number is stored with a suspended context. -/
theorem halt_later_stacked (hrank : x.rank ≤ s.privilege p) (hk : k ≠ .now) : exec (.halt p body) s =
    .next { s.answered p 0x0A .done [] with
      engine := { s.engine with stack := above ++ x.halting k :: below } } := by
  have hmap (l : List Context) (hl : ∀ y ∈ l, y.booking ≠ x.booking) :
      (l.map fun y => if (HaltTarget.booking x.booking).names false y then y.storeHalt k.pending else y) = l := by
    refine (List.map_congr_left fun y hy => ?_).trans (List.map_id _)
    rw [show (HaltTarget.booking x.booking).names false y = false by simpa [HaltTarget.names] using hl y hy]
    rfl
  have hself : (HaltTarget.booking x.booking).names false x = true := by simp [HaltTarget.names]
  have hany : (s.taken p).engine.active.any ((HaltTarget.booking x.booking).names true) = false :=
    any_named_eq_false ha
  have hstack : (s.taken p).engine.stack = above ++ x :: below := hs
  have hhalt : (s.taken p).halt (.booking x.booking) k = { s.taken p with
      engine := { s.engine with stack := above ++ x.halting k :: below } } := by
    rw [halt_of_later hk]
    unfold State.haltLater State.haltStackedLater
    rw [hstack, List.map_append, List.map_cons, hmap above fun y hy => hne y (List.mem_append_left _ hy),
      hmap below fun y hy => hne y (List.mem_append_right _ hy), hself, if_pos rfl, storeHalt_eq hk]
    dsimp only
    rw [hany]
    rfl
  have hexec := exec_halt_stacked h hparse hs hne ha hrank
  rw [hhalt] at hexec
  exact hexec

end

end

end Sys2Proof.Machine
end


section
/-! PROOFS. How a later HALT reaches the Score Player and the Live Feed (R66, R67, R90, R96, R143, R147): O36. -/

namespace Sys2Proof.Machine

/-! ## The halt in the context and in the feed -/

/-- R66: the context once AT_PHRASE is stored. -/
def Context.haltedAtPhrase (c : Context) : Context := { c with pendingHalt := some .atPhrase }

/-- R66, R96: the context once AT_END is stored, its last repetition that of the moment. -/
def Context.haltedAtEnd (c : Context) : Context :=
  { c with pendingHalt := some .atEnd, lastRepeat := c.repeatNo }

theorem halting_atPhrase (c : Context) : c.halting .atPhrase = c.haltedAtPhrase := by
  simp [Context.halting, Context.haltedAtPhrase]

theorem halting_atEnd {c : Context} (h : c.pendingHalt = none) : c.halting .atEnd = c.haltedAtEnd := by
  simp [Context.halting, Context.haltedAtEnd, h]

/-- R67: a later halt is new where it acts sooner than the one stored. -/
theorem not_stored_atPhrase {c : Context} (h : c.pendingHalt ≠ some .atPhrase) :
    ¬ (c.pendingHalt = some .atPhrase ∨ (c.pendingHalt = some .atEnd ∧ HaltCondition.atPhrase = .atEnd)) := by
  simpa using h

theorem not_stored_atEnd {c : Context} (h : c.pendingHalt = none) :
    ¬ (c.pendingHalt = some .atPhrase ∨ (c.pendingHalt = some .atEnd ∧ HaltCondition.atEnd = .atEnd)) := by
  simp [h]

/-- R147, log 22: AT_END at a feed, by its mode. -/
theorem liveHalt_atEnd (l : LiveFeed) : l.halt .atEnd =
    if l.mode = .opened then { l with mode := .closing, endsHalted := true, idle := ⟨0, none⟩ }
    else if l.mode = .closing then { l with endsHalted := true } else l := by
  cases hm : l.mode with
  | opened | closing | stopped => simp [LiveFeed.halt, hm, IdleTime.cleared]

theorem liveHalt_atEnd_queue (l : LiveFeed) : (l.halt .atEnd).queue = l.queue := by
  rw [liveHalt_atEnd]
  split
  · rfl
  · split <;> rfl

/-- R143, log 22: a feed that AT_END finds empty ends HALTED. -/
theorem liveHalt_atEnd_ending {l : LiveFeed} (hq : l.queue = []) : (l.halt .atEnd).ending = some .halted := by
  cases hm : l.mode with
  | opened | closing | stopped => simp [LiveFeed.halt, LiveFeed.ending, hm, hq]

/-! ## The performance after the halt -/

section
variable {s u : State} {c : Context}

/-- R89: once planning is done nothing more is reached. -/
theorem reachOne_of_done {d : PlanningDone} (hd : s.player.done = some d) : s.reachOne = none := by
  cases ha : s.engine.active with
  | none => simp [State.reachOne, ha]
  | some c => simp [State.reachOne, ha, hd]

/-- R83, R89: with planning done and strikes left, the performance goes on. -/
theorem settle_of_done (ha : s.engine.active = some c) (hd : s.player.done ≠ none)
    (hown : ¬ s.ownsNothing c.booking) : s.settle = s := by
  obtain ⟨d, hd⟩ := Option.ne_none_iff_exists'.1 hd
  refine settle_of_none s (reachOne_of_done hd) ?_
  simp [State.endDue, ha, hasEntries_of_owns hown]

/-- R143: a live performance with nothing queued and strikes left goes on. -/
theorem settle_of_live_strikes {l : LiveFeed} (ha : s.engine.active = some c) (hk : c.melodyKind = none)
    (hl : s.live = some l) (hq : l.queue = []) (hown : ¬ s.ownsNothing c.booking) : s.settle = s := by
  refine settle_of_none s (reachOne_of_live_empty ha hk hl hq) ?_
  simp [State.endDue, ha, hasEntries_of_owns hown]

/-- R82: one look, after which nothing is left to reach. -/
theorem settle_of_reach (h : s.reachOne = some u) (hu : u.reachOne = none) : s.settle = u.settle := by
  have hreach : s.reachAll = u := by
    simp [State.reachAll, reachFuel, reachLoop, h, hu]
  unfold State.settle
  rw [hreach, reachAll_of_none u hu]

/-- R60, R89: the end of a halted SCORE or TOLL that stands alone, planning done and no strike of its own left. -/
theorem done_ends_alone {b : Booking} (he : s.engine = ⟨some c, [], []⟩) (hm : c.mode = .playing)
    (hk : c.melodyKind ≠ none) (hd : s.player.done = some .complete) (hp : c.pendingHalt ≠ none)
    (hown : s.ownsNothing c.booking) (hb : s.booking? c.booking = some b) :
    s.settle.engine = ⟨none, [], []⟩ ∧
      s.settle.disposed c.booking b ⟨.halted, none, b.current, c.counts⟩ := by
  have ha : s.engine.active = some c := by rw [he]
  have hdue : s.endDue = some .halted := by
    obtain ⟨k, hk⟩ := Option.ne_none_iff_exists'.1 hk
    have hpending : c.pendingHalt.isSome = true := Option.isSome_iff_ne_none.2 hp
    simp [State.endDue, ha, hm, hk, hd, hasEntries_of_ownsNothing hown, PlanningDone.ending, hpending]
  obtain ⟨hengine, -, hdisposed, -⟩ := end_alone ha (by rw [he]) (by rw [he]) hb .halted none
  rw [settle_ends (reachOne_of_done hd) hdue]
  exact ⟨hengine, hdisposed⟩

end

/-! ## The halt at the block that plans -/

section
variable {s : State} {c : Context} {x : PendingHalt}

theorem applyHalt_live (hk : c.melodyKind = none) (s : State) :
    s.applyHalt c x = { s with live := s.live.map (·.halt x) } := by
  unfold State.applyHalt
  rw [hk]

/-- R90: AT_PHRASE at a Score Player that plans. -/
theorem applyHalt_atPhrase (hk : c.melodyKind ≠ none) (hm : c.mode = .playing) (s : State) :
    s.applyHalt c .atPhrase = s.stopAtPhrase c := by
  obtain ⟨k, hk⟩ := Option.ne_none_iff_exists'.1 hk
  simp [State.applyHalt, hk, hm]

/-- R96: AT_END at a Score Player that plans. -/
theorem applyHalt_atEnd (hk : c.melodyKind ≠ none) (hm : c.mode = .playing) (s : State) :
    s.applyHalt c .atEnd = s.cancelRepeats c := by
  obtain ⟨k, hk⟩ := Option.ne_none_iff_exists'.1 hk
  simp [State.applyHalt, hk, hm]

theorem stopAtPhrase_of_done (h : s.player.done ≠ none) : s.stopAtPhrase c = s := by
  unfold State.stopAtPhrase
  rw [if_pos (Option.isSome_iff_ne_none.2 h)]

theorem stopAtPhrase_of_score {slot : Nat} (h : s.player.done = none) (hk : c.melodyKind = some .score)
    (hm : c.melody = some slot) :
    s.stopAtPhrase c = { s with player := { s.player with stopPoint := s.stopFromHere c slot } } := by
  simp [State.stopAtPhrase, h, hk, hm]

theorem stopAtPhrase_of_toll (h : s.player.done = none) (hk : c.melodyKind = some .toll) :
    s.stopAtPhrase c = s.planningDone .complete := by
  simp [State.stopAtPhrase, h, hk]

theorem awaits_iff (b : Buffer) (n : Nat) : b.awaits n = true ↔ b = .reading n ∨ b = .retrying n := by
  simp [Buffer.awaits]

/-- R86: no repetition follows this segment, or the one segment there is stays. -/
theorem cancelRepeats_within {slot : Nat} (hk : c.melodyKind = some .score) (hm : c.melody = some slot)
    (h : c.pos.segment + 1 < (s.melody slot).segmentCount ∨ (s.melody slot).segmentCount ≤ 1) :
    s.cancelRepeats c = s := by
  simp [State.cancelRepeats, hk, hm, h]

/-- R86, log 63: in the last segment of several, the early read of segment 0 is abandoned. -/
theorem cancelRepeats_reading {slot : Nat} (hk : c.melodyKind = some .score) (hm : c.melody = some slot)
    (hlast : (s.melody slot).segmentCount ≤ c.pos.segment + 1) (hmany : 1 < (s.melody slot).segmentCount)
    (hnext : s.player.next = .reading 0 ∨ s.player.next = .retrying 0) :
    s.cancelRepeats c = { s with
      player := { s.player with next := .free }, store := s.store.releaseReads (· == 0) } := by
  have hawaits := (awaits_iff s.player.next 0).2 hnext
  simp [State.cancelRepeats, hk, hm, Nat.not_lt.2 hlast, Nat.not_le.2 hmany, hawaits]

/-- R85, R86: a SCORE with no early read of segment 0 outstanding keeps its buffers. -/
theorem cancelRepeats_not_reading (hk : c.melodyKind = some .score) (hread : s.player.next ≠ .reading 0)
    (hretry : s.player.next ≠ .retrying 0) : s.cancelRepeats c = s := by
  have hawaits : s.player.next.awaits 0 = false := by
    rw [Bool.eq_false_iff, ne_eq, awaits_iff]
    exact not_or.2 ⟨hread, hretry⟩
  cases hm : c.melody with
  | none => simp [State.cancelRepeats, hk, hm]
  | some slot => simp [State.cancelRepeats, hk, hm, hawaits]

/-- R96: a TOLL already past its last toll has planned all there is. -/
theorem cancelRepeats_toll_past (hk : c.melodyKind = some .toll) (hd : s.player.done = none)
    (h : c.lastToll < c.pos.number) : s.cancelRepeats c = s.planningDone .complete := by
  simp [State.cancelRepeats, hk, hd, h]

theorem cancelRepeats_toll_kept (hk : c.melodyKind = some .toll)
    (h : s.player.done ≠ none ∨ c.pos.number ≤ c.lastToll) : s.cancelRepeats c = s := by
  unfold State.cancelRepeats
  simp only [hk]
  rw [if_neg]
  rcases h with h | h
  · simp [h]
  · simp [Nat.not_lt.2 h]

/-- R89: with planning done, AT_END changes nothing but an early read of segment 0. -/
theorem cancelRepeats_of_done (hk : c.melodyKind ≠ none) (hd : s.player.done ≠ none)
    (hread : s.player.next ≠ .reading 0) (hretry : s.player.next ≠ .retrying 0) : s.cancelRepeats c = s := by
  obtain ⟨k, hk⟩ := Option.ne_none_iff_exists'.1 hk
  cases k with
  | score => exact cancelRepeats_not_reading hk hread hretry
  | toll => exact cancelRepeats_toll_kept hk (.inl hd)

end

/-! ## The stop point (R90) -/

section
variable {s : State} {c : Context} {slot : Nat}

/-- R90, log 20: a repetition that stands at its start stops there. -/
theorem stopFromHere_of_starting
    (h : c.pos.segment = 0 ∧ c.pos.event = 0 ∧ 1 < c.repeatNo ∧ c.atResume = false) :
    s.stopFromHere c slot = some (c.repeatNo, c.pos.segment, c.pos.event) := by
  obtain ⟨hsegment, hevent, hrepeat, hresume⟩ := h
  have htakeUp : c.atTakeUp = false := by
    simp [Context.atTakeUp, hresume, Nat.ne_of_gt hrepeat]
  unfold State.stopFromHere
  rw [if_pos ⟨hrepeat, hsegment, hevent, htakeUp⟩, hsegment, hevent]

section
variable (h : ¬ (c.pos.segment = 0 ∧ c.pos.event = 0 ∧ 1 < c.repeatNo ∧ c.atResume = false))
include h

theorem not_at_repetition_start :
    ¬ (1 < c.repeatNo ∧ c.pos.segment = 0 ∧ c.pos.event = 0 ∧ c.atTakeUp = false) := by
  rintro ⟨hrepeat, hsegment, hevent, htakeUp⟩
  refine h ⟨hsegment, hevent, hrepeat, ?_⟩
  simp only [Context.atTakeUp, Bool.or_eq_false_iff] at htakeUp
  exact htakeUp.1

theorem stopFromHere_of_mark {segment event : Nat}
    (hmark : s.firstPhrase slot c.reaches = some (segment, event)) :
    s.stopFromHere c slot = some (c.repeatNo, segment, event) := by
  unfold State.stopFromHere
  rw [if_neg (not_at_repetition_start h), hmark]

theorem stopFromHere_of_no_mark (hmark : s.firstPhrase slot c.reaches = none) :
    s.stopFromHere c slot = if c.repeatNo < c.repeats then some (c.repeatNo + 1, 0, 0) else none := by
  unfold State.stopFromHere
  rw [if_neg (not_at_repetition_start h), hmark]
  rfl

end

/-- R90, log 20: the marks that the planning position will reach. -/
theorem reaches_iff (c : Context) (x : Nat × Nat) : c.reaches x = true ↔
    atOrBefore (c.pos.segment, c.pos.event) x = true ∧
      (c.atResume = true ∨ (c.repeatNo = 1 ∧ c.pos.segment = 0 ∧ c.pos.event = 0) →
        x ≠ (c.pos.segment, c.pos.event)) := by
  have htakeUp : c.atTakeUp = true ↔
      c.atResume = true ∨ (c.repeatNo = 1 ∧ c.pos.segment = 0 ∧ c.pos.event = 0) := by
    simp [Context.atTakeUp, and_assoc]
  rw [← htakeUp, Context.reaches, Bool.and_eq_true, Bool.not_eq_true', Bool.and_eq_false_iff, beq_eq_false_iff_ne,
    ← Bool.not_eq_true, imp_iff_not_or]

/-- R90: the first phrase mark of the score that a test accepts. -/
theorem firstPhrase_eq_some {ok : Nat × Nat → Bool} {front back : List (Nat × Nat × Event)}
    {segment event delta : Nat}
    (hscore : s.score slot = front ++ (segment, event, Event.phrase delta) :: back)
    (hok : ok (segment, event) = true)
    (hfront : ∀ x ∈ front, x.2.2.isPhrase = true → ok (x.1, x.2.1) = false) :
    s.firstPhrase slot ok = some (segment, event) := by
  have hnone : (front.find? fun x => x.2.2.isPhrase && ok (x.1, x.2.1)) = none := by
    rw [List.find?_eq_none]
    intro x hx hboth
    obtain ⟨hphrase, hreached⟩ := Bool.and_eq_true_iff.1 hboth
    exact absurd hreached (by rw [hfront x hx hphrase]; exact Bool.false_ne_true)
  unfold State.firstPhrase
  rw [hscore, List.find?_append, hnone, Option.none_or, List.find?_cons_of_pos]
  · rfl
  · simpa [Event.isPhrase] using hok

theorem firstPhrase_eq_none {ok : Nat × Nat → Bool}
    (h : ∀ x ∈ s.score slot, x.2.2.isPhrase = true → ok (x.1, x.2.1) = false) : s.firstPhrase slot ok = none := by
  unfold State.firstPhrase
  rw [List.find?_eq_none.2, Option.map_none]
  intro x hx hboth
  obtain ⟨hphrase, hreached⟩ := Bool.and_eq_true_iff.1 hboth
  exact absurd hreached (by rw [h x hx hphrase]; exact Bool.false_ne_true)

section
variable (h : ¬ (c.pos.segment = 0 ∧ c.pos.event = 0 ∧ 1 < c.repeatNo ∧ c.atResume = false))
include h

/-- R90: the stop point is the first phrase mark that the planning position will reach. -/
theorem stopFromHere_of_first_mark {front back : List (Nat × Nat × Event)} {segment event delta : Nat}
    (hscore : s.score slot = front ++ (segment, event, Event.phrase delta) :: back)
    (hmark : c.reaches (segment, event) = true)
    (hfront : ∀ x ∈ front, x.2.2.isPhrase = true → ¬ c.reaches (x.1, x.2.1) = true) :
    s.stopFromHere c slot = some (c.repeatNo, segment, event) :=
  stopFromHere_of_mark h (firstPhrase_eq_some hscore hmark
    fun x hx hphrase => Bool.eq_false_iff.2 (hfront x hx hphrase))

/-- R90, log 58: without such a mark it is the start of the next repetition. -/
theorem stopFromHere_of_marks_behind
    (hnone : ∀ x ∈ s.score slot, x.2.2.isPhrase = true → ¬ c.reaches (x.1, x.2.1) = true) :
    s.stopFromHere c slot = if c.repeatNo < c.repeats then some (c.repeatNo + 1, 0, 0) else none :=
  stopFromHere_of_no_mark h (firstPhrase_eq_none
    fun x hx hphrase => Bool.eq_false_iff.2 (hnone x hx hphrase))

end

end

/-- R89, R90: the Score Player looks at its position and finds it at the stop point. -/
theorem reachOne_of_stopHere {s : State} {c : Context} {slot : Nat} (ha : s.engine.active = some c)
    (hm : c.mode = .playing) (hk : c.melodyKind = some .score) (hslot : c.melody = some slot)
    (hd : s.player.done = none) (hstop : s.player.stopPoint = some (c.repeatNo, c.pos.segment, c.pos.event))
    (hcur : ∀ k, s.player.cur ≠ .failed k) :
    s.reachOne = some (s.releaseBuffers.planningDone .complete) := by
  have hhere : s.stopHere c = some (s.releaseBuffers.planningDone .complete) := if_pos hstop
  have hscore : s.reachScore c = some (s.releaseBuffers.planningDone .complete) := by
    unfold State.reachScore
    simp only [hslot, hhere]
    cases hc : s.player.cur with
    | failed k => exact absurd hc (hcur k)
    | free | reading _ | retrying _ | held _ => rfl
  simp [State.reachOne, ha, hm, hd, hk, hscore]

end Sys2Proof.Machine
end


section
/-! PROOFS. The clauses on a later HALT, hushed and at play (R66, R67, R86, R90, R96, R143, R147): O36. -/

namespace Sys2Proof.Machine

/-- R66: the state with a halted context in the active place. -/
def State.withActive (c : Context) (s : State) : State := { s with engine := { s.engine with active := some c } }

section
variable {p : Port} {body : List Byte} {target : HaltTarget} {k : HaltCondition} {s : State} {c : Context} {b : Booking}

/-! ## ALL under HUSH (R66, R67) -/

/-- R66, R67: with nothing at play a later halt of ALL is stored with every context. -/
theorem halt_later_all (h : s.takes p 0x0A body.length = true) (hparse : parseHalt body = some (.all, k))
    (hk : k ≠ .now) (hsome : s.engine.active.toList ++ s.engine.stack ≠ [])
    (hrank : ∀ x ∈ s.engine.active.toList ++ s.engine.stack, x.rank ≤ s.privilege p)
    (hhushed : ∀ c, s.engine.active = some c → c.mode = .hushed ∧ c.melodyKind ≠ none) :
    exec (.halt p body) s = .next { s.answered p 0x0A .done [] with
      engine := { s.engine with
        active := s.engine.active.map (·.halting k), stack := s.engine.stack.map (·.halting k) } } := by
  have hmap (l : List Context) : (l.map fun x =>
      if HaltTarget.all.names false x then x.storeHalt k.pending else x) = l.map (·.halting k) :=
    List.map_congr_left fun x _ => storeHalt_eq hk x
  have hstacked : (s.taken p).haltStackedLater (HaltTarget.all.names false) k.pending =
      { s.taken p with engine := { s.engine with stack := s.engine.stack.map (·.halting k) } } := by
    unfold State.haltStackedLater
    rw [hmap]
    rfl
  have hhalt : (s.taken p).halt .all k = { s.taken p with engine := { s.engine with
      active := s.engine.active.map (·.halting k), stack := s.engine.stack.map (·.halting k) } } := by
    rw [halt_of_later hk]
    unfold State.haltLater
    rw [hstacked]
    cases ha : s.engine.active with
    | none => simp only [ha, Option.any_none, Bool.false_eq_true, if_false, Option.map_none]
    | some c =>
      obtain ⟨hm, hkind⟩ := hhushed c ha
      have hstore := haltActiveLater_hushed (s := { s.taken p with engine := { s.engine with
        stack := s.engine.stack.map (·.halting k) } }) hk ha hm hkind
      have hall : HaltTarget.all.names true c = true := rfl
      simp only [Option.any_some, hall, if_true, ha] at hstore ⊢
      rw [hstore]
      exact settle_of_hushed _ (c.halting k) rfl hm
  have hexec := exec_halt h hparse (by rwa [haltTargets_all]) (by rwa [haltTargets_all])
  rw [hhalt] at hexec
  exact hexec

/-! ## On the active context -/

section
variable (h : s.takes p 0x0A body.length = true) (hparse : parseHalt body = some (target, k)) (hk : k ≠ .now)
  (honly : s.haltsOnly target c) (ha : s.engine.active = some c) (hrank : c.rank ≤ s.privilege p)
include h hparse hk honly ha hrank

/-- R66: a later HALT on the active context alone. -/
theorem exec_halt_later : exec (.halt p body) s = .next { ((s.taken p).haltActiveLater k.pending).settle with
    links := (s.answered p 0x0A .done []).links } := by
  have hexec := exec_halt_active h hparse honly ha hrank
  rwa [halt_later_active (s := s.taken p) hk ha honly] at hexec

/-- R66, R67: one that acts sooner than the halt stored. -/
theorem exec_halt_new
    (hnew : ¬ (c.pendingHalt = some .atPhrase ∨ (c.pendingHalt = some .atEnd ∧ k = .atEnd))) :
    exec (.halt p body) s = .next { (((s.taken p).withActive (c.halting k)).applyHalt (c.halting k)
      k.pending).settle with links := (s.answered p 0x0A .done []).links } := by
  have hexec := exec_halt_later h hparse hk honly ha hrank
  rwa [haltActiveLater_of_new (s := s.taken p) hk ha hnew] at hexec

/-- R67: under HUSH a halt on a SCORE or TOLL is stored, and that is all. -/
theorem halt_later_hushed (hm : c.mode = .hushed) (hkind : c.melodyKind ≠ none) : exec (.halt p body) s =
    .next { s.answered p 0x0A .done [] with engine := { s.engine with active := some (c.halting k) } } := by
  have hexec := exec_halt_later h hparse hk honly ha hrank
  rw [haltActiveLater_hushed (s := s.taken p) hk ha hm hkind] at hexec
  rw [settle_of_hushed _ (c.halting k) rfl hm] at hexec
  exact hexec

/-- R67, R147: under HUSH a feed takes its new mode at once. -/
theorem halt_later_hushed_live (hm : c.mode = .hushed) (hkind : c.melodyKind = none) {l : LiveFeed}
    (hl : s.live = some l)
    (hnew : ¬ (c.pendingHalt = some .atPhrase ∨ (c.pendingHalt = some .atEnd ∧ k = .atEnd))) :
    exec (.halt p body) s = .next { s.answered p 0x0A .done [] with
      engine := { s.engine with active := some (c.halting k) }, live := some (l.halt k.pending) } := by
  have hexec := exec_halt_new h hparse hk honly ha hrank hnew
  have hlive : ((s.taken p).withActive (c.halting k)).live = some l := hl
  rw [applyHalt_live (c := c.halting k) hkind, hlive, settle_of_hushed _ (c.halting k) rfl hm] at hexec
  exact hexec

/-- R67: a halt that acts no sooner changes nothing. -/
theorem halt_later_stored (hstored : c.pendingHalt = some .atPhrase ∨ (c.pendingHalt = some .atEnd ∧ k = .atEnd))
    (hrests : s.rests) : exec (.halt p body) s = .next (s.answered p 0x0A .done []) := by
  have hexec := exec_halt_later h hparse hk honly ha hrank
  have hsame : (s.taken p).rests := hrests
  rw [haltActiveLater_of_stored (s := s.taken p) hk ha hstored, settle_of_rests _ hsame] at hexec
  exact hexec

end

/-- R82, R89: where the performance goes on as it is, the halt is all. -/
theorem next_of_settled {i : Instr} {u : State} {links : Links}
    (hexec : exec i s = .next { u.settle with links := links })
    (hu : u.settle = u) : exec i s = .next { u with links := links } := by
  rwa [hu] at hexec

/-! ## AT_PHRASE at play (R90, R147) -/

section
variable (h : s.takes p 0x0A body.length = true) (hparse : parseHalt body = some (target, .atPhrase))
  (honly : s.haltsOnly target c) (ha : s.engine.active = some c) (hrank : c.rank ≤ s.privilege p)
  (hm : c.mode = .playing) (hp : c.pendingHalt ≠ some .atPhrase)
include h hparse honly ha hrank hp

/-- R66: AT_PHRASE is stored with the active context, and reaches the block that plans. -/
theorem exec_atPhrase : exec (.halt p body) s =
    .next { (((s.taken p).withActive c.haltedAtPhrase).applyHalt c.haltedAtPhrase .atPhrase).settle with
      links := (s.answered p 0x0A .done []).links } := by
  have hexec := exec_halt_new h hparse (by simp) honly ha hrank (not_stored_atPhrase hp)
  rwa [halting_atPhrase] at hexec

/-- R147: AT_PHRASE stops a feed and empties its queue. -/
theorem exec_atPhrase_live (hkind : c.melodyKind = none) {l : LiveFeed} (hl : s.live = some l) :
    exec (.halt p body) s = .next { ({ (s.taken p).withActive c.haltedAtPhrase with
      live := some { l with mode := .stopped, queue := [], idle := ⟨0, none⟩ } } : State).settle with
        links := (s.answered p 0x0A .done []).links } := by
  have hexec := exec_atPhrase h hparse honly ha hrank hp
  have hlive : ((s.taken p).withActive c.haltedAtPhrase).live = some l := hl
  rw [applyHalt_live (c := c.haltedAtPhrase) hkind, hlive] at hexec
  exact hexec

include hm

/-- R90: AT_PHRASE at the Score Player. -/
theorem exec_atPhrase_planning (hkind : c.melodyKind ≠ none) {u : State}
    (hstop : ((s.taken p).withActive c.haltedAtPhrase).stopAtPhrase c.haltedAtPhrase = u) :
    exec (.halt p body) s = .next { u.settle with links := (s.answered p 0x0A .done []).links } := by
  have hexec := exec_atPhrase h hparse honly ha hrank hp
  rwa [applyHalt_atPhrase (c := c.haltedAtPhrase) hkind hm, hstop] at hexec

/-- R90: AT_PHRASE sets the stop point of a SCORE. -/
theorem exec_atPhrase_score (hd : s.player.done = none) (hkind : c.melodyKind = some .score) {slot : Nat}
    (hslot : c.melody = some slot) : exec (.halt p body) s =
      .next { ({ (s.taken p).withActive c.haltedAtPhrase with
        player := { s.player with stopPoint := s.stopFromHere c slot } } : State).settle with
          links := (s.answered p 0x0A .done []).links } :=
  exec_atPhrase_planning h hparse honly ha hrank hm hp (by simp [hkind])
    (stopAtPhrase_of_score (c := c.haltedAtPhrase) hd hkind hslot)

/-- R90: AT_PHRASE ends the planning of a TOLL. -/
theorem exec_atPhrase_toll (hd : s.player.done = none) (hkind : c.melodyKind = some .toll) :
    exec (.halt p body) s = .next { ({ (s.taken p).withActive c.haltedAtPhrase with
      player := { s.player with done := some .complete } } : State).settle with
        links := (s.answered p 0x0A .done []).links } :=
  exec_atPhrase_planning h hparse honly ha hrank hm hp (by simp [hkind])
    (stopAtPhrase_of_toll (c := c.haltedAtPhrase) hd hkind)

/-- R89, R90: at the stop point planning is done and the buffers are let go. -/
theorem exec_atPhrase_here (hd : s.player.done = none) (hkind : c.melodyKind = some .score) {slot : Nat}
    (hslot : c.melody = some slot)
    (hstop : s.stopFromHere c slot = some (c.repeatNo, c.pos.segment, c.pos.event))
    (hcur : ∀ k, s.player.cur ≠ .failed k) : exec (.halt p body) s =
      .next { ({ (s.taken p).withActive c.haltedAtPhrase with
        player := ⟨.free, .free, some (c.repeatNo, c.pos.segment, c.pos.event), some .complete⟩
        store := s.store.releaseReads (fun _ => true) } : State).settle with
          links := (s.answered p 0x0A .done []).links } := by
  have hexec := exec_atPhrase_score h hparse honly ha hrank hm hp hd hkind hslot
  have hlook := reachOne_of_stopHere (c := c.haltedAtPhrase)
    (s := { (s.taken p).withActive c.haltedAtPhrase with
      player := { s.player with stopPoint := s.stopFromHere c slot } }) rfl hm hkind hslot hd hstop hcur
  rw [settle_of_reach hlook (reachOne_of_done rfl), State.releaseBuffers, State.planningDone] at hexec
  simp only [hstop] at hexec
  exact hexec

/-- R66, R90: with planning done, AT_PHRASE is stored and ends nothing yet. -/
theorem halt_atPhrase_done (hkind : c.melodyKind ≠ none) (hd : s.player.done ≠ none)
    (hown : ¬ s.ownsNothing c.booking) : exec (.halt p body) s = .next { s.answered p 0x0A .done [] with
      engine := { s.engine with active := some c.haltedAtPhrase } } := by
  have hexec := exec_atPhrase_planning h hparse honly ha hrank hm hp hkind
    (stopAtPhrase_of_done (c := c.haltedAtPhrase) hd)
  have hnext := next_of_settled hexec (settle_of_done (c := c.haltedAtPhrase) rfl hd hown)
  exact hnext

/-- R90: AT_PHRASE sets the stop point of a SCORE, which goes on to it. -/
theorem halt_atPhrase_score {slot : Nat} (hd : s.player.done = none) (hkind : c.melodyKind = some .score)
    (hslot : c.melody = some slot)
    (hrests : ({ (s.taken p).withActive c.haltedAtPhrase with
      player := { s.player with stopPoint := s.stopFromHere c slot } } : State).rests) :
    exec (.halt p body) s = .next { s.answered p 0x0A .done [] with
      engine := { s.engine with active := some c.haltedAtPhrase }
      player := { s.player with stopPoint := s.stopFromHere c slot } } := by
  have hexec := exec_atPhrase_score h hparse honly ha hrank hm hp hd hkind hslot
  have hnext := next_of_settled hexec (settle_of_rests _ hrests)
  exact hnext

/-- R89, R90: a SCORE at its stop point goes on to its strikes. -/
theorem halt_atPhrase_here {slot : Nat} (hd : s.player.done = none) (hkind : c.melodyKind = some .score)
    (hslot : c.melody = some slot) (hstop : s.stopFromHere c slot = some (c.repeatNo, c.pos.segment, c.pos.event))
    (hcur : ∀ k, s.player.cur ≠ .failed k) (hown : ¬ s.ownsNothing c.booking) :
    exec (.halt p body) s = .next { s.answered p 0x0A .done [] with
      engine := { s.engine with active := some c.haltedAtPhrase }
      player := ⟨.free, .free, some (c.repeatNo, c.pos.segment, c.pos.event), some .complete⟩
      store := s.store.releaseReads (fun _ => true) } := by
  have hexec := exec_atPhrase_here h hparse honly ha hrank hm hp hd hkind hslot hstop hcur
  have hnext := next_of_settled hexec (settle_of_done (c := c.haltedAtPhrase) rfl (by simp) hown)
  exact hnext

/-- R90: a TOLL goes on to its strikes. -/
theorem halt_atPhrase_toll (hd : s.player.done = none) (hkind : c.melodyKind = some .toll)
    (hown : ¬ s.ownsNothing c.booking) : exec (.halt p body) s = .next { s.answered p 0x0A .done [] with
      engine := { s.engine with active := some c.haltedAtPhrase }
      player := { s.player with done := some .complete } } := by
  have hexec := exec_atPhrase_toll h hparse honly ha hrank hm hp hd hkind
  have hnext := next_of_settled hexec (settle_of_done (c := c.haltedAtPhrase) rfl (by simp) hown)
  exact hnext

omit hm in
/-- R147: a LIVE performance goes on to its strikes. -/
theorem halt_atPhrase_live (hkind : c.melodyKind = none) {l : LiveFeed} (hl : s.live = some l)
    (hown : ¬ s.ownsNothing c.booking) : exec (.halt p body) s = .next { s.answered p 0x0A .done [] with
      engine := { s.engine with active := some c.haltedAtPhrase }
      live := some { l with mode := .stopped, queue := [], idle := ⟨0, none⟩ } } := by
  have hexec := exec_atPhrase_live h hparse honly ha hrank hp hkind hl
  have hnext := next_of_settled hexec
    (settle_of_live_strikes (c := c.haltedAtPhrase) rfl hkind rfl rfl hown)
  exact hnext

/-- R67, R90, R147: the end of a performance that AT_PHRASE finds with no strike of its own left. -/
theorem halt_atPhrase_ends (hd : s.player.done = none) (hs : s.engine.stack = []) (hw : s.engine.waiting = [])
    (hb : s.booking? c.booking = some b) (hown : s.ownsNothing c.booking)
    (hkind : c.melodyKind = some .toll ∨ (c.melodyKind = none ∧ s.live ≠ none) ∨
      (∃ slot, c.melodyKind = some .score ∧ c.melody = some slot ∧ (∀ k, s.player.cur ≠ .failed k) ∧
        s.stopFromHere c slot = some (c.repeatNo, c.pos.segment, c.pos.event))) :
    ∃ t, exec (.halt p body) s = .next t ∧ t.engine = ⟨none, [], []⟩ ∧
      t.links = (s.answered p 0x0A .done []).links ∧
      t.disposed c.booking b ⟨.halted, none, b.current, c.counts⟩ := by
  have hengine : ((s.taken p).withActive c.haltedAtPhrase).engine = ⟨some c.haltedAtPhrase, [], []⟩ := by
    rw [← hs, ← hw]
    rfl
  rcases hkind with hk | ⟨hk, hl⟩ | ⟨slot, hk, hslot, hcur, hstop⟩
  · obtain ⟨hengine, hdisposed⟩ := done_ends_alone (c := c.haltedAtPhrase)
      (s := { (s.taken p).withActive c.haltedAtPhrase with
        player := { s.player with done := some .complete } }) hengine hm
      (by simp [Context.haltedAtPhrase, hk]) rfl (by simp [Context.haltedAtPhrase]) hown hb
    exact ⟨_, exec_atPhrase_toll h hparse honly ha hrank hm hp hd hk, hengine, rfl, hdisposed.withLinks _⟩
  · obtain ⟨l, hl⟩ := Option.ne_none_iff_exists'.1 hl
    obtain ⟨hengine, -, hdisposed, -⟩ := live_ends_alone (c := c.haltedAtPhrase)
      (s := { (s.taken p).withActive c.haltedAtPhrase with
        live := some { l with mode := .stopped, queue := [], idle := ⟨0, none⟩ } }) hengine hm hk rfl rfl
      (k := .halted) rfl hown hb
    exact ⟨_, exec_atPhrase_live h hparse honly ha hrank hp hk hl, hengine, rfl, hdisposed.withLinks _⟩
  · obtain ⟨hengine, hdisposed⟩ := done_ends_alone (c := c.haltedAtPhrase)
      (s := { (s.taken p).withActive c.haltedAtPhrase with
        player := ⟨.free, .free, some (c.repeatNo, c.pos.segment, c.pos.event), some .complete⟩
        store := s.store.releaseReads (fun _ => true) }) hengine hm
      (by simp [Context.haltedAtPhrase, hk]) rfl (by simp [Context.haltedAtPhrase]) hown hb
    exact ⟨_, exec_atPhrase_here h hparse honly ha hrank hm hp hd hk hslot hstop hcur, hengine, rfl,
      hdisposed.withLinks _⟩

end

end

end Sys2Proof.Machine
end


section
/-! PROOFS. The clause on AT_END at play (R86, R90, R96, R147), and O36 put together. -/

namespace Sys2Proof.Machine

section
variable {p : Port} {body : List Byte} {target : HaltTarget} {s : State} {c : Context} {b : Booking}
  (h : s.takes p 0x0A body.length = true) (hparse : parseHalt body = some (target, .atEnd))
  (honly : s.haltsOnly target c) (ha : s.engine.active = some c) (hrank : c.rank ≤ s.privilege p)
  (hm : c.mode = .playing) (hp : c.pendingHalt = none)
include h hparse honly ha hrank hp

/-- R66: AT_END is stored with the active context, and reaches the block that plans. -/
theorem exec_atEnd : exec (.halt p body) s =
    .next { (((s.taken p).withActive c.haltedAtEnd).applyHalt c.haltedAtEnd .atEnd).settle with
      links := (s.answered p 0x0A .done []).links } := by
  have hexec := exec_halt_new h hparse (by simp) honly ha hrank (not_stored_atEnd hp)
  rwa [halting_atEnd hp] at hexec

/-! ### LIVE (R143, R147) -/

section
variable (hkind : c.melodyKind = none) {l : LiveFeed} (hl : s.live = some l)
include hkind hl

/-- R147: AT_END closes a feed. -/
theorem exec_atEnd_live : exec (.halt p body) s = .next
    { ({ (s.taken p).withActive c.haltedAtEnd with live := some (l.halt .atEnd) } : State).settle with
      links := (s.answered p 0x0A .done []).links } := by
  have hexec := exec_atEnd h hparse honly ha hrank hp
  have hlive : ((s.taken p).withActive c.haltedAtEnd).live = some l := hl
  rw [applyHalt_live (c := c.haltedAtEnd) hkind, hlive] at hexec
  exact hexec

/-- R147: a LIVE performance that rests with its feed closed goes on. -/
theorem halt_atEnd_live
    (hrests : ({ (s.taken p).withActive c.haltedAtEnd with live := some (l.halt .atEnd) } : State).rests) :
    exec (.halt p body) s = .next { s.answered p 0x0A .done [] with
      engine := { s.engine with active := some c.haltedAtEnd }, live := some (l.halt .atEnd) } := by
  have hexec := exec_atEnd_live h hparse honly ha hrank hp hkind hl
  have hnext := next_of_settled hexec (settle_of_rests _ hrests)
  exact hnext

/-- R143, R147, log 22: a feed that AT_END finds empty, with no strike left, ends HALTED. -/
theorem halt_atEnd_live_ends (hm : c.mode = .playing) (hq : l.queue = []) (hown : s.ownsNothing c.booking)
    (hs : s.engine.stack = []) (hw : s.engine.waiting = []) (hb : s.booking? c.booking = some b) :
    ∃ t, exec (.halt p body) s = .next t ∧ t.engine = ⟨none, [], []⟩ ∧
      t.links = (s.answered p 0x0A .done []).links ∧
      t.disposed c.booking b ⟨.halted, none, b.current, c.counts⟩ := by
  have hengine : ((s.taken p).withActive c.haltedAtEnd).engine = ⟨some c.haltedAtEnd, [], []⟩ := by
    rw [← hs, ← hw]
    rfl
  have hexec := exec_atEnd_live h hparse honly ha hrank hp hkind hl
  obtain ⟨hengine, -, hdisposed, -⟩ := live_ends_alone (c := c.haltedAtEnd)
    (s := { (s.taken p).withActive c.haltedAtEnd with live := some (l.halt .atEnd) }) hengine hm hkind rfl
    ((liveHalt_atEnd_queue l).trans hq) (liveHalt_atEnd_ending hq) hown hb
  exact ⟨_, hexec, hengine, rfl, hdisposed.withLinks _⟩

end

include hm

/-- R96: AT_END at the Score Player. -/
theorem exec_atEnd_planning (hkind : c.melodyKind ≠ none) {u : State}
    (hcancel : ((s.taken p).withActive c.haltedAtEnd).cancelRepeats c.haltedAtEnd = u) :
    exec (.halt p body) s = .next { u.settle with links := (s.answered p 0x0A .done []).links } := by
  have hexec := exec_atEnd h hparse honly ha hrank hp
  rwa [applyHalt_atEnd (c := c.haltedAtEnd) hkind hm, hcancel] at hexec

/-- R66, R90: with planning done, AT_END is stored and ends nothing yet. -/
theorem halt_atEnd_done (hkind : c.melodyKind ≠ none) (hd : s.player.done ≠ none) (hown : ¬ s.ownsNothing c.booking)
    (hread : s.player.next ≠ .reading 0) (hretry : s.player.next ≠ .retrying 0) :
    exec (.halt p body) s = .next { s.answered p 0x0A .done [] with
      engine := { s.engine with active := some c.haltedAtEnd } } := by
  have hexec := exec_atEnd_planning h hparse honly ha hrank hm hp hkind
    (cancelRepeats_of_done (c := c.haltedAtEnd) hkind hd hread hretry)
  have hnext := next_of_settled hexec (settle_of_done (c := c.haltedAtEnd) rfl hd hown)
  exact hnext

/-! ### SCORE (R86, R90) -/

section
variable {slot : Nat} (hkind : c.melodyKind = some .score) (hrests : s.rests)
include hkind hrests

/-- R86, R90: a SCORE that rests goes on to rest where AT_END changes nothing of its reads. -/
theorem halt_atEnd_kept
    (hcancel : ((s.taken p).withActive c.haltedAtEnd).cancelRepeats c.haltedAtEnd =
      (s.taken p).withActive c.haltedAtEnd) :
    exec (.halt p body) s = .next { s.answered p 0x0A .done [] with
      engine := { s.engine with active := some c.haltedAtEnd } } := by
  have hrests' : ((s.taken p).withActive c.haltedAtEnd).rests := by
    rintro - ⟨⟩ hmode
    exact hrests c ha hmode
  have hnext := next_of_settled (exec_atEnd_planning h hparse honly ha hrank hm hp (by simp [hkind]) hcancel)
    (settle_of_rests _ hrests')
  exact hnext

/-- R86, log 63: an early read of segment 0 for a further repetition is abandoned. -/
theorem halt_atEnd_reading (hslot : c.melody = some slot) (hlast : (s.melody slot).segmentCount ≤ c.pos.segment + 1)
    (hmany : 1 < (s.melody slot).segmentCount) (hnext : s.player.next = .reading 0 ∨ s.player.next = .retrying 0) :
    exec (.halt p body) s = .next { s.answered p 0x0A .done [] with
      engine := { s.engine with active := some c.haltedAtEnd }
      player := { s.player with next := .free }
      store := s.store.releaseReads (· == 0) } := by
  have hrests' : ({ (s.taken p).withActive c.haltedAtEnd with
      player := { s.player with next := .free }, store := s.store.releaseReads (· == 0) } : State).rests := by
    rintro - ⟨⟩ hmode
    exact hrests c ha hmode
  have hexec := exec_atEnd_planning h hparse honly ha hrank hm hp (by simp [hkind])
    (cancelRepeats_reading (c := c.haltedAtEnd) hkind hslot hlast hmany hnext)
  have hnext := next_of_settled hexec (settle_of_rests _ hrests')
  exact hnext

end

/-! ### TOLL (R96) -/

section
variable (hkind : c.melodyKind = some .toll) (hd : s.player.done = none)
include hkind hd

/-- R96, log 38: with the last toll still ahead and beyond the horizon, AT_END is stored. -/
theorem halt_atEnd_toll_ahead {slot pitch strength interval : Nat} {mode : CountMode} {d : MelodyHeader}
    (hslot : c.melody = some slot) (hknown : (s.melody slot).known? = some d)
    (hshape : d.shape = .toll pitch strength interval mode) (hpos : c.pos.number ≤ c.tollCount * c.repeatNo)
    (hdue : s.time.clock + 400000 < c.originTime + (c.pos.number - c.originTick) * (interval * 1000)) :
    exec (.halt p body) s = .next { s.answered p 0x0A .done [] with
      engine := { s.engine with active := some c.haltedAtEnd } } := by
  have hrests : ((s.taken p).withActive c.haltedAtEnd).rests := by
    rintro - ⟨⟩ -
    refine ⟨fun _ hdone => absurd hd hdone, fun hscore => ?_, fun _ _ => ?_, fun hlive => ?_⟩
    · cases hkind.symm.trans hscore
    · intro slot' d' pitch' strength' interval' mode' hslot' hknown' hshape'
      cases hslot.symm.trans hslot'
      cases hknown.symm.trans hknown'
      cases hshape.symm.trans hshape'
      exact .inl hdue
    · cases hkind.symm.trans hlive
  have hexec := exec_atEnd_planning h hparse honly ha hrank hm hp (by simp [hkind])
    (cancelRepeats_toll_kept (c := c.haltedAtEnd) hkind (.inr hpos))
  have hnext := next_of_settled hexec (settle_of_rests _ hrests)
  exact hnext

variable (hpos : c.tollCount * c.repeatNo < c.pos.number)
include hpos

/-- R96: past the last toll planning is done. -/
theorem exec_atEnd_toll_past : exec (.halt p body) s =
    .next { ({ (s.taken p).withActive c.haltedAtEnd with
      player := { s.player with done := some .complete } } : State).settle with
        links := (s.answered p 0x0A .done []).links } :=
  exec_atEnd_planning h hparse honly ha hrank hm hp (by simp [hkind])
    (cancelRepeats_toll_past (c := c.haltedAtEnd) hkind hd hpos)

theorem halt_atEnd_toll_past (hown : ¬ s.ownsNothing c.booking) :
    exec (.halt p body) s = .next { s.answered p 0x0A .done [] with
      engine := { s.engine with active := some c.haltedAtEnd }
      player := { s.player with done := some .complete } } := by
  have hnext := next_of_settled (exec_atEnd_toll_past h hparse honly ha hrank hm hp hkind hd hpos)
    (settle_of_done (c := c.haltedAtEnd) rfl (by simp) hown)
  exact hnext

theorem halt_atEnd_toll_ends (hown : s.ownsNothing c.booking) (hs : s.engine.stack = [])
    (hw : s.engine.waiting = []) (hb : s.booking? c.booking = some b) :
    ∃ t, exec (.halt p body) s = .next t ∧ t.engine = ⟨none, [], []⟩ ∧
      t.links = (s.answered p 0x0A .done []).links ∧
      t.disposed c.booking b ⟨.halted, none, b.current, c.counts⟩ := by
  have hengine : ((s.taken p).withActive c.haltedAtEnd).engine = ⟨some c.haltedAtEnd, [], []⟩ := by
    rw [← hs, ← hw]
    rfl
  have hexec := exec_atEnd_toll_past h hparse honly ha hrank hm hp hkind hd hpos
  obtain ⟨hengine, hdisposed⟩ := done_ends_alone (c := c.haltedAtEnd)
    (s := { (s.taken p).withActive c.haltedAtEnd with player := { s.player with done := some .complete } })
    hengine hm (by simp [Context.haltedAtEnd, hkind]) rfl (by simp [Context.haltedAtEnd]) hown hb
  exact ⟨_, hexec, hengine, rfl, hdisposed.withLinks _⟩

end

end

/-! ## O36 -/

/-- R64: the targets that name nothing. -/
theorem haltTargets_eq_nil {s : State} {target : HaltTarget}
    (h : (target = .active ∧ s.engine.active = none) ∨
      (target = .all ∧ s.engine.active = none ∧ s.engine.stack = []) ∨
      (∃ n, target = .booking n ∧ ∀ x ∈ s.engine.active.toList ++ s.engine.stack, x.booking ≠ n)) :
    s.haltTargets target = [] := by
  rcases h with ⟨rfl, ha⟩ | ⟨rfl, ha, hs⟩ | ⟨n, rfl, hne⟩
  · have hnone : s.engine.stack.filter (HaltTarget.active.names false) = [] :=
      List.filter_eq_nil_iff.2 fun x _ => by simp [HaltTarget.names]
    simp [State.haltTargets, ha, hnone]
  · rw [haltTargets_all, ha, hs]
    rfl
  · unfold State.haltTargets
    refine List.append_eq_nil_iff.2 ⟨List.filter_eq_nil_iff.2 fun x hx => ?_, List.filter_eq_nil_iff.2 fun x hx => ?_⟩
    · simpa [HaltTarget.names] using hne x (List.mem_append_left _ hx)
    · simpa [HaltTarget.names] using hne x (List.mem_append_right _ hx)

/-- R64: a context that a HALT names is among its targets. -/
theorem mem_haltTargets {s : State} {target : HaltTarget} {x : Context}
    (h : (target = .active ∧ s.engine.active = some x) ∨
      ((target = .all ∨ target = .booking x.booking) ∧ x ∈ s.engine.active.toList ++ s.engine.stack)) :
    x ∈ s.haltTargets target := by
  rcases h with ⟨rfl, ha⟩ | ⟨rfl | rfl, hx⟩
  · simp [State.haltTargets, HaltTarget.names, ha]
  · rwa [haltTargets_all]
  · rw [List.mem_append] at hx
    simpa [State.haltTargets, HaltTarget.names] using hx

/-- Settles O36: HALT acts on what it names (`exec_halt`); NOW ends it (`endActive_leaves`) and the resume choice
follows; what acts later is stored (`Context.halting`) and reaches the Score Player or the Live Feed
(`exec_halt_new`), after which the performance rests, goes on to its strikes, or ends (`done_ends_alone`,
`live_ends_alone`). -/
theorem haltEndsOrIsStored : Obligations.HaltEndsOrIsStored := by
  unfold Obligations.HaltEndsOrIsStored
  refine ⟨?_, ?_, ?_, ?_, ?_, ?_, ?_, ?_, ?_, ?_, ?_⟩
  · intro p body target c b s h hparse htarget ha hs hw hrank hb
    exact halt_now_alone h hparse htarget ha hs hw hrank hb
  · intro p body target c b s h hparse honly ha hrank hb
    exact ⟨halt_now_hushed h hparse honly ha hrank hb, halt_now_released h hparse honly ha hrank hb⟩
  · intro p body s h hparse hw contexts hsome hrank hnodup
    exact halt_now_all h hparse hw hsome hrank hnodup
  · intro p body k above below x b s h hparse hs hne ha hrank hb
    exact ⟨halt_now_stacked h hparse hs hne ha hrank hb, halt_later_stacked h hparse hs hne ha hrank⟩
  · intro p body target k c s h hparse hk honly ha hm hrank stored t
    refine ⟨halt_later_hushed h hparse hk honly ha hrank hm, fun l hkind hl => ⟨?_, ?_⟩⟩
    · rintro rfl hp
      exact halt_later_hushed_live h hparse hk honly ha hrank hm hkind hl (not_stored_atPhrase hp)
    · rintro rfl hp
      have hexec := halt_later_hushed_live h hparse hk honly ha hrank hm hkind hl (not_stored_atEnd hp)
      rwa [show l.halt HaltCondition.atEnd.pending = _ from liveHalt_atEnd l] at hexec
  · intro p body k s h hparse hk contexts hsome hrank hhushed
    exact halt_later_all h hparse hk hsome hrank hhushed
  · intro p body target k s h hparse htarget
    exact exec_halt_noSuch h hparse (haltTargets_eq_nil htarget)
  · intro p body target k x s h hparse htarget hrank
    exact exec_halt_privilege h hparse (mem_haltTargets htarget) hrank
  · intro p body target k c s h hparse hk honly ha hm hrank
    refine ⟨halt_later_stored h hparse hk honly ha hrank, fun hkind hd hown => ⟨?_, ?_⟩⟩
    · rintro rfl hp
      exact halt_atPhrase_done h hparse honly ha hrank hm hp hkind hd hown
    · rintro rfl hp hread hretry
      exact halt_atEnd_done h hparse honly ha hrank hm hp hkind hd hown hread hretry
  · intro p body target c s h hparse honly ha hm hrank hp hd halted here pos untouched ahead starting
    have hahead (x : Nat × Nat) : c.reaches x = true ↔ ahead x := reaches_iff c x
    refine ⟨fun slot hkind hslot => ⟨halt_atPhrase_score h hparse honly ha hrank hm hp hd hkind hslot,
      halt_atPhrase_here h hparse honly ha hrank hm hp hd hkind hslot, stopFromHere_of_starting,
      fun hstart => ⟨fun front segment event delta back hscore hmark hfront => ?_, fun hnone => ?_⟩⟩,
      fun e he howner => ?_,
      fun b hs hw hb hown hkind => halt_atPhrase_ends h hparse honly ha hrank hm hp hd hs hw hb hown hkind⟩
    · exact stopFromHere_of_first_mark hstart hscore ((hahead _).2 hmark)
        fun x hx hphrase => mt (hahead _).1 (hfront x hx hphrase)
    · exact stopFromHere_of_marks_behind hstart fun x hx hphrase => mt (hahead _).1 (hnone x hx hphrase)
    · have hown : ¬ s.ownsNothing c.booking := fun hown => hown e he howner
      exact ⟨fun hkind => halt_atPhrase_toll h hparse honly ha hrank hm hp hd hkind hown,
        fun l hkind hl => halt_atPhrase_live h hparse honly ha hrank hp hkind hl hown⟩
  · intro p body target c s h hparse honly ha hm hrank hp hd _ halted
    refine ⟨fun slot hkind hslot hrests => ?_,
      fun slot pitch strength interval mode hdr hkind hslot hknown hshape => ?_, fun l hkind hl => ?_⟩
    · exact ⟨fun hseg =>
          halt_atEnd_kept h hparse honly ha hrank hm hp hkind hrests (cancelRepeats_within hkind hslot hseg),
        fun hlast hmany => ⟨halt_atEnd_reading h hparse honly ha hrank hm hp hkind hrests hslot hlast hmany,
          fun hread hretry => halt_atEnd_kept h hparse honly ha hrank hm hp hkind hrests
            (cancelRepeats_not_reading hkind hread hretry)⟩⟩
    · exact ⟨halt_atEnd_toll_ahead h hparse honly ha hrank hm hp hkind hd hslot hknown hshape,
        fun hpos => ⟨halt_atEnd_toll_past h hparse honly ha hrank hm hp hkind hd hpos,
          fun b hown hs hw hb => halt_atEnd_toll_ends h hparse honly ha hrank hm hp hkind hd hpos hown hs hw hb⟩⟩
    · rw [← liveHalt_atEnd]
      exact ⟨halt_atEnd_live h hparse honly ha hrank hp hkind hl, fun b hq hown hs hw hb =>
        halt_atEnd_live_ends h hparse honly ha hrank hp hkind hl hm hq hown hs hw hb⟩

end Sys2Proof.Machine
end


section
/-! PROOFS. One look of the Score Player (R82, R83, R88–R90), and the end that follows planning done (R89). -/

namespace Sys2Proof.Machine

/-! ## Held back or within reach (R82, R83) -/

/-- R82, R83: an event is held back exactly when the queue stalls the Score Player or it lies beyond the horizon. -/
theorem heldBack_iff (s : State) (due : Nat) : s.heldBack due ↔ (s.stalled || !s.inHorizon due) = true := by
  have hstalled : s.stalled = true ↔ 48 ≤ s.planner.queue.length ∧ s.planner.testFilled ≠ some s.time.clock := by
    unfold State.stalled
    rw [Bool.and_eq_true, bne_iff_ne]
    exact and_congr_left' decide_eq_true_iff
  have hhorizon : s.inHorizon due = true ↔ due ≤ s.time.clock + 400000 := decide_eq_true_iff
  rw [Bool.or_eq_true, Bool.not_eq_true', ← Bool.not_eq_true, hstalled, hhorizon, Nat.not_le]
  exact or_comm

/-- R82, R83: with room in the queue, or at the instant a test hand-over filled it, an event within the horizon is
within reach. -/
theorem not_heldBack {s : State} {due : Nat} (hdue : due ≤ s.time.clock + 400000)
    (hroom : s.planner.queue.length < 48 ∨ s.planner.testFilled = some s.time.clock) : ¬ s.heldBack due := by
  rintro (h | ⟨hfull, hfilled⟩)
  · exact absurd hdue (Nat.not_le.2 h)
  · rcases hroom with hroom | hroom
    · exact absurd hfull (Nat.not_le.2 hroom)
    · exact hfilled hroom

/-! ## A SCORE at play -/

section
variable {s : State} {c : Context} {slot : Nat} (ha : s.engine.active = some c) (hm : c.mode = .playing)
  (hk : c.melodyKind = some .score) (hslot : c.melody = some slot) (hd : s.player.done = none)
include ha hm hk hd

theorem reachOne_of_score : s.reachOne = s.reachScore c := by
  simp [State.reachOne, ha, hm, hk, hd]

include hslot

/-- R88: a current buffer that failed ends the planning. -/
theorem reachOne_of_failed {k : Nat} (hcur : s.player.cur = .failed k) :
    s.reachOne = some (s.planningDone .damaged) := by
  rw [reachOne_of_score ha hm hk hd]
  simp [State.reachScore, hslot, hcur]

/-- R85: nothing is reached while the current buffer's read is outstanding. -/
theorem reachOne_of_outstanding {i : Nat} (hstop : s.player.stopPoint = none)
    (hcur : s.player.cur = .reading i ∨ s.player.cur = .retrying i) : s.reachOne = none := by
  rw [reachOne_of_score ha hm hk hd]
  rcases hcur with hcur | hcur
  · simp [State.reachScore, hslot, hcur, stopHere_of_none s c hstop]
  · simp [State.reachScore, hslot, hcur, stopHere_of_none s c hstop]

section
variable {seg : Segment} {e : Event} (hstop : s.player.stopPoint ≠ some (c.repeatNo, c.pos.segment, c.pos.event))
  (hcur : s.player.cur = .held seg) (he : seg.events[c.pos.event]? = some e)
include hstop hcur he

/-- R78, R82, R83: the event at the planning position of a held segment, away from the stop point. -/
theorem reachOne_of_held : s.reachOne =
    (let tick := c.pos.tick + e.delta
     if s.stalled || !s.inHorizon (c.dueAt tick) then none
     else some ((s.actEvent c e tick (c.dueAt tick) (c.scorePos tick)).advance slot tick seg.events.length)) := by
  have hstop : s.stopHere c = none := if_neg hstop
  rw [reachOne_of_score ha hm hk hd]
  simp only [State.reachScore, hslot, hcur, hstop, he]

theorem reachOne_of_event (hdue : ¬ s.heldBack (c.dueAt (c.pos.tick + e.delta))) : s.reachOne =
    (let tick := c.pos.tick + e.delta
     some ((s.actEvent c e tick (c.dueAt tick) (c.scorePos tick)).advance slot tick seg.events.length)) := by
  rw [reachOne_of_held ha hm hk hslot hd hstop hcur he]
  exact if_neg (mt (heldBack_iff ..).2 hdue)

theorem reachOne_of_heldBack (hdue : s.heldBack (c.dueAt (c.pos.tick + e.delta))) : s.reachOne = none := by
  rw [reachOne_of_held ha hm hk hslot hd hstop hcur he]
  exact if_pos ((heldBack_iff ..).1 hdue)

/-- R82, R83, R89: a SCORE whose next event is held back rests. -/
theorem settle_of_heldBack (hdue : s.heldBack (c.dueAt (c.pos.tick + e.delta))) : s.settle = s :=
  settle_of_none s (reachOne_of_heldBack ha hm hk hslot hd hstop hcur he hdue)
    (endDue_of_planning ha (by simp [hk]) hd)

end

theorem settle_of_outstanding {i : Nat} (hstop : s.player.stopPoint = none)
    (hcur : s.player.cur = .reading i ∨ s.player.cur = .retrying i) : s.settle = s :=
  settle_of_none s (reachOne_of_outstanding ha hm hk hslot hd hstop hcur) (endDue_of_planning ha (by simp [hk]) hd)

end

/-! ## The end after planning done (R60, R89) -/

/-- R60, R89: a SCORE or TOLL that stands alone, planning done and no strike of its own left, ends. -/
theorem planned_ends_alone {s : State} {c : Context} {b : Booking} {d : PlanningDone}
    (ha : s.engine.active = some c) (hs : s.engine.stack = []) (hw : s.engine.waiting = [])
    (hm : c.mode = .playing) (hk : c.melodyKind ≠ none) (hd : s.player.done = some d)
    (hown : s.ownsNothing c.booking) (hb : s.booking? c.booking = some b) :
    s.settle.engine = ⟨none, [], []⟩ ∧
      s.settle.disposed c.booking b ⟨d.ending c.pendingHalt, none, b.current, c.counts⟩ := by
  obtain ⟨k, hk⟩ := Option.ne_none_iff_exists'.1 hk
  have hdue : s.endDue = some (d.ending c.pendingHalt) := by
    simp [State.endDue, ha, hm, hk, hd, hasEntries_of_ownsNothing hown]
  obtain ⟨hengine, -, hdisposed, -⟩ := end_alone ha hs hw hb (d.ending c.pendingHalt) none
  rw [settle_ends (reachOne_of_done hd) hdue]
  exact ⟨hengine, hdisposed⟩

end Sys2Proof.Machine
end


section
/-! PROOFS. The reads of segments (R85, R87, R88, R157, R170): O43. -/

namespace Sys2Proof.Machine

/-! ## The check of a read (R87, R152) -/

/-- R152: four bytes make an event whatever follows them. -/
theorem parseEvent_slice (bs : List Byte) : parseEvent (slice bs 0 4) = parseEvent bs := by
  have hbyte (i : Nat) (h : i < 4) : byteAt (slice bs 0 4) i = byteAt bs i := by
    simp [byteAt, slice, h]
  have hword : slice (slice bs 0 4) 2 2 = slice bs 2 2 := by
    simp [slice, List.drop_take, List.take_take]
  unfold parseEvent
  rw [hbyte 0 (by decide), hbyte 1 (by decide), hword]

theorem slice_drop (bs : List Byte) (i j n : Nat) : slice (bs.drop i) j n = slice bs (i + j) n := by
  simp [slice, List.drop_drop]

/-- R152: a run of events read at once is each of its events read at its place. -/
theorem parseEvents_eq {n : Nat} {bs : List Byte} {es : List Event} (h : parseEvents n bs = some es) :
    es = (List.range n).map fun k => readEvent (slice bs (4 * k) 4) := by
  induction n generalizing bs es with
  | zero => exact (Option.some.inj h).symm
  | succ n ih =>
    obtain ⟨e, he, h⟩ := Option.bind_eq_some_iff.1 h
    obtain ⟨rest, hrest, h⟩ := Option.bind_eq_some_iff.1 h
    cases h
    have hhead : readEvent (slice bs 0 4) = e := by
      unfold readEvent
      rw [parseEvent_slice, he]
      rfl
    rw [List.range_succ_eq_map, List.map_cons, List.map_map, ih hrest, hhead]
    simp only [slice_drop, Function.comp_def, Nat.mul_succ, Nat.add_comm 4]

/-- R87: what the check of a read asks of its bytes. -/
theorem passesChecks_iff (m i : Nat) (got : List Byte) : passesChecks m i got = true ↔
    byteAt got 0 = m ∧ byteAt got 1 = i ∧ byteAt got 2 ≤ 3 ∧ 1 ≤ fromBe (slice got 3 2) ∧
      fromBe (slice got 3 2) ≤ 32 * 2 ^ byteAt got 2 ∧
      (crc16 (got.take 5 ++ got.drop 7)).toNat = fromBe (slice got 5 2) := decide_eq_true_iff

theorem checkRead_isSome (m i : Nat) (got : List Byte) :
    (checkRead m i got).isSome = true ↔ passesChecks m i got = true := by
  unfold checkRead
  split <;> simp [*]

/-- R87: a read that passes delivers what its bytes carry. -/
theorem checkRead_eq_some {m i : Nat} {got : List Byte} {g : Segment} :
    checkRead m i got = some g ↔ passesChecks m i got = true ∧ carriedSegment got = g := by
  unfold checkRead
  split <;> simp [*]

/-- R152: a read that passes names its slot and segment, and carries its events in their order. -/
theorem checkRead_carries {m i : Nat} {got : List Byte} {g : Segment} (h : checkRead m i got = some g) :
    g = ⟨m, i, byteAt got 2, fromBe (slice got 3 2), fromBe (slice got 5 2), g.events⟩ ∧
      g.events.length = (got.length - 7) / 4 ∧
      ∀ k e, k < g.events.length → parseEvent (slice got (7 + 4 * k) 4) = some e → g.events[k]? = some e := by
  obtain ⟨hpass, rfl⟩ := checkRead_eq_some.1 h
  obtain ⟨rfl, rfl, -⟩ := (passesChecks_iff ..).1 hpass
  have hlength : (carriedEvents got).length = (got.length - 7) / 4 := by simp [carriedEvents]
  refine ⟨rfl, hlength, fun k e hlt he => ?_⟩
  have hlt : k < (got.length - 7) / 4 := hlength ▸ hlt
  show (carriedEvents got)[k]? = some e
  simp [carriedEvents, hlt, readEvent, he]

theorem byteField_eq {bs : List Byte} {i lo hi v : Nat} (h : byteField bs i lo hi = some v) : byteAt bs i = v := by
  unfold byteField inRange at h
  split at h
  · exact Option.some.inj h
  · cases h

theorem wordField_eq {bs : List Byte} {i lo hi v : Nat} (h : wordField bs i lo hi = some v) :
    fromBe (slice bs i 2) = v ∧ lo ≤ v ∧ v ≤ hi := by
  unfold wordField inRange at h
  split at h
  · rename_i hrange
    cases h
    exact ⟨rfl, hrange⟩
  · cases h

/-- R87, R155: bytes that STORE SEGMENT takes pass the check of a read, and carry the same segment. -/
theorem checkRead_of_parseSegment {got : List Byte} {g : Segment} (h : parseSegment got = some g) :
    checkRead g.slot g.index got = some g := by
  obtain ⟨slot, hslot, h⟩ := Option.bind_eq_some_iff.1 h
  obtain ⟨index, hindex, h⟩ := Option.bind_eq_some_iff.1 h
  obtain ⟨code, hcode, h⟩ := Option.bind_eq_some_iff.1 h
  obtain ⟨count, hcount, h⟩ := Option.bind_eq_some_iff.1 h
  have hlength : got.length = 7 + 4 * count := by
    by_contra hne
    exact absurd ((if_pos hne).symm.trans h) nofun
  obtain ⟨events, hevents, h⟩ := Option.bind_eq_some_iff.1 ((if_neg (not_not.2 hlength)).symm.trans h)
  have hcrc : (computedCrc got).toNat = storedCrc got := by
    by_contra hne
    exact absurd ((if_pos hne).symm.trans h) nofun
  cases (if_neg (not_not.2 hcrc)).symm.trans h
  obtain ⟨-, hcodeMax⟩ := byteField_le hcode
  obtain ⟨hcountEq, hcountMin, hcountMax⟩ := wordField_eq hcount
  have hcarried : carriedEvents got = events := by
    rw [parseEvents_eq hevents]
    unfold carriedEvents
    rw [show (got.length - 7) / 4 = count by omega]
    simp only [slice_drop]
  refine checkRead_eq_some.2 ⟨(passesChecks_iff ..).2 ?_, ?_⟩
  · rw [byteField_eq hslot, byteField_eq hindex, byteField_eq hcode, hcountEq]
    exact ⟨rfl, rfl, hcodeMax, hcountMin, hcountMax, hcrc⟩
  · unfold carriedSegment
    rw [byteField_eq hslot, byteField_eq hindex, byteField_eq hcode, hcountEq, hcarried]

/-! ## The read queue (R170, R171) -/

/-- R170, R171: a read joins a queue with room at its tail. -/
theorem requestRead_of_room {st : Store} (h : st.reads.length < 8) (r : ReadRequest) :
    st.requestRead r = { st with reads := st.reads ++ [r], suspending := st.suspending || st.working } := by
  have hroom : st.makeRoom = st := if_pos h
  have hjoin : joinReads st.reads r = st.reads ++ [r] := if_pos h
  unfold Store.requestRead
  simp only [hroom, hjoin]

/-- R169, R171: with a read still waiting, or nothing in hand, the store stays as it is after a read. -/
theorem afterRead_same {s : State} (h : s.store.reads ≠ [] ∨ (s.store.state = .idle ∧ s.store.op = none)) :
    s.afterRead = s := by
  have hstore : s.store.afterReads = s.store := by
    rcases h with h | ⟨hstate, hop⟩
    · exact if_neg (by rwa [List.isEmpty_iff])
    · simp only [Store.afterReads, Store.beginWork, hstate, hop]
      split
      · show ({ s.store with state := .idle, op := none } : Store) = s.store
        rw [← hstate, ← hop]
      · rfl
  unfold State.afterRead
  rw [hstore]

/-- The state with these reads waiting. -/
def State.withReads (s : State) (reads : List ReadRequest) : State := { s with store := { s.store with reads := reads } }

/-- R170: the read at the head of the queue is served, then the store and the Score Player go on. -/
theorem exec_readCompletion {s : State} {r : ReadRequest} {rest : List ReadRequest} (hreads : s.store.reads = r :: rest)
    (hw : s.store.working = false) (noise : List Byte) :
    exec (.segmentReadCompletion noise) s = .next ((s.withReads rest).serveRead r noise).afterRead.settle := by
  have hserving : s.store.serving = true := by simp [Store.serving, hreads, hw]
  show Host.Outcome.next _ = _
  simp only [hreads, hserving, if_true]
  rfl

/-! ## READ SEGMENT (R157) -/

/-- R157: READ SEGMENT of a stored position joins the read queue. -/
theorem exec_readSegment {p : Port} {m i count : Nat} {h : MelodyHeader} {s : State} (hm : m < 64) (hi : i < 16)
    (htakes : s.takes p 0x11 2 = true) (hstate : (s.melody m).state ≠ .empty)
    (hheader : (s.melody m).header = .known h) (hshape : h.shape = .score count) (hcount : i < count)
    (hposition : (s.melody m).positions.getD i .absent ≠ .absent) (hroom : s.store.reads.length < 8) :
    exec (.readSegment p [BitVec.ofNat 8 m, BitVec.ofNat 8 i]) s = .next { s.taken p with
      store := { s.store with
        reads := s.store.reads ++ [⟨m, i, .port p⟩]
        suspending := s.store.suspending || s.store.working } } := by
  have hparse : parseReadSegment [BitVec.ofNat 8 m, BitVec.ofNat 8 i] = some (m, i) := by
    have hm' : m % 256 = m := Nat.mod_eq_of_lt (by omega)
    have hi' : i % 256 = i := Nat.mod_eq_of_lt (by omega)
    simp [parseReadSegment, byteField, inRange, byteAt, hm', hi', Nat.le_of_lt_succ hm, Nat.le_of_lt_succ hi]
  have hcounts : (s.melody m).counts i = true := by
    have hsegments : (s.melody m).segmentCount = count := by
      simp [MelodySlot.segmentCount, MelodySlot.known?, hheader, hshape]
    simp [MelodySlot.counts, hstate, hsegments, hcount]
  have hserve : (s.taken p).serveReadSegment p [BitVec.ofNat 8 m, BitVec.ofNat 8 i] =
      { s.taken p with store := s.store.requestRead ⟨m, i, .port p⟩ } := by
    have hmelody : (s.taken p).melody m = s.melody m := rfl
    unfold State.serveReadSegment
    simp only [hparse, hmelody, hcounts, Bool.not_true, Bool.false_or, beq_iff_eq]
    exact if_neg hposition
  show Host.Outcome.next (s.takeRequest ..) = _
  rw [takeRequest_takes htakes, hserve, requestRead_of_room hroom]

/-! ## A READ SEGMENT completes (R157) -/

section
variable {p : Port} {m i : Nat} {rest : List ReadRequest} {noise : List Byte} {s : State}

/-- R157: the answer of a completed READ SEGMENT. -/
theorem exec_portRead (hreads : s.store.reads = ⟨m, i, .port p⟩ :: rest) (hw : s.store.working = false)
    (hrest : rest ≠ [] ∨ (s.store.state = .idle ∧ s.store.op = none)) (ha : s.engine.active = none)
    (hl : s.links.resetPending = false) {got : List Byte} {passed : Bool}
    (hgot : s.reportedBytes (s.segmentPlace m i) noise = got)
    (hpassed : ((s.segmentPlace m i).deliver noise m i).isSome = passed) :
    exec (.segmentReadCompletion noise) s = .next (({ s.withReads rest with
        freeCount := if (s.segmentPlace m i).isBlank then s.freeCount + 1 else s.freeCount } : State).modPort p
      fun q => { q with
        ready := q.ready ++ [⟨.done, 0x11, got ++ be 2 (computedCrc got).toNat ++ be 1 (if passed then 0 else 1)⟩] }) := by
  subst hgot hpassed
  let drawn : State := { s.withReads rest with
    freeCount := if (s.segmentPlace m i).isBlank then s.freeCount + 1 else s.freeCount }
  have hdrawn : (if (s.segmentPlace m i).isBlank then { s.withReads rest with freeCount := s.freeCount + 1 }
      else s.withReads rest) = drawn := by
    simp only [drawn]
    cases (s.segmentPlace m i).isBlank with
    | true => rfl
    | false => rfl
  have hserve : (s.withReads rest).portRead p m i noise = drawn.modPort p fun q => { q with
      ready := q.ready ++ [⟨.done, 0x11, s.reportedBytes (s.segmentPlace m i) noise ++
        be 2 (computedCrc (s.reportedBytes (s.segmentPlace m i) noise)).toNat ++
          be 1 (if ((s.segmentPlace m i).deliver noise m i).isSome then 0 else 1)⟩] } := by
    rw [← respond_eq p _ _ _ drawn hl, ← hdrawn]
    rfl
  rw [exec_readCompletion hreads hw]
  show Host.Outcome.next ((s.withReads rest).portRead p m i noise).afterRead.settle = _
  rw [hserve, afterRead_same (by exact hrest), settle_of_inactive _ (by exact ha)]

end

/-! ## A read of the Score Player completes (R87, R88) -/

section
variable {m i : Nat} {rest : List ReadRequest} {noise : List Byte} {s : State}

/-- R88: a place that does not pass the check delivers nothing to the Score Player. -/
theorem deliver_eq_none (h : s.segmentPlace m i = .blank ∨ (∃ bytes, s.segmentPlace m i = .spoiled bytes) ∨
      ∃ bytes, s.segmentPlace m i = .programmed bytes ∧ checkRead m i (readBytes noise bytes) = none) :
    (s.segmentPlace m i).deliver noise m i = none := by
  rcases h with h | ⟨bytes, h⟩ | ⟨bytes, h, hcheck⟩
  · rw [h]
    rfl
  · rw [h]
    rfl
  · rw [h]
    exact hcheck

/-- R85, R87: a good read fills the current buffer. -/
theorem bufferRead_good {first : Buffer} {g : Segment} (hfirst : first = .reading i ∨ first = .retrying i)
    (hplayer : s.player = ⟨first, .free, none, none⟩) :
    s.bufferRead m i (some g) = { s with player := ⟨.held g, .free, none, none⟩ } := by
  unfold State.bufferRead
  rcases hfirst with rfl | rfl
  · simp [hplayer, Buffer.complete]
  · simp [hplayer, Buffer.complete]

/-- R87: a first bad read is asked for again. -/
theorem bufferRead_retry (hplayer : s.player = ⟨.reading i, .free, none, none⟩) :
    s.bufferRead m i none =
      ({ s with player := ⟨.retrying i, .free, none, none⟩ } : State).requestSegment m i := by
  unfold State.bufferRead
  simp [hplayer, Buffer.complete]

/-- R88: a second bad read damages the slot. -/
theorem bufferRead_failed (hplayer : s.player = ⟨.retrying i, .free, none, none⟩) :
    s.bufferRead m i none = ({ s with player := ⟨.failed i, .free, none, none⟩ } : State).flagDamaged m i := by
  unfold State.bufferRead
  simp [hplayer, Buffer.complete]

end

/-- R85, R87: a good read of the segment at play fills the buffer, and the Score Player waits for its event. -/
theorem exec_bufferRead_good {c : Context} {m i : Nat} {rest : List ReadRequest} {noise bytes : List Byte}
    {g : Segment} {e : Event} {first : Buffer} {s : State}
    (hreads : s.store.reads = ⟨m, i, .buffer false⟩ :: rest) (hw : s.store.working = false)
    (hrest : rest ≠ [] ∨ (s.store.state = .idle ∧ s.store.op = none)) (ha : s.engine.active = some c)
    (hm : c.mode = .playing) (hk : c.melodyKind = some .score) (hslot : c.melody = some m)
    (hfirst : first = .reading i ∨ first = .retrying i) (hplayer : s.player = ⟨first, .free, none, none⟩)
    (hplace : s.segmentPlace m i = .programmed bytes) (hcheck : checkRead m i (readBytes noise bytes) = some g)
    (he : g.events[c.pos.event]? = some e) (hdue : s.time.clock + 400000 < c.dueAt (c.pos.tick + e.delta)) :
    exec (.segmentReadCompletion noise) s = .next { s with
      store := { s.store with reads := rest }, player := ⟨.held g, .free, none, none⟩ } := by
  have hserve : (s.withReads rest).serveRead ⟨m, i, .buffer false⟩ noise =
      { s.withReads rest with player := ⟨.held g, .free, none, none⟩ } := by
    show (s.withReads rest).bufferRead m i ((s.segmentPlace m i).deliver noise m i) = _
    rw [hplace, show SegmentPlace.deliver (.programmed bytes) noise m i = some g from hcheck]
    exact bufferRead_good hfirst hplayer
  rw [exec_readCompletion hreads hw, hserve, afterRead_same (by exact hrest)]
  exact congrArg Host.Outcome.next
    (settle_of_heldBack ha hm hk hslot rfl (by exact nofun) rfl he (.inl hdue))

/-- R88: the state after a second bad read of segment `i` of slot `m` for context `c`, its store as it then stands. -/
def State.readFailed (s : State) (c : Context) (m i : Nat) (st : Store) : State :=
  { (s.modMelody m fun x => { x with damaged := true }).raise .store with
    store := st
    player := ⟨.failed i, .free, none, none⟩
    engine := { s.engine with active := some { c with failed := i :: c.failed } } }

theorem readFailed_melody_same {s : State} {m : Nat} (h : m < s.library.slots.length) (c : Context) (i : Nat)
    (st : Store) : ((s.readFailed c m i st).melody m).damaged = true := by
  simp [State.readFailed, State.melody, State.modMelody, h]

theorem readFailed_melody_ne {s : State} {k m : Nat} (h : k ≠ m) (c : Context) (i : Nat) (st : Store) :
    (s.readFailed c m i st).melody k = s.melody k := by
  simp [State.readFailed, State.melody, State.modMelody, h.symm]

section
variable {c : Context} {m i : Nat} {rest : List ReadRequest} {noise : List Byte} {s : State}
  (hreads : s.store.reads = ⟨m, i, .buffer false⟩ :: rest) (hw : s.store.working = false)
  (ha : s.engine.active = some c) (hm : c.mode = .playing) (hk : c.melodyKind = some .score)
  (hslot : c.melody = some m) (hbad : (s.segmentPlace m i).deliver noise m i = none)
include hreads hw ha hm hk hslot hbad

/-- R87: a first bad read joins the queue again, at its tail. -/
theorem exec_bufferRead_retry (hplayer : s.player = ⟨.reading i, .free, none, none⟩) (hroom : rest.length < 8) :
    exec (.segmentReadCompletion noise) s = .next { s with
      store := { s.store with reads := rest ++ [⟨m, i, .buffer false⟩] }
      player := ⟨.retrying i, .free, none, none⟩ } := by
  have hidle : (s.store.suspending || s.store.working) = s.store.suspending := by rw [hw, Bool.or_false]
  have hserve : (s.withReads rest).serveRead ⟨m, i, .buffer false⟩ noise =
      { s.withReads (rest ++ [⟨m, i, .buffer false⟩]) with player := ⟨.retrying i, .free, none, none⟩ } := by
    show (s.withReads rest).bufferRead m i ((s.segmentPlace m i).deliver noise m i) = _
    rw [hbad, bufferRead_retry (by exact hplayer)]
    unfold State.requestSegment
    rw [requestRead_of_room (by exact hroom)]
    exact congrArg (fun x => ({ s with
      store := { s.store with reads := rest ++ [⟨m, i, .buffer false⟩], suspending := x }
      player := ⟨.retrying i, .free, none, none⟩ } : State)) hidle
  rw [exec_readCompletion hreads hw, hserve, afterRead_same (.inl (by simp [State.withReads]))]
  exact congrArg Host.Outcome.next (settle_of_outstanding ha hm hk hslot rfl rfl (.inr rfl))

omit hm hk hslot in
/-- R88: what a second bad read leaves before the Score Player goes on. -/
theorem exec_bufferRead_failed (hplayer : s.player = ⟨.retrying i, .free, none, none⟩) : ∃ st,
    exec (.segmentReadCompletion noise) s = .next (s.readFailed c m i st).settle := by
  have hserve : (s.withReads rest).serveRead ⟨m, i, .buffer false⟩ noise =
      ({ s.withReads rest with player := ⟨.failed i, .free, none, none⟩ } : State).flagDamaged m i := by
    show (s.withReads rest).bufferRead m i ((s.segmentPlace m i).deliver noise m i) = _
    rw [hbad, bufferRead_failed (by exact hplayer)]
  rw [exec_readCompletion hreads hw, hserve]
  refine ⟨(s.withReads rest).store.afterReads, congrArg (fun u : State => Host.Outcome.next u.settle) ?_⟩
  unfold State.flagDamaged State.modActive
  simp only [modMelody_engine, ha, State.withReads]
  rfl

/-- R88: after a second bad read the slot is DAMAGED and the Score Player plans no more. -/
theorem exec_bufferRead_damaged (hplayer : s.player = ⟨.retrying i, .free, none, none⟩)
    (hlt : m < s.library.slots.length) :
    ∃ t, exec (.segmentReadCompletion noise) s = .next t ∧ (t.melody m).damaged = true ∧
      (∀ k, k ≠ m → t.melody k = s.melody k) ∧ t.notices.flags.store = true ∧
      (¬ s.ownsNothing c.booking →
        t.engine = { s.engine with active := some { c with failed := i :: c.failed } } ∧ t.book = s.book ∧
        t.player = ⟨.failed i, .free, none, some .damaged⟩) ∧
      (∀ b, s.engine = ⟨some c, [], []⟩ → s.ownsNothing c.booking → s.booking? c.booking = some b →
        t.engine = ⟨none, [], []⟩ ∧ t.disposed c.booking b ⟨.scoreDamaged, none, b.current, c.counts⟩) := by
  obtain ⟨st, hexec⟩ := exec_bufferRead_failed hreads hw ha hbad hplayer
  let left : State := s.readFailed c m i st
  let done : State := left.planningDone .damaged
  have hmelody (k : Nat) : left.settle.melody k = left.melody k := by
    unfold State.melody
    rw [(settle_kept left).library]
  have hdone : left.settle = done.settle :=
    settle_of_reach (reachOne_of_failed rfl hm hk hslot rfl rfl) (reachOne_of_done (d := .damaged) rfl)
  refine ⟨left.settle, hexec, ?_, fun k hne => ?_, (settle_tidy left).flags .store rfl, fun hown => ?_,
    fun b he hown hb => ?_⟩
  · rw [hmelody, readFailed_melody_same hlt]
  · rw [hmelody, readFailed_melody_ne hne]
  · have hsettle : done.settle = done := settle_of_done rfl (Option.some_ne_none PlanningDone.damaged) hown
    rw [hdone, hsettle]
    exact ⟨rfl, rfl, rfl⟩
  · have hstack : done.engine.stack = [] := congrArg Engine.stack he
    have hwaiting : done.engine.waiting = [] := congrArg Engine.waiting he
    have hkind : c.melodyKind ≠ none := by simp [hk]
    rw [hdone]
    exact planned_ends_alone (c := { c with failed := i :: c.failed }) (d := .damaged) rfl hstack hwaiting hm hkind rfl
      hown hb

end

/-- R87: a read whose buffer was released delivers nothing. -/
theorem exec_releasedRead {m i : Nat} {rest : List ReadRequest} {s : State} (noise : List Byte)
    (hreads : s.store.reads = ⟨m, i, .buffer true⟩ :: rest) (hw : s.store.working = false)
    (hrest : rest ≠ [] ∨ (s.store.state = .idle ∧ s.store.op = none)) (ha : s.engine.active = none) :
    exec (.segmentReadCompletion noise) s = .next { s with store := { s.store with reads := rest } } := by
  rw [exec_readCompletion hreads hw]
  show Host.Outcome.next (s.withReads rest).afterRead.settle = _
  rw [afterRead_same (by exact hrest), settle_of_inactive _ (by exact ha)]
  rfl

/-- Settles O43: the check of a read (`passesChecks_iff`, `checkRead_carries`, `checkRead_of_parseSegment`), READ SEGMENT
(`exec_readSegment`) and the completions by who asked for the read (`exec_portRead`, `exec_bufferRead_good`,
`exec_bufferRead_retry`, `exec_bufferRead_damaged`, `exec_releasedRead`). -/
theorem segmentReads : Obligations.SegmentReads := by
  unfold Obligations.SegmentReads
  refine ⟨fun m i got => ⟨(checkRead_isSome ..).trans (passesChecks_iff ..), fun g => checkRead_carries,
      fun g => checkRead_of_parseSegment⟩, ?_, ?_, ?_, ?_, ?_⟩
  · intro p m i h count s hm hi htakes hstate hheader hshape hcount hposition hroom
    exact exec_readSegment hm hi htakes hstate hheader hshape hcount hposition hroom
  · intro p m i rest noise bytes s hreads hw hrest ha hl got
    refine ⟨fun hplace => ?_, fun hplace => ?_, fun hplace => ⟨s.garbage, ?_⟩⟩
    · rw [exec_portRead hreads hw hrest ha hl (by rw [hplace]) (by rw [hplace]), hplace]
      rfl
    · rw [exec_portRead hreads hw hrest ha hl (by rw [hplace]) (by rw [hplace]), hplace]
      rfl
    · rw [exec_portRead hreads hw hrest ha hl (by rw [hplace]) (by rw [hplace]), hplace]
      rfl
  · intro c m i rest noise bytes g e first s hreads hw hrest ha hm hk hslot hfirst hplayer hplace hcheck he hdue
    exact exec_bufferRead_good hreads hw hrest ha hm hk hslot hfirst hplayer hplace hcheck he hdue
  · intro c m i rest noise s hreads hw ha hm hk hslot hbad
    have hbad := deliver_eq_none hbad
    exact ⟨exec_bufferRead_retry hreads hw ha hm hk hslot hbad, exec_bufferRead_damaged hreads hw ha hm hk hslot hbad⟩
  · intro m i rest noise s hreads hw hrest ha
    exact exec_releasedRead noise hreads hw hrest ha

end Sys2Proof.Machine
end


section
/-! PROOFS. A note of the Score Player handed over (R91, R92, R94, R100, R108, R110, R128): the bell it names, what the
planner makes of it, and the arbiter that fires it beside the planning position. -/

namespace Sys2Proof.Machine

/-! ## The pitch map (R91, R92) -/

/-- A bell that a note of a pitch may name (R91, R100; log 62). -/
def State.namesBell (s : State) (q : Int) (b : Nat) : Prop := 0 ≤ q ∧ q ≤ 127 ∧ (s.bell b).named s.now q = true

theorem namesBell_iff (s : State) (q : Int) (b : Nat) : s.namesBell q b ↔ 0 ≤ q ∧ q ≤ 127 ∧
    (((s.bell b).record.present = true ∧ ((s.bell b).record.pitch : Int) = q ∧ (s.bell b).state ≠ .faulted) ∨
      (((s.bell b).state = .off ∨ (s.bell b).state = .faulted) ∧
        ∃ pitch : Nat, (s.bell b).wentOut = some (s.time.clock, pitch) ∧ (pitch : Int) = q)) :=
  and_congr_right' (and_congr_right' (named_iff (s.bell b) s.now q))

/-- A number past the last bell is no bell that a note could name. -/
theorem namesBell_lt {s : State} {q : Int} {b : Nat} (h : s.namesBell q b) : b < s.drive.bells.length := by
  by_contra hge
  have hbell : s.bell b = .initial false := by
    simp [State.bell, Nat.not_lt.1 hge]
  obtain ⟨-, -, hnamed⟩ := h
  simp [hbell, named_iff, Bell.initial, BellRecord.default] at hnamed

theorem bellFor_of_pitch {s : State} {q : Int} (h : 0 ≤ q ∧ q ≤ 127) :
    s.bellFor q = s.drive.bells.findIdx? (·.named s.now q) := if_pos h

theorem bell_eq_getElem {s : State} {b : Nat} (h : b < s.drive.bells.length) : s.bell b = s.drive.bells[b] := by
  simp [State.bell, h]

/-- R91: the lowest-numbered bell that a pitch names. -/
theorem bellFor_eq_some {s : State} {q : Int} {b : Nat}
    (h : s.namesBell q b ∧ ∀ k, k < b → ¬ s.namesBell q k) : s.bellFor q = some b := by
  obtain ⟨hnames, hfirst⟩ := h
  have hlt := namesBell_lt hnames
  obtain ⟨hlow, hhigh, hnamed⟩ := hnames
  rw [bellFor_of_pitch ⟨hlow, hhigh⟩, List.findIdx?_eq_some_iff_getElem]
  rw [bell_eq_getElem hlt] at hnamed
  refine ⟨hlt, hnamed, fun k hk hother => hfirst k hk ⟨hlow, hhigh, ?_⟩⟩
  rwa [bell_eq_getElem (hk.trans hlt)]

/-- R91: a pitch that names no bell. -/
theorem bellFor_eq_none {s : State} {q : Int} (h : ∀ b, ¬ s.namesBell q b) : s.bellFor q = none := by
  by_cases hq : 0 ≤ q ∧ q ≤ 127
  · rw [bellFor_of_pitch hq, List.findIdx?_eq_none_iff]
    intro x hx
    obtain ⟨b, hlt, rfl⟩ := List.mem_iff_getElem.1 hx
    rw [← Bool.not_eq_true]
    intro hnamed
    exact h b ⟨hq.1, hq.2, by rwa [bell_eq_getElem hlt]⟩
  · exact if_neg hq

/-- R91, R92: the bell of a pitch itself, the substitute 12 above, and the one 12 below. -/
theorem mapPitch_of_bell {s : State} {p : Int} {b : Nat} (h : s.bellFor p = some b) (substitution : Bool) :
    s.mapPitch p substitution = (some b, false) := by
  simp [State.mapPitch, h]

theorem mapPitch_without_substitution {s : State} {p : Int} (h : s.bellFor p = none) :
    s.mapPitch p false = (none, false) := by
  simp [State.mapPitch, h]

section
variable {s : State} {p : Int} {b : Nat} (h : s.bellFor p = none)
include h

theorem mapPitch_above (habove : s.bellFor (p + 12) = some b) : s.mapPitch p true = (some b, true) := by
  simp [State.mapPitch, h, habove]

theorem mapPitch_below (habove : s.bellFor (p + 12) = none) (hbelow : s.bellFor (p - 12) = some b) :
    s.mapPitch p true = (some b, true) := by
  simp [State.mapPitch, h, habove, hbelow]

theorem mapPitch_unmapped (habove : s.bellFor (p + 12) = none) (hbelow : s.bellFor (p - 12) = none) :
    s.mapPitch p true = (none, false) := by
  simp [State.mapPitch, h, habove, hbelow]

end

/-! ## The arbiter beside the planning position (R110, R128, R129) -/

/-- A change of the performance that the arbiter neither reads nor undoes. -/
def UnseenByArbiter (g : State → State) : Prop :=
  ∀ u : State, (g u).planner.queue = u.planner.queue ∧ ∀ e, (g u).fireIfEligible e = g (u.fireIfEligible e)

/-- R128: such a change may come before or after the arbiter's walk. -/
theorem UnseenByArbiter.arbiter {g : State → State} (h : UnseenByArbiter g) (s : State) :
    (g s).arbiter = g s.arbiter := by
  have hfold (l : List StrikeEntry) : ∀ u, l.foldl State.fireIfEligible (g u) = g (l.foldl State.fireIfEligible u) := by
    induction l with
    | nil => exact fun u => rfl
    | cons e l ih =>
      intro u
      rw [List.foldl_cons, (h u).2 e, ih]
      rfl
  unfold State.arbiter
  rw [(h s).1, hfold]

theorem UnseenByArbiter.comp {f g : State → State} (hf : UnseenByArbiter f) (hg : UnseenByArbiter g) :
    UnseenByArbiter fun u => g (f u) := fun u =>
  ⟨((hg _).1).trans (hf u).1, fun e => by rw [(hg _).2, (hf u).2]⟩

/-- R89: that planning is done is nothing to the arbiter. -/
theorem planningDone_unseen (d : PlanningDone) : UnseenByArbiter (State.planningDone d) := by
  refine fun u => ⟨rfl, fun e => ?_⟩
  by_cases hfire : 0 < u.drive.freeSlots ∧ u.eligible e
  · have hboth (x y : State) (hx : x.fireIfEligible e = x.fire e) (hy : y.fireIfEligible e = y.fire e)
        (h : x = y.planningDone d) : x.fireIfEligible e = (y.fireIfEligible e).planningDone d := by
      rw [hx, hy, h, fire_eq, fire_eq]
      rfl
    exact hboth _ _ (if_pos hfire) (if_pos hfire) rfl
  · exact (if_neg hfire).trans (congrArg (State.planningDone d) (if_neg hfire).symm)

section
variable {f : Context → Context} (hbooking : ∀ c, (f c).booking = c.booking)
  (hcounts : ∀ c n, f { c with counts := n } = { f c with counts := n })
include hbooking hcounts

/-- R110: a charge and a change that leaves owner and counts alone. -/
theorem countsOf_modActive (u : State) (o : Owner) (n : StrikeCounts → StrikeCounts) :
    (u.modActive f).countsOf o n = (u.countsOf o n).modActive f := by
  have hctx (c : Context) : (if o = .booking (f c).booking then { f c with counts := n (f c).counts } else f c) =
      f (if o = .booking c.booking then { c with counts := n c.counts } else c) := by
    have hsame : f c = { f c with counts := c.counts } := hcounts c c.counts
    have hown : (f c).counts = c.counts := by rw [hsame]
    rw [hbooking, hown]
    split
    · exact (hcounts c _).symm
    · rfl
  unfold State.countsOf State.modActive
  simp only [Option.map_map, Function.comp_def, hctx]

/-- R78, R129: the planning position is nothing to the arbiter. -/
theorem modActive_unseen : UnseenByArbiter (State.modActive f) := by
  refine fun u => ⟨rfl, fun e => ?_⟩
  by_cases hfire : 0 < u.drive.freeSlots ∧ u.eligible e
  · have hleft : (u.modActive f).fireIfEligible e = (u.modActive f).fire e := if_pos hfire
    have hright : u.fireIfEligible e = u.fire e := if_pos hfire
    rw [hleft, hright, fire_eq, fire_eq]
    unfold State.afterFire
    simp only [countsOf_modActive hbooking hcounts]
    rfl
  · exact (if_neg hfire).trans (congrArg (State.modActive f) (if_neg hfire).symm)

end

section
variable {s : State} {c : Context}

theorem withActive_self (ha : s.engine.active = some c) : s.withActive c = s := by
  unfold State.withActive
  rw [← ha]

/-- R110: a charge changes nothing but the counts of the performance at play, and those where it owns the strike. -/
theorem countsOf_eq (ha : s.engine.active = some c) (o : Owner) (f : StrikeCounts → StrikeCounts) : s.countsOf o f =
    s.withActive { c with counts := if o = .booking c.booking then f c.counts else c.counts } := by
  unfold State.countsOf State.modActive State.withActive
  rw [ha, Option.map_some]
  split <;> rfl

theorem countsOf_own (ha : s.engine.active = some c) (f : StrikeCounts → StrikeCounts) :
    s.countsOf (.booking c.booking) f = s.withActive { c with counts := f c.counts } := by
  rw [countsOf_eq ha, if_pos rfl]

theorem countsOf_counts (ha : s.engine.active = some c) (o : Owner) (f : StrikeCounts → StrikeCounts) :
    ∃ n, s.countsOf o f = s.withActive { c with counts := n } := ⟨_, countsOf_eq ha o f⟩

/-- R129: a fire touches the planner, the drive and the counts of the performance at play. -/
theorem fire_counts (ha : s.engine.active = some c) (e : StrikeEntry) : ∃ pl dr n,
    s.fire e = ({ s with planner := pl, drive := dr } : State).withActive { c with counts := n } := by
  obtain ⟨n, hcharge⟩ := countsOf_counts ha e.owner fun n =>
    { n with
      fired := min 65535 (n.fired + 1)
      late := if decide (20000 < s.time.clock - (e.fireTime - e.lateness)) then min 65535 (n.late + 1) else n.late }
  rw [fire_eq]
  refine ⟨(s.afterFire e).planner, (s.afterFire e).drive, n, ?_⟩
  unfold State.afterFire
  simp only [hcharge]
  rfl

/-- R128: the arbiter touches the planner, the drive and the counts of the performance at play. -/
theorem arbiter_counts (ha : s.engine.active = some c) : ∃ pl dr n,
    s.arbiter = ({ s with planner := pl, drive := dr } : State).withActive { c with counts := n } := by
  suffices hfold : ∀ (l : List StrikeEntry) (u : State),
      (∃ pl dr n, u = ({ s with planner := pl, drive := dr } : State).withActive { c with counts := n }) →
      ∃ pl dr n, l.foldl State.fireIfEligible u =
        ({ s with planner := pl, drive := dr } : State).withActive { c with counts := n } from
    hfold s.planner.queue s ⟨s.planner, s.drive, c.counts, by simp [State.withActive, ← ha]⟩
  intro l
  induction l with
  | nil => exact fun u hu => hu
  | cons e l ih =>
    rintro u ⟨pl, dr, n, rfl⟩
    refine ih _ ?_
    unfold State.fireIfEligible
    split
    · obtain ⟨pl', dr', n', heq⟩ := fire_counts (s := ({ s with planner := pl, drive := dr } : State).withActive
        { c with counts := n }) rfl e
      exact ⟨pl', dr', n', heq⟩
    · exact ⟨pl, dr, n, rfl⟩

end

/-! ## The hand-over (R100, R108, R110) -/

/-- The entry a hand-over makes: none when the queue is full (R100, stage 3). -/
def State.entryTaken (s : State) (h : HandOver) : Option StrikeEntry :=
  if 48 ≤ s.planner.queue.length then none else s.entryMade h

theorem entryTaken_of_room {s : State} (hroom : s.planner.queue.length < 48) (h : HandOver) :
    s.entryTaken h = s.entryMade h := if_neg (Nat.not_le.2 hroom)

theorem entryTaken_of_full {s : State} (hfull : 48 ≤ s.planner.queue.length) (h : HandOver) :
    s.entryTaken h = none := if_pos hfull

/-- The state with a note of context `c` taken by the planner: its entry made, or the note lost (R108, R110). -/
def State.noted (s : State) (c : Context) (substituted : Bool) (made : Option StrikeEntry) : State :=
  ({ s with planner := s.plannerWith made } : State).withActive
    { c with counts := c.counts.charged substituted made.isNone }

/-- R100, stage 2: a bell that can take a note. -/
theorem usable_eq_false_iff (b : Bell) : b.usable = false ↔ b.state = .off ∨ b.state = .faulted := by
  unfold Bell.usable
  cases b.state <;> simp

section
variable {s : State} {c : Context} {h : HandOver} (ha : s.engine.active = some c) (ho : h.owner = .booking c.booking)
include ha ho

/-- R110: a note of the performance at play is charged substituted where its bell is a substitute. -/
theorem charge_substituted : (if h.substituted then (s.setTestFilled none).charge h.owner .substituted
      else s.setTestFilled none) =
    (s.setTestFilled none).withActive { c with counts := c.counts.charged h.substituted false } := by
  rw [ho, charge_eq, countsOf_own (s := s.setTestFilled none) ha]
  cases h.substituted with
  | true => rfl
  | false => exact (withActive_self (s := s.setTestFilled none) ha).symm

omit ha in
/-- R110: a note lost is charged lost. -/
theorem charge_lost_after : ((s.setTestFilled none).withActive
      { c with counts := c.counts.charged h.substituted false }).charge h.owner .lost =
    s.noted c h.substituted none := by
  rw [ho, charge_eq, countsOf_own (c := { c with counts := c.counts.charged h.substituted false }) rfl]
  rfl

/-- R100: the planner takes a note of the performance at play. -/
theorem handOver_eq : (s.setTestFilled none).handOver h =
    (s.noted c h.substituted (s.entryTaken h), s.entryTaken h) := by
  unfold State.handOver
  simp only [charge_substituted ha ho]
  cases hb : h.bell with
  | none =>
    have hnone : s.entryTaken h = none := by simp [State.entryTaken, State.entryMade, hb]
    simp only [hnone, charge_lost_after ho]
  | some b =>
    let u : State := (s.setTestFilled none).withActive { c with counts := c.counts.charged h.substituted false }
    have hbell : u.bell b = s.bell b := rfl
    by_cases hlost : (!(u.bell b).usable || u.queueFull) = true
    · have hnone : s.entryTaken h = none := by
        rw [Bool.or_eq_true, Bool.not_eq_true', hbell, usable_eq_false_iff] at hlost
        unfold State.entryTaken State.entryMade
        rcases hlost with hout | hfull
        · simp [hb, hout]
        · exact if_pos (of_decide_eq_true hfull)
      simp only [hnone, charge_lost_after ho]
      exact if_pos hlost
    · have hmade : s.entryTaken h = planEntry (u.bell b).record u.drive.level (u.busyUntil b) u.now b h := by
        rw [Bool.or_eq_true, Bool.not_eq_true', hbell, usable_eq_false_iff, not_or] at hlost
        obtain ⟨huse, hroom⟩ := hlost
        have hroom : s.planner.queue.length < 48 := Nat.not_le.1 fun hfull => hroom (decide_eq_true hfull)
        rw [entryTaken_of_room hroom]
        simp only [State.entryMade, hb, huse, if_false]
        rfl
      refine (if_neg hlost).trans ?_
      rw [← hmade]
      cases hx : s.entryTaken h with
      | none => simp only [charge_lost_after ho]
      | some x => rfl

/-- R108: a note whose entry, if any, is still to fire. -/
theorem planNote_later (hlater : ∀ x, s.entryTaken h = some x → s.time.clock < x.fireTime) :
    s.planNote h = s.noted c h.substituted (s.entryTaken h) := by
  unfold State.planNote State.plan
  simp only [handOver_eq ha ho]
  cases hx : s.entryTaken h with
  | none => rfl
  | some x =>
    have hnot : ¬ x.fireTime ≤ (s.setTestFilled none).now := Nat.not_le.2 (hlater x hx)
    simp only [hnot, if_false]

/-- R108, R128: a note whose entry may fire now is the arbiter's at once. -/
theorem planNote_now {x : StrikeEntry} (hx : s.entryTaken h = some x) (hfire : x.fireTime ≤ s.time.clock) :
    s.planNote h = (s.noted c h.substituted (s.entryTaken h)).arbiter := by
  have hnow : x.fireTime ≤ (s.setTestFilled none).now := hfire
  unfold State.planNote State.plan
  simp only [handOver_eq ha ho, hx, hnow, if_true]

/-- R100, R110, R128: a note touches the planner, the drive and the counts of the performance at play. -/
theorem planNote_counts : ∃ pl dr n,
    s.planNote h = ({ s with planner := pl, drive := dr } : State).withActive { c with counts := n } := by
  by_cases hlater : ∀ x, s.entryTaken h = some x → s.time.clock < x.fireTime
  · rw [planNote_later ha ho hlater]
    exact ⟨_, _, _, rfl⟩
  · push Not at hlater
    obtain ⟨x, hx, hfire⟩ := hlater
    obtain ⟨pl, dr, n, heq⟩ := arbiter_counts (s := s.noted c h.substituted (s.entryTaken h)) rfl
    rw [planNote_now ha ho hx hfire, heq]
    exact ⟨pl, dr, n, rfl⟩

end

/-- R82, R83, R108, R128: a look that hands a note over and moves the performance on, after which nothing is left to
reach: the performance goes on as noted, or as the arbiter leaves it when the entry may fire now. -/
theorem settle_of_note {s v : State} {g : State → State} {c : Context} {h : HandOver} (ha : v.engine.active = some c)
    (ho : h.owner = .booking c.booking) (hg : UnseenByArbiter g) (hreach : s.reachOne = some (g (v.planNote h)))
    (hnext : ∀ pl dr n, (g (({ v with planner := pl, drive := dr } : State).withActive
      { c with counts := n })).reachOne = none) :
    ((∀ x, v.entryTaken h = some x → v.time.clock < x.fireTime) →
      s.settle = (g (v.noted c h.substituted (v.entryTaken h))).settle) ∧
    (∀ x, v.entryTaken h = some x → x.fireTime ≤ v.time.clock →
      s.settle = (g (v.noted c h.substituted (v.entryTaken h))).arbiter.settle) := by
  refine ⟨fun hlater => ?_, fun x hx hfire => ?_⟩
  · rw [planNote_later ha ho hlater] at hreach
    exact settle_of_reach hreach (hnext ..)
  · rw [planNote_now ha ho hx hfire, ← hg.arbiter] at hreach
    refine settle_of_reach hreach ?_
    obtain ⟨pl, dr, n, heq⟩ := arbiter_counts (s := v.noted c h.substituted (v.entryTaken h)) rfl
    rw [hg.arbiter, heq]
    exact hnext pl dr n

end Sys2Proof.Machine
end


section
/-! PROOFS. The events of a SCORE reached at the planning horizon (R78, R80, R81, R85, R86, R88–R90): O59. -/

namespace Sys2Proof.Machine

/-- R82, R89: PLANNING_HORIZON_REACHED lets the Score Player go on. -/
theorem exec_horizonReached (s : State) : exec .planningHorizonReached s = .next s.settle := rfl

/-- R89: a look that leaves planning done: the performance goes on while strikes of its own are left, and else ends. -/
theorem settle_when_planned {s u : State} {c : Context} {d : PlanningDone} (hreach : s.reachOne = some u)
    (ha : u.engine.active = some c) (hd : u.player.done = some d) :
    (¬ u.ownsNothing c.booking → s.settle = u) ∧
    (∀ b, c.mode = .playing → c.melodyKind ≠ none → u.ownsNothing c.booking → u.engine.stack = [] →
      u.engine.waiting = [] → u.booking? c.booking = some b →
      s.settle.engine = ⟨none, [], []⟩ ∧
        s.settle.disposed c.booking b ⟨d.ending c.pendingHalt, none, b.current, c.counts⟩) := by
  rw [settle_of_reach hreach (reachOne_of_done hd)]
  exact ⟨settle_of_done ha (by simp [hd]), fun b hm hk hown hs hw hb => planned_ends_alone ha hs hw hm hk hd hown hb⟩

/-! ## The moves of the planning position (R78, R80, R81, R86) -/

/-- R78: the context with its planning position past an event reached at `tick`. -/
def Context.moveOn (tick : Nat) (c : Context) : Context :=
  c.moveTo { c.pos with event := c.pos.event + 1, tick := tick }

/-- R86: the context with its planning position at the head of the following segment. -/
def Context.moveIn (tick : Nat) (c : Context) : Context := c.moveTo ⟨c.pos.segment + 1, 0, tick, 0⟩

/-- R78, R129: moving on is nothing to the arbiter. -/
theorem moveOn_unseen (tick : Nat) : UnseenByArbiter (State.modActive (Context.moveOn tick)) :=
  modActive_unseen (fun _ => rfl) fun _ _ => rfl

/-- R79, R80: due times after the origin was rebased. -/
theorem dueAt_rebase (c : Context) (tick tempo delta : Nat) :
    (c.rebase tick tempo).dueAt (tick + delta) = c.dueAt tick + delta * tickLength tempo :=
  congrArg (fun d => c.dueAt tick + d * tickLength tempo) (Nat.add_sub_cancel_left tick delta)

section
variable {s : State} {c : Context} {slot tick count : Nat} (ha : s.engine.active = some c)
include ha

/-- R78: within a segment the position moves on. -/
theorem advance_within (h : c.pos.event + 1 < count) :
    s.advance slot tick count = s.modActive (Context.moveOn tick) := by
  unfold State.advance State.modActive
  simp only [ha, if_pos h]
  rfl

/-- R86: past the last event of a segment planning enters the following one. -/
theorem advance_segment (hseg : c.pos.segment + 1 < (s.melody slot).segmentCount) :
    s.advance slot tick (c.pos.event + 1) =
      (s.withActive (c.moveIn tick)).enterSegment (c.moveIn tick) slot (c.pos.segment + 1) := by
  unfold State.advance State.modActive
  simp only [ha, lt_irrefl, if_false, if_pos hseg]
  rfl

/-- R81: past the last event of a score of one segment, with repeats left, the next repetition begins. -/
theorem advance_repetition (hone : (s.melody slot).segmentCount = 1) (hrep : c.repeatNo < c.repeats)
    (hhalt : c.pendingHalt ≠ some .atEnd) :
    s.advance slot tick (c.pos.event + 1) = s.withActive (c.newRepetition tick) := by
  have hseg : ¬ c.pos.segment + 1 < (s.melody slot).segmentCount := by omega
  have hone : ((s.modActive fun _ => c.newRepetition tick).melody slot).segmentCount = 1 := hone
  unfold State.advance
  simp only [ha, lt_irrefl, if_false, if_neg hseg, hrep, hhalt, ne_eq, not_false_eq_true, and_self, if_true, hone]
  unfold State.modActive
  rw [ha]
  rfl

/-- R89: past the last event of all, planning is done. -/
theorem advance_end (hseg : (s.melody slot).segmentCount ≤ c.pos.segment + 1)
    (hlast : c.repeats ≤ c.repeatNo ∨ c.pendingHalt = some .atEnd) :
    s.advance slot tick (c.pos.event + 1) = (s.withActive (c.moveOn tick)).planningDone .complete := by
  have hmore : ¬ (c.repeatNo < c.repeats ∧ c.pendingHalt ≠ some .atEnd) := by
    rintro ⟨hrep, hhalt⟩
    exact hlast.elim hrep.not_ge hhalt
  unfold State.advance State.modActive
  simp only [ha, lt_irrefl, if_false, if_neg (Nat.not_lt.2 hseg), if_neg hmore]
  rfl

end

/-! ## The buffers at the entry of a segment (R85, R86, R88) -/

/-- R88: entering a segment that failed ends the planning. -/
theorem enterSegment_failed {s : State} {k : Nat} (hnext : s.player.next = .failed k) (c : Context)
    (slot segment : Nat) : s.enterSegment c slot segment = s.planningDone .damaged := by
  unfold State.enterSegment
  simp only [hnext]

/-- R86: the buffers change roles, and the freed one takes the segment after. -/
theorem enterSegment_reading {s : State} {i : Nat} (hnext : s.player.next = .reading i)
    (hstop : s.player.stopPoint = none) (c : Context) (slot segment : Nat) : s.enterSegment c slot segment =
      ({ s with player := { s.player with cur := .reading i, next := .free } } : State).prefetch c slot segment := by
  unfold State.enterSegment
  simp [hnext, hstop]

section
variable {s : State} {c : Context} {slot segment : Nat}

theorem prefetch_nothing (hf : s.following c slot segment = none) : s.prefetch c slot segment = s := by
  unfold State.prefetch
  simp only [hf]

/-- R85, R170: the segment that follows is read into the next buffer. -/
theorem prefetch_reading {f : Nat} (hf : s.following c slot segment = some f) (hne : f ≠ segment)
    (hgood : f ∉ c.failed) (hroom : s.store.reads.length < 8) : s.prefetch c slot segment = { s with
      player := { s.player with next := .reading f }
      store := { s.store with
        reads := s.store.reads ++ [⟨slot, f, .buffer false⟩]
        suspending := s.store.suspending || s.store.working } } := by
  unfold State.prefetch
  simp only [hf, if_neg hne, if_neg hgood]
  unfold State.requestSegment
  exact congrArg (fun st : Store => ({ s with player := { s.player with next := .reading f }, store := st } : State))
    (requestRead_of_room hroom _)

/-- R86: what follows a segment is another segment of the score. -/
theorem following_ne {f : Nat} (h : s.following c slot (segment + 1) = some f) : f ≠ segment + 1 := by
  unfold State.following at h
  split at h
  · simp only [Option.some.injEq] at h
    omega
  · split at h
    · simp only [Option.some.injEq] at h
      omega
    · simp at h

end

/-! ## The stop point and a segment that failed (R88, R90) -/

section
variable {s : State} {c : Context} {slot : Nat} (ha : s.engine.active = some c) (hm : c.mode = .playing)
  (hk : c.melodyKind = some .score) (hslot : c.melody = some slot) (hd : s.player.done = none)
include ha hm hk hslot hd

/-- R89, R90: at the stop point planning is done and the buffers are let go. -/
theorem horizon_at_stopPoint (hstop : s.player.stopPoint = some (c.repeatNo, c.pos.segment, c.pos.event))
    (hcur : ∀ k, s.player.cur ≠ .failed k) :
    (¬ s.ownsNothing c.booking → exec .planningHorizonReached s = .next { s with
      player := ⟨.free, .free, some (c.repeatNo, c.pos.segment, c.pos.event), some .complete⟩
      store := s.store.releaseReads (fun _ => true) }) ∧
    (∀ b, s.ownsNothing c.booking → s.engine.stack = [] → s.engine.waiting = [] →
      s.booking? c.booking = some b → c.pendingHalt ≠ none →
      s.settle.engine = ⟨none, [], []⟩ ∧ s.settle.disposed c.booking b ⟨.halted, none, b.current, c.counts⟩) := by
  obtain ⟨hgoes, hends⟩ := settle_when_planned (reachOne_of_stopHere ha hm hk hslot hd hstop hcur) ha
    (d := .complete) rfl
  refine ⟨fun hown => ?_, fun b hown hs hw hb hhalt => ?_⟩
  · rw [exec_horizonReached, hgoes hown, ← hstop]
    rfl
  · have hhalted : PlanningDone.complete.ending c.pendingHalt = .halted :=
      if_pos (Option.isSome_iff_ne_none.2 hhalt)
    rw [← hhalted]
    exact hends b hm (by simp [hk]) hown hs hw hb

/-- R88: at a segment that failed planning is done as DAMAGED. -/
theorem horizon_at_failed {k : Nat} (hcur : s.player.cur = .failed k) :
    (¬ s.ownsNothing c.booking → exec .planningHorizonReached s = .next (s.planningDone .damaged)) ∧
    (∀ b, s.ownsNothing c.booking → s.engine.stack = [] → s.engine.waiting = [] →
      s.booking? c.booking = some b →
      s.settle.engine = ⟨none, [], []⟩ ∧
        s.settle.disposed c.booking b ⟨.scoreDamaged, none, b.current, c.counts⟩) := by
  obtain ⟨hgoes, hends⟩ := settle_when_planned (reachOne_of_failed ha hm hk hslot hd hcur) ha (d := .damaged) rfl
  refine ⟨fun hown => ?_, fun b hown hs hw hb => hends b hm (by simp [hk]) hown hs hw hb⟩
  rw [exec_horizonReached, hgoes hown]

end

/-! ## One event of a held segment -/

section
variable {s : State} {c : Context} {slot : Nat} {seg : Segment} (ha : s.engine.active = some c)
  (hm : c.mode = .playing) (hk : c.melodyKind = some .score) (hslot : c.melody = some slot)
  (hd : s.player.done = none) (hcur : s.player.cur = .held seg)
include ha hm hk hslot hd hcur

section
variable {delta : Nat} (hstop : s.player.stopPoint ≠ some (c.repeatNo, c.pos.segment, c.pos.event))
  (hdue : ¬ s.heldBack (c.dueAt (c.pos.tick + delta)))
include hstop hdue

/-- R78: an event that only moves the position: a REST, a PHRASE, a NOTE of strength 0. -/
theorem reachOne_of_silent {e : Event} (he : seg.events[c.pos.event]? = some e)
    (hsilent : e = .rest delta ∨ e = .phrase delta ∨ ∃ pitch, e = .note pitch 0 delta) :
    s.reachOne = some (s.advance slot (c.pos.tick + delta) seg.events.length) := by
  have hreach (hdelta : e.delta = delta) :=
    reachOne_of_event ha hm hk hslot hd hstop hcur he (by rwa [hdelta])
  rcases hsilent with rfl | rfl | ⟨pitch, rfl⟩
  · exact hreach rfl
  · exact hreach rfl
  · exact hreach rfl

/-- R78: the last event of a segment, a REST. -/
theorem reachOne_of_last_rest (he : seg.events[c.pos.event]? = some (.rest delta))
    (hlen : seg.events.length = c.pos.event + 1) :
    s.reachOne = some (s.advance slot (c.pos.tick + delta) (c.pos.event + 1)) := by
  rw [reachOne_of_silent ha hm hk hslot hd hcur hstop hdue he (.inl rfl), hlen]

end

variable {delta : Nat} (hstop : s.player.stopPoint = none)
include hstop

omit ha in
/-- R82, R83, R89: the same performance at a context whose next event is held back rests. -/
theorem settle_withActive_heldBack {x : Context} {e : Event} (hsame : x.mode = c.mode ∧ x.melodyKind = c.melodyKind ∧
      x.melody = c.melody) (he : seg.events[x.pos.event]? = some e)
    (hdue : s.heldBack (x.dueAt (x.pos.tick + e.delta))) :
    (s.withActive x).reachOne = none ∧ (s.withActive x).settle = s.withActive x := by
  obtain ⟨hmode, hkind, hmelody⟩ := hsame
  have hstop : (s.withActive x).player.stopPoint ≠ some (x.repeatNo, x.pos.segment, x.pos.event) := by
    simp [State.withActive, hstop]
  exact ⟨reachOne_of_heldBack rfl (hmode.trans hm) (hkind.trans hk) (hmelody.trans hslot) hd hstop hcur he hdue,
    settle_of_heldBack rfl (hmode.trans hm) (hkind.trans hk) (hmelody.trans hslot) hd hstop hcur he hdue⟩

/-- R78: past a silent event within the segment, the next one beyond the horizon. -/
theorem horizon_of_silent {e e2 : Event} (hdue : ¬ s.heldBack (c.dueAt (c.pos.tick + delta)))
    (he : seg.events[c.pos.event]? = some e) (he2 : seg.events[c.pos.event + 1]? = some e2)
    (hsilent : e = .rest delta ∨ e = .phrase delta ∨ ∃ pitch, e = .note pitch 0 delta)
    (hbeyond : s.time.clock + 400000 < c.dueAt (c.pos.tick + delta + e2.delta)) :
    exec .planningHorizonReached s = .next (s.withActive (c.moveOn (c.pos.tick + delta))) := by
  have hreach := reachOne_of_silent ha hm hk hslot hd hcur (by simp [hstop]) hdue he hsilent
  have hmoved : s.advance slot (c.pos.tick + delta) seg.events.length =
      s.withActive (c.moveOn (c.pos.tick + delta)) := by
    rw [advance_within ha (List.getElem?_eq_some_iff.1 he2).1]
    unfold State.modActive
    rw [ha]
    rfl
  obtain ⟨hnext, hrests⟩ := settle_withActive_heldBack hm hk hslot hd hcur hstop
    (x := c.moveOn (c.pos.tick + delta)) ⟨rfl, rfl, rfl⟩ he2 (.inl hbeyond)
  rw [exec_horizonReached, settle_of_reach (hreach.trans (congrArg some hmoved)) hnext, hrests]

/-- R80: a TEMPO rebases the time origin at its tick and takes its clamped value. -/
theorem horizon_of_tempo {v : Nat} {e2 : Event} (hdue : ¬ s.heldBack (c.dueAt (c.pos.tick + delta)))
    (he : seg.events[c.pos.event]? = some (.tempo v delta)) (he2 : seg.events[c.pos.event + 1]? = some e2)
    (hbeyond : s.time.clock + 400000 < c.dueAt (c.pos.tick + delta) + e2.delta * tickLength (clampTempo v)) :
    exec .planningHorizonReached s =
      .next (s.withActive ((c.rebase (c.pos.tick + delta) (clampTempo v)).moveOn (c.pos.tick + delta))) := by
  have hreach := reachOne_of_event ha hm hk hslot hd (by simp [hstop]) hcur he hdue
  let x : Context := c.rebase (c.pos.tick + delta) (clampTempo v)
  have hmoved : (s.modActive (·.rebase (c.pos.tick + delta) (clampTempo v))).advance slot (c.pos.tick + delta)
      seg.events.length = s.withActive (x.moveOn (c.pos.tick + delta)) := by
    have hrebased : s.modActive (·.rebase (c.pos.tick + delta) (clampTempo v)) = s.withActive x := by
      unfold State.modActive
      rw [ha]
      rfl
    rw [hrebased, advance_within (c := x) rfl (List.getElem?_eq_some_iff.1 he2).1]
    rfl
  rw [← dueAt_rebase] at hbeyond
  obtain ⟨hnext, hrests⟩ := settle_withActive_heldBack hm hk hslot hd hcur hstop
    (x := x.moveOn (c.pos.tick + delta)) ⟨rfl, rfl, rfl⟩ he2 (.inl hbeyond)
  rw [exec_horizonReached, settle_of_reach (hreach.trans (congrArg some hmoved)) hnext, hrests]

/-! ## The last event of a segment (R81, R86, R88, R89) -/

section
variable (hdue : ¬ s.heldBack (c.dueAt (c.pos.tick + delta)))
  (he : seg.events[c.pos.event]? = some (.rest delta)) (hlen : seg.events.length = c.pos.event + 1)
include hdue he hlen

/-- R86: planning enters the next segment, still being read, and the freed buffer takes the one after. -/
theorem horizon_enters_segment (hseg : c.pos.segment + 1 < (s.melody slot).segmentCount)
    (hnext : s.player.next = .reading (c.pos.segment + 1)) (hroom : s.store.reads.length < 8) {after : Option Nat}
    (hafter : s.following c slot (c.pos.segment + 1) = after) (hgood : ∀ f, after = some f → f ∉ c.failed) :
    s.settle.engine = { s.engine with active := some (c.moveIn (c.pos.tick + delta)) } ∧
      s.settle.player = ⟨.reading (c.pos.segment + 1), after.elim .free .reading, none, none⟩ ∧
      s.settle.store.reads = s.store.reads ++ after.elim [] (fun f => [⟨slot, f, .buffer false⟩]) ∧
      s.settle.planner = s.planner ∧ s.settle.book = s.book ∧ s.settle.notices = s.notices ∧
      s.settle.time = s.time := by
  let x : Context := c.moveIn (c.pos.tick + delta)
  let v : State := { s.withActive x with player := ⟨.reading (c.pos.segment + 1), .free, none, none⟩ }
  have hroles : ({ s.withActive x with
      player := { s.player with cur := .reading (c.pos.segment + 1), next := .free } } : State) = v := by
    simp only [hstop, hd, v]
  have hentered : s.advance slot (c.pos.tick + delta) (c.pos.event + 1) = v.prefetch x slot (c.pos.segment + 1) := by
    rw [advance_segment ha hseg, enterSegment_reading (s := s.withActive x) hnext hstop, ← hroles]
    rfl
  have hreach := (reachOne_of_last_rest ha hm hk hslot hd hcur (by simp [hstop]) hdue he hlen).trans
    (congrArg some hentered)
  have hfollowing : v.following x slot (c.pos.segment + 1) = after := hafter
  have hwaits {u : State} (hu : v.prefetch x slot (c.pos.segment + 1) = u) (hact : u.engine.active = some x)
      (hcur : u.player.cur = .reading (c.pos.segment + 1)) (hdone : u.player.done = none)
      (hnostop : u.player.stopPoint = none) : s.settle = u := by
    rw [hu] at hreach
    rw [settle_of_reach hreach (reachOne_of_outstanding hact hm hk hslot hdone hnostop (.inl hcur)),
      settle_of_outstanding hact hm hk hslot hdone hnostop (.inl hcur)]
  cases after with
  | none =>
    rw [hwaits (prefetch_nothing hfollowing) rfl rfl rfl rfl]
    exact ⟨rfl, rfl, (List.append_nil _).symm, rfl, rfl, rfl, rfl⟩
  | some f =>
    rw [hwaits (prefetch_reading hfollowing (following_ne hfollowing) (hgood f rfl) hroom) rfl rfl rfl rfl]
    exact ⟨rfl, rfl, rfl, rfl, rfl, rfl, rfl⟩

/-- R81: the next repetition of a score of one segment begins at the tick of its end, at the performance's own
tempo. -/
theorem horizon_begins_repetition {first : Event} (hone : (s.melody slot).segmentCount = 1)
    (hrep : c.repeatNo < c.repeats) (hhalt : c.pendingHalt ≠ some .atEnd) (hfirst : seg.events[0]? = some first)
    (hbeyond : s.time.clock + 400000 < c.dueAt (c.pos.tick + delta) + first.delta * tickLength c.tempo) :
    exec .planningHorizonReached s = .next (s.withActive (c.newRepetition (c.pos.tick + delta))) := by
  have hreach := (reachOne_of_last_rest ha hm hk hslot hd hcur (by simp [hstop]) hdue he hlen).trans
    (congrArg some (advance_repetition ha hone hrep hhalt))
  rw [← dueAt_rebase] at hbeyond
  obtain ⟨hnext, hrests⟩ := settle_withActive_heldBack hm hk hslot hd hcur hstop
    (x := c.newRepetition (c.pos.tick + delta)) ⟨rfl, rfl, rfl⟩ hfirst (.inl hbeyond)
  rw [exec_horizonReached, settle_of_reach hreach hnext, hrests]

/-- R89: past the end of the last repetition planning is done. -/
theorem horizon_at_end (hseg : (s.melody slot).segmentCount ≤ c.pos.segment + 1)
    (hlast : c.repeats ≤ c.repeatNo ∨ c.pendingHalt = some .atEnd) :
    (¬ s.ownsNothing c.booking → exec .planningHorizonReached s =
      .next ((s.withActive (c.moveOn (c.pos.tick + delta))).planningDone .complete)) ∧
    (∀ b, s.ownsNothing c.booking → s.engine.stack = [] → s.engine.waiting = [] →
      s.booking? c.booking = some b →
      s.settle.engine = ⟨none, [], []⟩ ∧ s.settle.disposed c.booking b
        ⟨if c.pendingHalt = none then .played else .halted, none, b.current, c.counts⟩) := by
  have hreach := (reachOne_of_last_rest ha hm hk hslot hd hcur (by simp [hstop]) hdue he hlen).trans
    (congrArg some (advance_end ha hseg hlast))
  obtain ⟨hgoes, hends⟩ := settle_when_planned hreach (c := c.moveOn (c.pos.tick + delta)) (d := .complete) rfl rfl
  have hending : PlanningDone.complete.ending c.pendingHalt =
      if c.pendingHalt = none then .played else .halted := by
    unfold PlanningDone.ending
    cases c.pendingHalt <;> rfl
  refine ⟨fun hown => congrArg Host.Outcome.next (hgoes hown), fun b hown hs hw hb => ?_⟩
  rw [← hending]
  exact hends b hm (by simp [Context.moveOn, Context.moveTo, hk]) hown hs hw hb

end

omit hstop

/-- R88: at the entry of a segment that failed planning is done as DAMAGED, a stop point at its first event
notwithstanding. -/
theorem horizon_enters_failed {k : Nat}
    (hstop : s.player.stopPoint ≠ some (c.repeatNo, c.pos.segment, c.pos.event))
    (hdue : ¬ s.heldBack (c.dueAt (c.pos.tick + delta))) (he : seg.events[c.pos.event]? = some (.rest delta))
    (hlen : seg.events.length = c.pos.event + 1) (hseg : c.pos.segment + 1 < (s.melody slot).segmentCount)
    (hnext : s.player.next = .failed k) (hown : ¬ s.ownsNothing c.booking) :
    exec .planningHorizonReached s =
      .next ((s.withActive (c.moveIn (c.pos.tick + delta))).planningDone .damaged) := by
  have hreach := (reachOne_of_last_rest ha hm hk hslot hd hcur hstop hdue he hlen).trans
    (congrArg some ((advance_segment ha hseg).trans
      (enterSegment_failed (s := s.withActive (c.moveIn (c.pos.tick + delta))) hnext ..)))
  exact congrArg Host.Outcome.next
    ((settle_when_planned hreach (c := c.moveIn (c.pos.tick + delta)) (d := .damaged) rfl rfl).1 hown)

end

end Sys2Proof.Machine
end


section
/-! PROOFS. Notes, tolls and live events reached at the planning horizon (R78, R82, R83, R91–R97, R100, R108, R142,
R144): O59. -/

namespace Sys2Proof.Machine

/-! ## The sounding NOTE of a SCORE (R78, R83, R100) -/

section
variable {s : State} {c : Context} {slot : Nat} {seg : Segment} {pitch strength delta : Nat} {e2 : Event}
  (ha : s.engine.active = some c) (hm : c.mode = .playing) (hk : c.melodyKind = some .score)
  (hslot : c.melody = some slot) (hd : s.player.done = none) (hstop : s.player.stopPoint = none)
  (hcur : s.player.cur = .held seg) (he : seg.events[c.pos.event]? = some (.note pitch strength delta))
include ha hm hk hslot hd hstop hcur he

/-- R83: at a full queue the Score Player stalls. -/
theorem horizon_of_stalled_note (hfull : 48 ≤ s.planner.queue.length)
    (hfilled : s.planner.testFilled ≠ some s.time.clock) : exec .planningHorizonReached s = .next s :=
  congrArg Host.Outcome.next
    (settle_of_heldBack ha hm hk hslot hd (by simp [hstop]) hcur he (.inr ⟨hfull, hfilled⟩))

variable (hsound : strength ≠ 0) (he2 : seg.events[c.pos.event + 1]? = some e2)
  (hdue : ¬ s.heldBack (c.dueAt (c.pos.tick + delta)))
  (hbeyond : s.time.clock + 400000 < c.dueAt (c.pos.tick + delta + e2.delta))
include hsound he2 hdue hbeyond

/-- R78, R82, R100, R108: the note is the planner's, the planning position moves on, and the next event lies beyond
the horizon. -/
theorem horizon_of_note {h : HandOver} {made : Option StrikeEntry}
    (hh : s.noteOf c pitch strength (c.dueAt (c.pos.tick + delta)) (c.scorePos (c.pos.tick + delta)) = h)
    (hmade : s.entryTaken h = made) :
    let tick := c.pos.tick + delta
    let noted : State := (s.noted c h.substituted made).modActive (Context.moveOn tick)
    ((∀ x, made = some x → s.time.clock < x.fireTime) → exec .planningHorizonReached s = .next noted) ∧
    (∀ x, made = some x → x.fireTime ≤ s.time.clock →
      exec .planningHorizonReached s = exec .fireTimeReached noted) := by
  intro tick noted
  subst hmade
  have howner : h.owner = .booking c.booking := hh ▸ rfl
  have hacted : (s.actEvent c (.note pitch strength delta) tick (c.dueAt tick) (c.scorePos tick)) = s.planNote h :=
    (if_neg hsound).trans (congrArg (fun h => s.planNote h) hh)
  have hmoved : (s.planNote h).advance slot tick seg.events.length = (s.planNote h).modActive (Context.moveOn tick) := by
    obtain ⟨pl, dr, n, heq⟩ := planNote_counts ha howner
    rw [heq]
    exact advance_within (c := { c with counts := n }) rfl (List.getElem?_eq_some_iff.1 he2).1
  have hreach : s.reachOne = some ((s.planNote h).modActive (Context.moveOn tick)) := by
    rw [reachOne_of_event ha hm hk hslot hd (by simp [hstop]) hcur he hdue, ← hmoved, ← hacted]
    rfl
  have hrest (pl : Planner) (dr : Drive) (n : StrikeCounts) := settle_withActive_heldBack
    (s := { s with planner := pl, drive := dr }) (x := Context.moveOn tick { c with counts := n }) hm hk hslot hd hcur
    hstop ⟨rfl, rfl, rfl⟩ he2 (.inl hbeyond)
  obtain ⟨hlater, hnow⟩ := settle_of_note ha howner (moveOn_unseen tick) hreach fun pl dr n => (hrest pl dr n).1
  refine ⟨fun hx => ?_, fun x hx hfire => congrArg Host.Outcome.next (hnow x hx hfire)⟩
  exact congrArg Host.Outcome.next ((hlater hx).trans (hrest ..).2)

end

/-! ## Tolls (R95, R96) -/

/-- R95: the context with its planning position at the next toll. -/
def Context.nextToll (c : Context) : Context :=
  { c with pos := { c.pos with number := c.pos.number + 1 }, repeatNo := c.tollRepetition (c.pos.number + 1) }

/-- R96: the context with its planning position past the last toll. -/
def Context.pastTolls (c : Context) : Context := { c with pos := { c.pos with number := c.pos.number + 1 } }

theorem nextToll_unseen : UnseenByArbiter (State.modActive Context.nextToll) :=
  modActive_unseen (fun _ => rfl) fun _ _ => rfl

theorem pastTolls_unseen : UnseenByArbiter fun u => (u.modActive Context.pastTolls).planningDone .complete :=
  (modActive_unseen (f := Context.pastTolls) (fun _ => rfl) fun _ _ => rfl).comp (planningDone_unseen .complete)

section
variable {s : State} {c : Context} (ha : s.engine.active = some c)
include ha

theorem advanceToll_next (h : c.pos.number < c.lastToll) : s.advanceToll = s.modActive Context.nextToll := by
  unfold State.advanceToll State.modActive
  simp only [ha, if_neg (Nat.not_lt.2 h)]
  rfl

theorem advanceToll_last (h : c.lastToll ≤ c.pos.number) :
    s.advanceToll = (s.modActive Context.pastTolls).planningDone .complete := by
  unfold State.advanceToll State.modActive
  simp only [ha, if_pos (Nat.lt_succ_of_le h)]
  rfl

end

theorem tollOf_eq {s : State} {c : Context} {slot pitch strength interval : Nat} {mode : CountMode} {d : MelodyHeader}
    (hslot : c.melody = some slot) (hknown : (s.melody slot).known? = some d)
    (hshape : d.shape = .toll pitch strength interval mode) : s.tollOf c = some (pitch, strength, interval) := by
  unfold State.tollOf
  simp only [hslot, hknown, hshape]

section
variable {s : State} {c : Context} {pitch strength interval : Nat} (ha : s.engine.active = some c)
  (hm : c.mode = .playing) (hk : c.melodyKind = some .toll) (hd : s.player.done = none)
  (htoll : s.tollOf c = some (pitch, strength, interval))
include ha hm hk hd htoll

/-- R82, R83, R96: the Score Player looks at the toll at its position. -/
theorem reachOne_of_toll : s.reachOne =
    if s.stalled || !s.inHorizon (c.tollDue interval c.pos.number) then none
    else some (s.planNote (s.noteOf c pitch strength (c.tollDue interval c.pos.number)
      ⟨0, 0, 0, 0, c.pos.number⟩)).advanceToll := by
  simp [State.reachOne, ha, hm, hk, hd, State.reachToll, htoll]

/-- R82, R83, R89: a TOLL whose next toll is held back rests. -/
theorem toll_rests (hdue : s.heldBack (c.tollDue interval c.pos.number)) : s.reachOne = none ∧ s.settle = s := by
  have hreach : s.reachOne = none := by
    rw [reachOne_of_toll ha hm hk hd htoll]
    exact if_pos ((heldBack_iff ..).1 hdue)
  exact ⟨hreach, settle_of_none s hreach (endDue_of_planning ha (by simp [hk]) hd)⟩

theorem reachOne_of_toll_due (hdue : ¬ s.heldBack (c.tollDue interval c.pos.number)) : s.reachOne =
    some (s.planNote (s.noteOf c pitch strength (c.tollDue interval c.pos.number)
      ⟨0, 0, 0, 0, c.pos.number⟩)).advanceToll := by
  rw [reachOne_of_toll ha hm hk hd htoll]
  exact if_neg (mt (heldBack_iff ..).2 hdue)

/-- R95, R96, R100, R108: the toll is the planner's, and the next one lies beyond the horizon. -/
theorem horizon_of_toll (hdue : ¬ s.heldBack (c.tollDue interval c.pos.number)) (hmore : c.pos.number < c.lastToll)
    (hbeyond : s.time.clock + 400000 < c.tollDue interval (c.pos.number + 1)) {h : HandOver}
    (hh : s.noteOf c pitch strength (c.tollDue interval c.pos.number) ⟨0, 0, 0, 0, c.pos.number⟩ = h)
    {made : Option StrikeEntry} (hmade : s.entryTaken h = made) :
    let tolled : State := (s.noted c h.substituted made).modActive Context.nextToll
    ((∀ x, made = some x → s.time.clock < x.fireTime) → exec .planningHorizonReached s = .next tolled) ∧
    (∀ x, made = some x → x.fireTime ≤ s.time.clock →
      exec .planningHorizonReached s = exec .fireTimeReached tolled) := by
  intro tolled
  subst hmade
  have howner : h.owner = .booking c.booking := hh ▸ rfl
  have hmoved : (s.planNote h).advanceToll = (s.planNote h).modActive Context.nextToll := by
    obtain ⟨pl, dr, n, heq⟩ := planNote_counts ha howner
    rw [heq]
    exact advanceToll_next (c := { c with counts := n }) rfl hmore
  have hreach : s.reachOne = some ((s.planNote h).modActive Context.nextToll) := by
    rw [reachOne_of_toll_due ha hm hk hd htoll hdue, hh, hmoved]
  have hrest (pl : Planner) (dr : Drive) (n : StrikeCounts) := toll_rests
    (s := ({ s with planner := pl, drive := dr } : State).withActive (Context.nextToll { c with counts := n }))
    (c := Context.nextToll { c with counts := n }) (interval := interval) rfl hm hk hd htoll (.inl hbeyond)
  obtain ⟨hlater, hnow⟩ := settle_of_note ha howner nextToll_unseen hreach fun pl dr n => (hrest pl dr n).1
  refine ⟨fun hx => ?_, fun x hx hfire => congrArg Host.Outcome.next (hnow x hx hfire)⟩
  exact congrArg Host.Outcome.next ((hlater hx).trans (hrest ..).2)

end

/-- R98: an entry stands in the queue it was put in. -/
theorem mem_insertEntry (e : StrikeEntry) (l : List StrikeEntry) : e ∈ insertEntry e l := by
  induction l with
  | nil => exact List.mem_singleton_self e
  | cons x xs ih =>
    unfold insertEntry
    split
    · exact List.mem_cons_self
    · exact List.mem_cons_of_mem x ih

/-- R101: an entry is owned as its hand-over was. -/
theorem planEntry_owner {r : BellRecord} {level : BankLevel} {busy : Option Nat} {now b : Nat} {h : HandOver}
    {x : StrikeEntry} (hx : planEntry r level busy now b h = some x) : x.owner = h.owner := by
  unfold planEntry at hx
  dsimp only at hx
  split at hx
  · cases hx
  · split at hx
    · cases hx
    · cases hx
      rfl

theorem entryTaken_owner {s : State} {h : HandOver} {x : StrikeEntry} (hx : s.entryTaken h = some x) :
    x.owner = h.owner := by
  unfold State.entryTaken State.entryMade at hx
  split at hx
  · cases hx
  · split at hx
    · cases hx
    · split at hx
      · cases hx
      · exact planEntry_owner hx

/-- R89, R100: the performance has strikes left after a note that was planned, and after one lost as before it. -/
theorem noted_owns {s : State} {c : Context} {h : HandOver} (ho : h.owner = .booking c.booking)
    (hown : s.entryTaken h ≠ none ∨ ¬ s.ownsNothing c.booking) (substituted : Bool) :
    ¬ (s.noted c substituted (s.entryTaken h)).ownsNothing c.booking := by
  cases hx : s.entryTaken h with
  | none => exact hown.resolve_left fun hsome => hsome hx
  | some x =>
    intro hnothing
    exact hnothing x (mem_insertEntry x s.planner.queue) ((entryTaken_owner hx).trans ho)

section
variable {s : State} {c : Context} {pitch strength interval : Nat} (ha : s.engine.active = some c)
  (hm : c.mode = .playing) (hk : c.melodyKind = some .toll) (hd : s.player.done = none)
  (htoll : s.tollOf c = some (pitch, strength, interval))
include ha hm hk hd htoll

/-- R89, R96: the last toll is the planner's, and planning is done. -/
theorem horizon_of_last_toll (hdue : ¬ s.heldBack (c.tollDue interval c.pos.number))
    (hlast : c.lastToll ≤ c.pos.number) {h : HandOver}
    (hh : s.noteOf c pitch strength (c.tollDue interval c.pos.number) ⟨0, 0, 0, 0, c.pos.number⟩ = h)
    {made : Option StrikeEntry} (hmade : s.entryTaken h = made) :
    let tolled : State := ((s.noted c h.substituted made).modActive Context.pastTolls).planningDone .complete
    ((∀ x, made = some x → s.time.clock < x.fireTime) →
      (made ≠ none ∨ ¬ s.ownsNothing c.booking) → exec .planningHorizonReached s = .next tolled) ∧
    (∀ x, made = some x → x.fireTime ≤ s.time.clock →
      exec .planningHorizonReached s = exec .fireTimeReached tolled) := by
  intro tolled
  subst hmade
  have howner : h.owner = .booking c.booking := hh ▸ rfl
  have hmoved : (s.planNote h).advanceToll =
      ((s.planNote h).modActive Context.pastTolls).planningDone .complete := by
    obtain ⟨pl, dr, n, heq⟩ := planNote_counts ha howner
    rw [heq]
    exact advanceToll_last (c := { c with counts := n }) rfl hlast
  have hreach : s.reachOne = some (((s.planNote h).modActive Context.pastTolls).planningDone .complete) := by
    rw [reachOne_of_toll_due ha hm hk hd htoll hdue, hh, hmoved]
  obtain ⟨hlater, hnow⟩ := settle_of_note ha howner pastTolls_unseen hreach
    fun pl dr n => reachOne_of_done (d := .complete) rfl
  refine ⟨fun hx hown => ?_, fun x hx hfire => congrArg Host.Outcome.next (hnow x hx hfire)⟩
  exact congrArg Host.Outcome.next ((hlater hx).trans
    (settle_of_done (s := tolled) rfl (Option.some_ne_none PlanningDone.complete) (noted_owns howner hown h.substituted)))

end

/-! ## Live events (R97, R142, R144) -/

theorem afterTaking_unseen (tick due : Nat) : UnseenByArbiter (State.afterTaking tick due) :=
  modActive_unseen (fun _ => rfl) fun _ _ => rfl

/-- R188: a raise under a condition, in one update. -/
theorem raiseIf_eq (b : Bool) (n : Notice) (s : State) : s.raiseIf b n =
    { s with notices := if b then { s.notices with flags := s.notices.flags.set n } else s.notices } := by
  cases b <;> rfl

/-- R142, R145: the state with the head of the stream queue taken: the rest is left, its emptying starts the idle
time, and at 8 or fewer left FEED is raised. -/
def State.headTaken (l : LiveFeed) (rest : List Event) (s : State) : State :=
  { s with
    live := some { l with queue := rest, idle := if rest = [] then ⟨0, some s.time.clock⟩ else l.idle }
    notices := if decide (rest.length ≤ 8) then { s.notices with flags := s.notices.flags.set .feed }
      else s.notices }

theorem takeHead_eq {s : State} {l : LiveFeed} (hl : s.live = some l) (hopen : l.mode = .opened) (rest : List Event) :
    s.takeHead rest = s.headTaken l rest := by
  have htake : l.take rest s.now =
      { l with queue := rest, idle := if rest = [] then ⟨0, some s.time.clock⟩ else l.idle } := by
    unfold LiveFeed.take
    cases rest with
    | nil => simp [hopen, IdleTime.startAt, State.now]
    | cons e rest => simp
  unfold State.takeHead
  rw [raiseIf_eq, hl, Option.map_some, htake]
  rfl

section
variable {s : State} {c : Context} {l : LiveFeed} (ha : s.engine.active = some c) (hm : c.mode = .playing)
  (hk : c.melodyKind = none) (hd : s.player.done = none) (hl : s.live = some l)
include ha hm hk hd hl

/-- R82, R83, R142: the Score Player looks at the head of a stream in OPEN. -/
theorem reachOne_of_live {e : Event} {rest : List Event} (hopen : l.mode = .opened) (hq : l.queue = e :: rest)
    (hdue : ¬ s.heldBack (c.dueAt (c.pos.tick + e.delta))) : s.reachOne =
    (let tick := c.pos.tick + e.delta
     some (((s.takeHead rest).actEvent c e tick (c.dueAt tick) ⟨0, 0, 0, 0, c.pos.number + 1⟩).afterTaking tick
       (c.dueAt tick))) := by
  have hheld : (s.stalled || !s.inHorizon (c.dueAt (c.pos.tick + e.delta))) = false :=
    Bool.eq_false_iff.2 (mt (heldBack_iff ..).2 hdue)
  have hstopped : (l.mode == .stopped || s.stalled || !s.inHorizon (c.dueAt (c.pos.tick + e.delta))) = false := by
    rw [Bool.or_assoc, hheld, hopen]
    rfl
  simp [State.reachOne, ha, hm, hk, hd, State.reachLive, hl, hq, hstopped]

/-- R82, R89, R142, R143: a stream in OPEN that is empty, or whose head lies beyond the horizon, rests. -/
theorem live_rests (hopen : l.mode = .opened)
    (hbeyond : ∀ e, l.queue.head? = some e → s.time.clock + 400000 < c.dueAt (c.pos.tick + e.delta)) :
    s.reachOne = none ∧ s.settle = s := by
  have hreach : s.reachOne = none := by
    cases hq : l.queue with
    | nil => exact reachOne_of_live_empty ha hk hl hq
    | cons e rest =>
      have hheld : (s.stalled || !s.inHorizon (c.dueAt (c.pos.tick + e.delta))) = true :=
        (heldBack_iff ..).1 (.inl (hbeyond e (by rw [hq]; rfl)))
      simp only [State.reachOne, ha, hm, hk, hd, State.reachLive, hl, hq, Bool.or_assoc, hheld, Bool.or_true]
      rfl
  refine ⟨hreach, settle_of_none s hreach ?_⟩
  simp [State.endDue, ha, hk, hl, LiveFeed.ending, hopen]

section
variable {delta : Nat} {rest : List Event} (hopen : l.mode = .opened) (hroom : s.planner.queue.length < 48)
  (hdue : c.dueAt (c.pos.tick + delta) ≤ s.time.clock + 400000)
  (hbeyond : ∀ e, rest.head? = some e →
    s.time.clock + 400000 < c.dueAt (c.pos.tick + delta + e.delta))
include hopen hroom hdue hbeyond

omit ha hl hroom hdue in
/-- R142: with the head taken, the stream rests, whatever planner, drive and counts are by then. -/
theorem live_rests_after (pl : Planner) (dr : Drive) (n : StrikeCounts) :
    let u := ({ s.headTaken l rest with planner := pl, drive := dr }.withActive { c with counts := n }).afterTaking
      (c.pos.tick + delta) (c.dueAt (c.pos.tick + delta))
    u.reachOne = none ∧ u.settle = u :=
  live_rests rfl hm hk hd rfl hopen hbeyond

/-- R142, R144: a live REST is taken. -/
theorem horizon_of_live_rest (hq : l.queue = .rest delta :: rest) :
    let tick := c.pos.tick + delta
    exec .planningHorizonReached s =
      .next (((s.headTaken l rest).withActive c).afterTaking tick (c.dueAt tick)) := by
  intro tick
  have hreach : s.reachOne = some (((s.headTaken l rest).withActive c).afterTaking tick (c.dueAt tick)) := by
    rw [reachOne_of_live ha hm hk hd hl hopen hq (not_heldBack hdue (.inl hroom)), takeHead_eq hl hopen,
      withActive_self (s := s.headTaken l rest) ha]
    rfl
  obtain ⟨hnext, hrests⟩ := live_rests_after hm hk hd hopen hbeyond s.planner s.drive c.counts
  exact congrArg Host.Outcome.next ((settle_of_reach hreach hnext).trans hrests)

/-- R97, R100, R108, R142, R144: a sounding live NOTE is taken and is the planner's. -/
theorem horizon_of_live_note {pitch strength : Nat} (hsound : strength ≠ 0)
    (hq : l.queue = .note pitch strength delta :: rest) {h : HandOver}
    (hh : s.noteOf c pitch strength (c.dueAt (c.pos.tick + delta)) ⟨0, 0, 0, 0, c.pos.number + 1⟩ = h)
    {made : Option StrikeEntry} (hmade : s.entryTaken h = made) :
    let tick := c.pos.tick + delta
    let noted : State := ((s.headTaken l rest).noted c h.substituted made).afterTaking tick (c.dueAt tick)
    ((∀ x, made = some x → s.time.clock < x.fireTime) → exec .planningHorizonReached s = .next noted) ∧
    (∀ x, made = some x → x.fireTime ≤ s.time.clock →
      exec .planningHorizonReached s = exec .fireTimeReached noted) := by
  intro tick noted
  subst hmade
  have howner : h.owner = .booking c.booking := hh ▸ rfl
  have hacted : (s.headTaken l rest).actEvent c (.note pitch strength delta) tick (c.dueAt tick)
      ⟨0, 0, 0, 0, c.pos.number + 1⟩ = (s.headTaken l rest).planNote h :=
    (if_neg hsound).trans (congrArg (fun h => (s.headTaken l rest).planNote h) hh)
  have hreach : s.reachOne = some (((s.headTaken l rest).planNote h).afterTaking tick (c.dueAt tick)) := by
    rw [reachOne_of_live ha hm hk hd hl hopen hq (not_heldBack hdue (.inl hroom)), takeHead_eq hl hopen, ← hacted]
    rfl
  have hrest := live_rests_after hm hk hd hopen hbeyond
  obtain ⟨hlater, hnow⟩ := settle_of_note (v := s.headTaken l rest) ha howner (afterTaking_unseen tick (c.dueAt tick))
    hreach fun pl dr n => (hrest pl dr n).1
  refine ⟨fun hx => ?_, fun x hx hfire => congrArg Host.Outcome.next (hnow x hx hfire)⟩
  exact congrArg Host.Outcome.next ((hlater hx).trans (hrest ..).2)

end

end

end Sys2Proof.Machine
end


section
/-! PROOFS. PLANNING_HORIZON_REACHED (R78–R97, R100, R108, R142, R144): O59. -/

namespace Sys2Proof.Machine

/-- Settles O59: the pitch map (`bellFor_eq_some`, `mapPitch_above`, `mapPitch_below`), a note of a SCORE
(`horizon_of_note`), the stop point and failed segments (`horizon_at_stopPoint`, `horizon_at_failed`,
`horizon_enters_failed`), the other events and the ends of segments (`horizon_of_silent` to `horizon_at_end`), tolls
(`horizon_of_toll`, `horizon_of_last_toll`) and live events (`horizon_of_live_rest`, `horizon_of_live_note`). -/
theorem noteIsPlannedAtTheHorizon : Obligations.NoteIsPlannedAtTheHorizon := by
  unfold Obligations.NoteIsPlannedAtTheHorizon
  refine ⟨?_, ?_, ?_, ?_, ?_, ?_⟩
  · intro s p substitution
    simp only [← namesBell_iff]
    refine ⟨fun b hb => mapPitch_of_bell (bellFor_eq_some hb) substitution, fun hp => ?_⟩
    have hp : s.bellFor p = none := bellFor_eq_none hp
    refine ⟨?_, ?_⟩
    · rintro rfl
      exact mapPitch_without_substitution hp
    · rintro rfl
      refine ⟨fun b hb => mapPitch_above hp (bellFor_eq_some hb), fun habove => ?_⟩
      have habove : s.bellFor (p + 12) = none := bellFor_eq_none habove
      exact ⟨fun b hb => mapPitch_below hp habove (bellFor_eq_some hb),
        fun hbelow => mapPitch_unmapped hp habove (bellFor_eq_none hbelow)⟩
  · intro c slot pitch strength delta seg e2 s ha hm hk hslot hd hstop hcur he hsound he2 tick T due hdue hbeyond
      bell made noted
    have hnote (hreach) {made} := horizon_of_note ha hm hk hslot hd hstop hcur he hsound he2
      (not_heldBack hdue hreach) hbeyond rfl (made := made)
    refine ⟨fun hroom => hnote (.inl hroom) (entryTaken_of_room hroom _), fun hfull =>
      ⟨horizon_of_stalled_note ha hm hk hslot hd hstop hcur he hfull, fun hfilled => ?_⟩⟩
    obtain ⟨hlost, -⟩ := hnote (.inr hfilled) (entryTaken_of_full hfull _)
    exact hlost fun x hx => nomatch hx
  · intro c slot s ha hm hk hslot hd here
    refine ⟨fun hstop hcur => ?_, fun k hcur => ?_, ?_⟩
    · obtain ⟨hgoes, hends⟩ := horizon_at_stopPoint ha hm hk hslot hd hstop hcur
      exact ⟨hgoes, fun b hown hs hw hb hhalt => ⟨_, rfl, hends b hown hs hw hb hhalt⟩⟩
    · obtain ⟨hgoes, hends⟩ := horizon_at_failed ha hm hk hslot hd hcur
      exact ⟨hgoes, fun b hown hs hw hb => ⟨_, rfl, hends b hown hs hw hb⟩⟩
    · intro seg k delta hcur hnext hstop hseg hroom he hlen tick hdue hown
      refine horizon_enters_failed ha hm hk hslot hd hcur ?_ (not_heldBack hdue (.inl hroom)) he hlen hseg hnext hown
      simp [hstop]
  · intro c slot delta seg s ha hm hk hslot hd hstop hcur tick due hdue hroom
    have hdue := not_heldBack hdue (.inl hroom)
    refine ⟨fun e e2 he he2 hsilent hbeyond =>
        horizon_of_silent ha hm hk hslot hd hcur hstop hdue he he2 hsilent hbeyond,
      fun v e2 he he2 hbeyond => horizon_of_tempo ha hm hk hslot hd hcur hstop hdue he he2 hbeyond,
      fun he hlen => ⟨?_, fun k hseg hnext hown => ?_,
        fun first hone hfront hrep hhalt hfirst hbeyond =>
          horizon_begins_repetition ha hm hk hslot hd hcur hstop hdue he hlen hone hrep hhalt hfirst hbeyond,
        fun hseg hlast => ?_⟩⟩
    · intro hseg hnext hreads after hgood
      have hafter : s.following c slot (c.pos.segment + 1) = after := rfl
      clear_value after
      have hentered :=
        horizon_enters_segment ha hm hk hslot hd hcur hstop hdue he hlen hseg hnext hreads hafter hgood
      refine ⟨s.settle, rfl, ?_⟩
      cases after with
      | none => exact hentered
      | some f => exact hentered
    · exact horizon_enters_failed ha hm hk hslot hd hcur (by simp [hstop]) hdue he hlen hseg hnext hown
    · obtain ⟨hgoes, hends⟩ := horizon_at_end ha hm hk hslot hd hcur hstop hdue he hlen hseg hlast
      exact ⟨hgoes, fun b hown hs hw hb => ⟨_, rfl, hends b hown hs hw hb⟩⟩
  · intro c slot pitch strength interval mode h s ha hm hk hslot hd hknown hshape k due last bell made hdue hroom later
    have htoll := tollOf_eq hslot hknown hshape
    have hdue := not_heldBack hdue (.inl hroom)
    have hnow (hnot : ¬ later) : ∃ x, made = some x ∧ x.fireTime ≤ s.time.clock := by
      simpa [later] using hnot
    refine ⟨fun hmore hbeyond => ?_, fun hlast => ?_⟩
    · obtain ⟨hlater, hfires⟩ := horizon_of_toll ha hm hk hd htoll hdue hmore hbeyond rfl
        (entryTaken_of_room hroom _)
      refine ⟨hlater, fun hnot => ?_⟩
      obtain ⟨x, hx, hfire⟩ := hnow hnot
      exact hfires x hx hfire
    · obtain ⟨hlater, hfires⟩ := horizon_of_last_toll ha hm hk hd htoll hdue hlast rfl
        (entryTaken_of_room hroom _)
      refine ⟨hlater, fun hnot => ?_⟩
      obtain ⟨x, hx, hfire⟩ := hnow hnot
      exact hfires x hx hfire
  · intro c l e rest s ha hm hk hd hl hopen hq tick T due taken hdue hroom hbeyond
    refine ⟨?_, ?_⟩
    · rintro delta rfl
      rw [raiseIf_eq]
      exact horizon_of_live_rest ha hm hk hd hl hopen hroom hdue hbeyond hq
    · rintro pitch strength delta rfl hsound bell made noted
      have hnoted : noted = _ := raiseIf_eq ..
      rw [hnoted]
      exact horizon_of_live_note ha hm hk hd hl hopen hroom hdue hbeyond hsound hq rfl (entryTaken_of_room hroom _)

end Sys2Proof.Machine
end


section
/-! PROOFS. The arithmetic of a strike (R101–R107): O51 and O52. -/

namespace Sys2Proof.Machine

/-! ## Interpolation over the strengths (R103) -/

/-- R103: the share of a range, in units of 100 µs, that strength `e` takes of it: none at 1, all of it at 31. -/
def strengthShare (range e : Nat) : Nat := 100 * range * (e - 1) / 30

theorem flightTime_eq (r : BellRecord) (e : Nat) : flightTime r e = 100 * r.flo - strengthShare (r.flo - r.fhi) e := rfl

theorem pulseWidth_eq (r : BellRecord) (e : Nat) :
    pulseWidth r e = 100 * r.wmin + strengthShare (r.wmax - r.wmin) e := rfl

theorem strengthShare_one (range : Nat) : strengthShare range 1 = 0 := by simp [strengthShare]

theorem strengthShare_full (range : Nat) : strengthShare range 31 = 100 * range := by simp [strengthShare]

theorem strengthShare_mono (range : Nat) {e e' : Nat} (h : e ≤ e') :
    strengthShare range e ≤ strengthShare range e' :=
  Nat.div_le_div_right (Nat.mul_le_mul_left _ (Nat.sub_le_sub_right h 1))

theorem strengthShare_le (range : Nat) {e : Nat} (h : e ≤ 31) : strengthShare range e ≤ 100 * range :=
  (strengthShare_mono range h).trans_eq (strengthShare_full range)

/-- Settles O51: both interpolations add or take away one share that grows with the strength
(`strengthShare_mono`), from nothing to the whole range. -/
theorem flightAndPulseInterpolate : Obligations.FlightAndPulseInterpolate := by
  unfold Obligations.FlightAndPulseInterpolate
  intro r hflight hwidth
  simp only [flightTime_eq, pulseWidth_eq, strengthShare_one, strengthShare_full]
  refine ⟨by omega, by omega, by omega, by omega, fun e e' _ hle htop => ?_⟩
  have hf := strengthShare_mono (r.flo - r.fhi) hle
  have hw := strengthShare_mono (r.wmax - r.wmin) hle
  have hf' := strengthShare_le (r.flo - r.fhi) htop
  have hw' := strengthShare_le (r.wmax - r.wmin) htop
  omega

/-! ## What the planner makes of a note (R100, stages 4 and 5) -/

/-- R101: the effective strength in one expression. -/
theorem effectiveStrength_eq (strength volume emin : Nat) (level : BankLevel) :
    effectiveStrength strength volume emin level = max emin (
      if level = .normal then max 1 (min 31 ((strength * volume + 8) / 16))
      else max 1 (max 1 (min 31 ((strength * volume + 8) / 16)) * 3 / 4)) := by
  cases level <;> rfl

theorem effectiveStrength_range (strength volume : Nat) {emin : Nat} (level : BankLevel) (h : emin ≤ 31) :
    emin ≤ effectiveStrength strength volume emin level ∧ effectiveStrength strength volume emin level ≤ 31 := by
  rw [effectiveStrength_eq]
  split <;> omega

/-- The strike that the planner makes of a note that the checks let pass with a fire time and a lateness (R99). -/
def HandOver.strike (h : HandOver) (r : BellRecord) (bell strength : Nat) (x : Nat × Nat) : StrikeEntry where
  bell := bell
  owner := h.owner
  pos := h.pos
  due := h.due
  flight := flightTime r strength
  fireTime := x.1
  lateness := x.2
  late := 20000 < x.2
  strength := strength
  width := pulseWidth r strength

/-- The latest of ideal fire time, restrike bound and now. -/
def latestFire (busy : Option Nat) (now ideal : Nat) : Nat := max (max ideal (busy.getD 0)) now

/-- R106, R107: the two checks move the fire time to the latest of ideal fire time, restrike bound and now, and lose
a note that either would move too far. -/
theorem checks_eq (busy : Option Nat) (now ideal : Nat) :
    (restrikeCheck busy ideal).bind (fun x => latenessCheck now x.1 x.2) =
      if busy.getD 0 ≤ ideal + 30000 ∧ latestFire busy now ideal - ideal ≤ 250000 then
        some (latestFire busy now ideal, latestFire busy now ideal - ideal)
      else none := by
  have hlate (fire : Nat) (hfire : fire = max ideal (busy.getD 0)) : latenessCheck now fire (fire - ideal) =
      if latestFire busy now ideal - ideal ≤ 250000 then
        some (latestFire busy now ideal, latestFire busy now ideal - ideal)
      else none := by
    have hsum : fire - ideal + (now - fire) = latestFire busy now ideal - ideal := by unfold latestFire; omega
    have hmax : max now fire = latestFire busy now ideal := by unfold latestFire; omega
    simp only [latenessCheck, Config.dropLimit, hsum, hmax]
  cases busy with
  | none => simpa [restrikeCheck] using hlate ideal (by simp)
  | some p =>
    unfold restrikeCheck
    simp only [Option.getD_some, Config.restrikeShift] at hlate ⊢
    by_cases hp : p ≤ ideal
    · have hshift : p ≤ ideal + 30000 := by omega
      simpa [hp, hshift] using hlate ideal (by omega)
    · by_cases hshift : p ≤ ideal + 30000
      · have hmoved : p - ideal ≤ 30000 := by omega
        simpa [hp, hshift, hmoved] using hlate p (by omega)
      · have hmoved : ¬ p - ideal ≤ 30000 := by omega
        simp [hp, hshift, hmoved]

section
variable {r : BellRecord} {level : BankLevel} {busy : Option Nat} {now bell e ideal : Nat} {h : HandOver}
  (he : effectiveStrength h.strength h.volume r.emin level = e) (hideal : h.due - flightTime r e = ideal)
include he hideal

/-- R101–R107: a note is planned when both checks let it pass, and then as they move it. -/
theorem planEntry_eq : planEntry r level busy now bell h =
    ((restrikeCheck busy ideal).bind fun x => latenessCheck now x.1 x.2).map (h.strike r bell e) := by
  subst he hideal
  unfold planEntry idealFire
  dsimp only
  cases restrikeCheck busy (h.due - flightTime r (effectiveStrength h.strength h.volume r.emin level)) with
  | none => rfl
  | some x =>
    dsimp only [Option.bind_some]
    cases latenessCheck now x.1 x.2 <;> rfl

theorem planEntry_of_pass (hshift : busy.getD 0 ≤ ideal + 30000)
    (hdrop : latestFire busy now ideal - ideal ≤ 250000) : planEntry r level busy now bell h =
      some (h.strike r bell e (latestFire busy now ideal, latestFire busy now ideal - ideal)) := by
  rw [planEntry_eq he hideal, checks_eq, if_pos ⟨hshift, hdrop⟩]
  rfl

theorem planEntry_of_fail (hlost : ideal + 30000 < busy.getD 0 ∨ 250000 < latestFire busy now ideal - ideal) :
    planEntry r level busy now bell h = none := by
  rw [planEntry_eq he hideal, checks_eq, if_neg (by omega)]
  rfl

/-- R106, R107: the figures of a note planned. -/
theorem planEntry_eq_some {x : StrikeEntry} (hx : planEntry r level busy now bell h = some x) :
    latestFire busy now ideal - ideal ≤ 250000 ∧
      x = h.strike r bell e (latestFire busy now ideal, latestFire busy now ideal - ideal) := by
  rw [planEntry_eq he hideal, checks_eq] at hx
  split at hx
  · rename_i hpass
    exact ⟨hpass.2, (Option.some.inj hx).symm⟩
  · cases hx

end

/-- Settles O52: the two checks in one expression (`checks_eq`), and the figures of the entry they let pass
(`planEntry_eq_some`). -/
theorem plannedEntryKeepsTheBounds : Obligations.PlannedEntryKeepsTheBounds := by
  unfold Obligations.PlannedEntryKeepsTheBounds
  refine ⟨fun r level busy now bell h x hr _ hmin hx => ?_, fun r level busy now bell h => ?_⟩
  · obtain ⟨hdrop, rfl⟩ := planEntry_eq_some rfl rfl hx
    obtain ⟨hlow, hhigh⟩ := effectiveStrength_range h.strength h.volume level hmin
    have hf := strengthShare_le (r.flo - r.fhi) hhigh
    have hw := strengthShare_le (r.wmax - r.wmin) hhigh
    simp only [BellRecord.consistent, Bool.and_eq_true, decide_eq_true_eq] at hr
    obtain ⟨⟨hflight, hwidth⟩, -⟩ := hr
    have hbusy (b : Nat) (hb : busy = some b) : busy.getD 0 = b := by rw [hb]; rfl
    simp only [HandOver.strike, flightTime_eq, pulseWidth_eq, latestFire, true_and] at hdrop ⊢
    refine ⟨hlow, hhigh, rfl, rfl, by omega, by omega, by omega, by omega, by omega, fun b hb => ?_, by omega, hdrop,
      rfl⟩
    rw [← hbusy b hb]
    omega
  · have he := effectiveStrength_eq h.strength h.volume r.emin level
    refine ⟨fun hshift hdrop => ⟨_, planEntry_of_pass he rfl ?_ hdrop, rfl, rfl, rfl⟩,
      fun hlost => planEntry_of_fail he rfl ?_⟩
    · cases busy with
      | none => exact Nat.zero_le _
      | some p => exact hshift p rfl
    · rcases hlost with ⟨p, rfl, hp⟩ | hlate
      · exact .inl hp
      · exact .inr hlate

end Sys2Proof.Machine
end


section
/-! PROOFS. Strikes that leave unfired (R110, R114, R115, R130): O53 and O58. -/

namespace Sys2Proof.Machine

/-! ## The latest of what remains (R115) -/

/-- R115: the latest of the fire times that remain to a bell, each plus 1,000 × H. -/
def State.latestRemaining (s : State) (b : Nat) : Option Nat :=
  ((s.lastFire b).toList.map (· + 1000 * (s.bell b).record.h)
    ++ (s.planner.queue.filter (·.bell == b)).map (·.fireTime + 1000 * (s.bell b).record.h)).max?

theorem laterOf_foldl (f : StrikeEntry → Nat) (l : List StrikeEntry) (x : Nat) :
    l.foldl (fun acc e => laterOf acc (some (f e))) (some x) = some ((l.map f).foldl max x) := by
  induction l generalizing x with
  | nil => rfl
  | cons e l ih => exact ih (max x (f e))

theorem laterOf_foldl_eq_max? (f : StrikeEntry → Nat) (l : List StrikeEntry) (x : Option Nat) :
    l.foldl (fun acc e => laterOf acc (some (f e))) x = (x.toList ++ l.map f).max? := by
  cases x with
  | some x => exact laterOf_foldl f l x
  | none =>
    cases l with
    | nil => rfl
    | cons e l => exact laterOf_foldl f l (f e)

theorem remainingBusy_eq (s : State) (b : Nat) : s.remainingBusy b = s.latestRemaining b := by
  unfold State.remainingBusy State.latestRemaining
  rw [laterOf_foldl_eq_max?, Option.toList_map]
  rfl

/-! ## Restrike bounds recomputed (R115) -/

section
variable {s : State}

theorem busyUntil_setBusy_self {b : Nat} (h : b < s.planner.busyUntil.length) (v : Option Nat) :
    (s.setBusy b v).busyUntil b = v := by
  simp [State.setBusy, State.busyUntil, h]

theorem busyUntil_setBusy_ne {b k : Nat} (h : k ≠ b) (v : Option Nat) :
    (s.setBusy b v).busyUntil k = s.busyUntil k := by
  simp [State.setBusy, State.busyUntil, List.getD_eq_getElem?_getD, List.getElem?_set_ne h.symm]

end

/-- R115: the bounds of the bells of the entries that left, recomputed one after another. -/
theorem recomputeBusy_foldl (gone : List StrikeEntry) (b : Nat) (u : State) (hb : b < u.planner.busyUntil.length) :
    let t := gone.foldl (fun u e => u.recomputeBusy e.bell) u
    ((∃ e ∈ gone, e.bell = b) → t.busyUntil b = u.latestRemaining b) ∧
      ((∀ e ∈ gone, e.bell ≠ b) → t.busyUntil b = u.busyUntil b) := by
  induction gone generalizing u with
  | nil => exact ⟨fun ⟨e, he, _⟩ => absurd he (by simp), fun _ => rfl⟩
  | cons e gone ih =>
    obtain ⟨hgone, hkept⟩ := ih (u.recomputeBusy e.bell) (by simpa [State.recomputeBusy, State.setBusy] using hb)
    rw [List.foldl_cons]
    refine ⟨fun hsome => ?_, fun hnone => ?_⟩
    · by_cases hrest : ∃ x ∈ gone, x.bell = b
      · exact hgone hrest
      · obtain ⟨x, hx, hxb⟩ := hsome
        have he : e.bell = b := by
          rcases List.mem_cons.1 hx with rfl | hx
          · exact hxb
          · exact absurd ⟨x, hx, hxb⟩ hrest
        rw [hkept fun x hx hxb => hrest ⟨x, hx, hxb⟩, he]
        exact (busyUntil_setBusy_self hb _).trans (remainingBusy_eq u b)
    · obtain ⟨he, hrest⟩ := List.forall_mem_cons.1 hnone
      rw [hkept hrest]
      exact busyUntil_setBusy_ne (Ne.symm he) _

/-- Settles O53: the bounds of exactly the bells whose entries left are recomputed (`recomputeBusy_foldl`), each to the
latest of what remains (`remainingBusy_eq`). -/
theorem restrikeBoundIsRecomputed : Obligations.RestrikeBoundIsRecomputed := by
  unfold Obligations.RestrikeBoundIsRecomputed
  intro pick b s hb
  let left : State := { s with planner := { s.planner with queue := s.planner.queue.filter fun e => !pick e } }
  have hqueue : (s.removeStrikes pick).planner.queue = left.planner.queue := by
    obtain ⟨pl, heq, hqueue⟩ := removeStrikes_eq pick s
    rw [heq]
    exact hqueue
  obtain ⟨hgone, hkept⟩ := recomputeBusy_foldl (s.planner.queue.filter pick) b left hb
  refine ⟨hqueue, fun ⟨e, he, hpick, heb⟩ => ?_, fun hnone => hkept fun e he => ?_⟩
  · rw [hqueue]
    exact hgone ⟨e, List.mem_filter.2 ⟨he, hpick⟩, heb⟩
  · obtain ⟨he, hpick⟩ := List.mem_filter.1 he
    exact hnone e he hpick

/-! ## Entries of one bell that leave (R114, R115) -/

/-- The state with its strike queue changed. -/
def State.withQueue (queue : List StrikeEntry) (s : State) : State :=
  { s with planner := { s.planner with queue := queue } }

/-- R115: a restrike bound recomputed twice. -/
theorem recomputeBusy_setBusy (u : State) (b : Nat) (v : Option Nat) :
    (u.setBusy b v).recomputeBusy b = u.setBusy b (u.latestRemaining b) := by
  unfold State.recomputeBusy
  rw [setBusy_setBusy, remainingBusy_eq]
  rfl

/-- R115: entries of one bell leave, and its bound is recomputed. -/
theorem removeStrikes_of_bell {s : State} {pick : StrikeEntry → Bool} {e : StrikeEntry} (he : e ∈ s.planner.queue)
    (hpick : pick e = true) (hone : ∀ x ∈ s.planner.queue, pick x = true → x.bell = e.bell) :
    let left := s.withQueue (s.planner.queue.filter fun x => !pick x)
    s.removeStrikes pick = left.setBusy e.bell (left.latestRemaining e.bell) := by
  intro left
  have hfold (l : List StrikeEntry) (hl : ∀ x ∈ l, x.bell = e.bell) :
      l.foldl (fun u x => u.recomputeBusy x.bell) (left.setBusy e.bell (left.latestRemaining e.bell)) =
        left.setBusy e.bell (left.latestRemaining e.bell) := by
    induction l with
    | nil => rfl
    | cons x l ih =>
      obtain ⟨hx, hl⟩ := List.forall_mem_cons.1 hl
      rw [List.foldl_cons, hx, recomputeBusy_setBusy, ih hl]
  have hgone (x : StrikeEntry) (hx : x ∈ s.planner.queue.filter pick) : x.bell = e.bell :=
    hone x (List.mem_filter.1 hx).1 (List.mem_filter.1 hx).2
  show (s.planner.queue.filter pick).foldl (fun u x => u.recomputeBusy x.bell) left = _
  cases hl : s.planner.queue.filter pick with
  | nil => exact absurd (hl ▸ List.mem_filter.2 ⟨he, hpick⟩ : e ∈ []) (by simp)
  | cons x l =>
    rw [hl] at hgone
    obtain ⟨hx, hrest⟩ := List.forall_mem_cons.1 hgone
    have hfirst : left.recomputeBusy e.bell = left.setBusy e.bell (left.latestRemaining e.bell) :=
      congrArg (left.setBusy e.bell) (remainingBusy_eq left e.bell)
    rw [List.foldl_cons, hx, hfirst, hfold l hrest]

/-- R114, R115, R130: the state after an entry has been dropped. -/
def State.afterDrop (s : State) (e : StrikeEntry) : State :=
  let left := s.withQueue (s.planner.queue.filter (· ≠ e))
  (left.setBusy e.bell (left.latestRemaining e.bell)).countsOf e.owner fun n =>
    { n with lost := min 65535 (n.lost + 1) }

theorem dropEntry_eq {s : State} {e : StrikeEntry} (he : e ∈ s.planner.queue) : s.dropEntry e = s.afterDrop e := by
  have hleft : (fun x : StrikeEntry => !(x == e)) = fun x => decide (x ≠ e) :=
    funext fun x => by rw [decide_not, beq_eq_decide]
  have hremoved := removeStrikes_of_bell (s := s.countsOf e.owner (·.add .lost)) (pick := (· == e)) he
    (beq_self_eq_true e) fun x _ hx => by rw [eq_of_beq hx]
  unfold State.dropEntry State.afterDrop
  rw [charge_eq, hremoved, hleft]
  rfl

/-- R82, R89: the counts of a performance are nothing to whether it rests. -/
theorem rests_countsOf {s : State} (h : s.rests) (o : Owner) (f : StrikeCounts → StrikeCounts) :
    (s.countsOf o f).rests := by
  cases ha : s.engine.active with
  | none => exact fun c hc => by simp [State.countsOf, State.modActive, ha] at hc
  | some c =>
    rw [countsOf_eq ha]
    intro x hx
    cases hx
    exact h c ha

/-! ## ENTRY_DROP (R114, R130) -/

theorem expired_eq_true_iff {x : StrikeEntry} {now : Nat} :
    x.expired now = true ↔ 250000 < now - (x.fireTime - x.lateness) := decide_eq_true_iff

theorem expired_eq_false {x : StrikeEntry} {now : Nat} (h : now - (x.fireTime - x.lateness) ≤ 250000) :
    ¬ x.expired now = true := fun hx => absurd (expired_eq_true_iff.1 hx) (Nat.not_lt.2 h)

theorem exec_entryDrop {s : State} {e : StrikeEntry} {front rest : List StrikeEntry}
    (hqueue : s.planner.queue = front ++ e :: rest)
    (hfront : ∀ x ∈ front, s.time.clock - (x.fireTime - x.lateness) ≤ 250000)
    (hlate : 250000 < s.time.clock - (e.fireTime - e.lateness)) :
    exec .entryDrop s = .next (s.afterDrop e).settle := by
  have hfind : s.planner.queue.find? (·.expired s.now) = some e := by
    have hpassed : front.find? (·.expired s.now) = none :=
      List.find?_eq_none.2 fun x hx => expired_eq_false (hfront x hx)
    rw [hqueue, List.find?_append, hpassed, Option.none_or]
    exact List.find?_cons_of_pos (expired_eq_true_iff.2 hlate)
  have hdrop : s.dropEntry e = s.afterDrop e := dropEntry_eq (by simp [hqueue])
  show Host.Outcome.next _ = _
  rw [hfind, ← hdrop]

/-- Settles O58: the first entry past the limit is the one found (`exec_entryDrop`), what its drop leaves is
`dropEntry_eq`, and a performance that rests is not moved by its own charge (`rests_countsOf`). -/
theorem overdueEntryIsDropped : Obligations.OverdueEntryIsDropped := by
  unfold Obligations.OverdueEntryIsDropped
  refine ⟨fun e front rest s hqueue hfront hlate => ?_, fun s hall => ?_⟩
  · have hexec := exec_entryDrop hqueue hfront hlate
    have hengine : (s.afterDrop e).engine = { s.engine with
        active := s.engine.active.map fun c => if e.owner = .booking c.booking
          then { c with counts := { c.counts with lost := min 65535 (c.counts.lost + 1) } } else c } := rfl
    refine ⟨hexec, fun c ha hrests => ?_, fun ha => ?_⟩
    · rw [ha, Option.map_some] at hengine
      have hrests : (s.afterDrop e).rests := rests_countsOf
        (s := (s.withQueue (s.planner.queue.filter (· ≠ e))).setBusy e.bell _) hrests _ _
      rw [settle_of_rests _ hrests] at hexec
      exact ⟨_, hexec, rfl, hengine, rfl, rfl, rfl, rfl, rfl⟩
    · rw [ha, Option.map_none, ← ha] at hengine
      rw [settle_of_inactive _ (by rw [hengine, ha])] at hexec
      exact ⟨_, hexec, rfl, hengine, rfl, rfl, rfl, rfl, rfl⟩
  · have hfind : s.planner.queue.find? (·.expired s.now) = none :=
      List.find?_eq_none.2 fun x hx => expired_eq_false (hall x hx)
    show Host.Outcome.next _ = _
    rw [hfind]

end Sys2Proof.Machine
end


section
/-! PROOFS. The arbiter's walk (R105, R110, R114, R122, R127–R129): what each fire does, and O57. -/

namespace Sys2Proof.Machine

/-! ## Eligible entries (R127, R128) -/

theorem eligible_iff (s : State) (e : StrikeEntry) : s.eligible e = true ↔
    e.fireTime ≤ s.time.clock ∧ (s.bell e.bell).state = .ready ∧ s.drive.hush = false ∧ s.drive.ready = true ∧
      s.drive.level ≠ .critical := by
  simp only [State.eligible, Drive.arbiterOpen, Bool.and_eq_true, decide_eq_true_eq, beq_iff_eq, Bool.not_eq_true',
    bne_iff_ne, and_assoc]
  rfl

theorem freeSlots_of_none {d : Drive} (h : d.requestedK = none) : d.freeSlots = d.k - d.energised := by
  simp [Drive.freeSlots, h]

theorem freeSlots_of_waiting {d : Drive} (h : d.requestedK ≠ none) : d.freeSlots = 0 := by
  simp [Drive.freeSlots, Option.isSome_iff_ne_none, h]

theorem ready_of_eligible {s : State} {e : StrikeEntry} (h : s.eligible e = true) : (s.bell e.bell).state = .ready := by
  obtain ⟨-, hready, -⟩ := (eligible_iff s e).1 h
  exact hready

/-- A bell past the table is OFF, so none of its entries is eligible. -/
theorem lt_of_eligible {s : State} {e : StrikeEntry} (h : s.eligible e = true) : e.bell < s.drive.bells.length := by
  by_contra hb
  have hoff : (s.bell e.bell).state = .off := by
    simp [State.bell, List.getD_eq_getElem?_getD, List.getElem?_eq_none (Nat.not_lt.1 hb), Bell.initial]
  rw [ready_of_eligible h] at hoff
  cases hoff

/-! ## One fire (R105, R122, R129) -/

section
variable (s : State) (e : StrikeEntry)

theorem bell_afterFire_ne {k : Nat} (h : k ≠ e.bell) : (s.afterFire e).bell k = s.bell k :=
  bell_modBell_ne (s := { s with drive := { s.drive with energised := s.drive.energised + 1 } }) h _

theorem bell_afterFire_self (h : e.bell < s.drive.bells.length) : (s.afterFire e).bell e.bell =
    (s.bell e.bell).fire s.time.clock e.width :=
  bell_modBell_self (s := { s with drive := { s.drive with energised := s.drive.energised + 1 } }) h _

theorem queue_afterFire : (s.afterFire e).planner.queue = s.planner.queue.erase e := rfl

theorem lastFire_afterFire_ne {k : Nat} (h : k ≠ e.bell) : (s.afterFire e).lastFire k = s.lastFire k := by
  simp [State.afterFire, State.lastFire, List.getD_eq_getElem?_getD, List.getElem?_set_ne h.symm]

theorem lastFire_afterFire_self (h : e.bell < s.planner.lastFire.length) :
    (s.afterFire e).lastFire e.bell = some s.time.clock := by
  simp [State.afterFire, State.lastFire, h]

theorem freeSlots_afterFire : (s.afterFire e).drive.freeSlots = s.drive.freeSlots - 1 := by
  show (if s.drive.requestedK.isSome then 0 else s.drive.k - (s.drive.energised + 1)) =
    (if s.drive.requestedK.isSome then 0 else s.drive.k - s.drive.energised) - 1
  split <;> omega

end

/-- R122, R128: after a fire those entries are eligible that were, but for the bell now DRIVEN. -/
theorem eligible_afterFire {s : State} {e : StrikeEntry} (he : s.eligible e = true) (x : StrikeEntry) :
    (s.afterFire e).eligible x = true ↔ s.eligible x = true ∧ x.bell ≠ e.bell := by
  by_cases hx : x.bell = e.bell
  · have hdriven : ((s.afterFire e).bell x.bell).state ≠ .ready := by
      rw [hx, bell_afterFire_self s e (lt_of_eligible he)]
      exact nofun
    exact ⟨fun h => absurd (ready_of_eligible h) hdriven, fun h => absurd hx h.2⟩
  · simp only [eligible_iff, bell_afterFire_ne s e hx]
    exact ⟨fun h => ⟨h, hx⟩, And.left⟩

/-! ## The walk (R128) -/

theorem fireIfEligible_of_not {s : State} {e : StrikeEntry} (h : s.drive.freeSlots = 0 ∨ s.eligible e = false) :
    s.fireIfEligible e = s :=
  if_neg fun ⟨hslot, helig⟩ => h.elim (Nat.pos_iff_ne_zero.1 hslot) fun hnot => by simp [hnot] at helig

/-- R129: an eligible entry fires while a slot is free. -/
theorem fireIfEligible_of_eligible {s : State} {e : StrikeEntry} (hslot : 0 < s.drive.freeSlots)
    (helig : s.eligible e = true) : s.fireIfEligible e = s.afterFire e :=
  (if_pos ⟨hslot, helig⟩).trans (fire_eq e s)

/-- R128: entries that cannot fire are passed over. -/
theorem walk_of_none {s : State} {l : List StrikeEntry}
    (h : s.drive.freeSlots = 0 ∨ ∀ e ∈ l, s.eligible e = false) : l.foldl State.fireIfEligible s = s := by
  induction l with
  | nil => rfl
  | cons e l ih =>
    have hstep : s.fireIfEligible e = s := fireIfEligible_of_not (h.imp_right fun h => h e List.mem_cons_self)
    rw [List.foldl_cons, hstep, ih (h.imp_right fun h x hx => h x (List.mem_cons_of_mem e hx))]

theorem arbiter_of_none {s : State} (h : s.drive.freeSlots = 0 ∨ ∀ e ∈ s.planner.queue, s.eligible e = false) :
    s.arbiter = s := walk_of_none h

section
variable {s : State} {e : StrikeEntry} {front rest : List StrikeEntry} (hqueue : s.planner.queue = front ++ e :: rest)
  (hfront : ∀ x ∈ front, s.eligible x = false) (helig : s.eligible e = true)
include hqueue hfront helig

/-- R129: the first eligible entry leaves its place, the queue otherwise as it was. -/
theorem queue_afterFire_first : (s.afterFire e).planner.queue = front ++ rest := by
  have hnot : e ∉ front := fun he => by simp [hfront e he] at helig
  rw [queue_afterFire, hqueue, List.erase_append_right _ hnot, List.erase_cons_head]

/-- R128: the first eligible entry fires, and the walk goes on as if begun after that fire. -/
theorem arbiter_of_first (hslot : 0 < s.drive.freeSlots) : s.arbiter = (s.afterFire e).arbiter := by
  have hpassed (x : StrikeEntry) (hx : x ∈ front) : (s.afterFire e).eligible x = false := by
    rw [← Bool.not_eq_true, eligible_afterFire helig, hfront x hx]
    simp
  unfold State.arbiter
  rw [queue_afterFire_first hqueue hfront helig, hqueue, List.foldl_append, List.foldl_append,
    walk_of_none (.inr hfront), walk_of_none (.inr hpassed), List.foldl_cons, fireIfEligible_of_eligible hslot helig]

end

/-! ## Every entry eligible (R127, R128) -/

/-- R98, R127–R129: the entries of `s` fired in queue order until the free slots ran out. -/
structure FiredInOrder (s t : State) : Prop where
  queue : t.planner.queue = s.planner.queue.drop s.drive.freeSlots
  energised : t.drive.energised = s.drive.energised + min s.drive.freeSlots s.planner.queue.length
  fired : ∀ e ∈ s.planner.queue.take s.drive.freeSlots, (t.bell e.bell).state = .driven ∧
    (t.bell e.bell).strikes = min 4294967295 ((s.bell e.bell).strikes + 1) ∧ t.lastFire e.bell = some s.time.clock
  passed : ∀ k, (∀ e ∈ s.planner.queue.take s.drive.freeSlots, e.bell ≠ k) →
    t.bell k = s.bell k ∧ t.lastFire k = s.lastFire k

/-- The first entry of the queue fires, and the others after it. -/
theorem FiredInOrder.cons {s t : State} {e : StrikeEntry} {rest : List StrikeEntry}
    (hqueue : s.planner.queue = e :: rest) (he : s.eligible e = true) (hrest : ∀ x ∈ rest, x.bell ≠ e.bell)
    (hlast : e.bell < s.planner.lastFire.length) (hslot : 0 < s.drive.freeSlots) (h : FiredInOrder (s.afterFire e) t) :
    FiredInOrder s t := by
  have hleft : (s.afterFire e).planner.queue = rest := queue_afterFire_first (front := []) hqueue (by simp) he
  obtain ⟨n, hn⟩ := Nat.exists_eq_add_one.2 hslot
  have hslots : (s.afterFire e).drive.freeSlots = n := by rw [freeSlots_afterFire, hn, Nat.add_sub_cancel]
  obtain ⟨hdrop, henergised, hfired, hpassed⟩ := h
  rw [hleft, hslots] at hdrop henergised hfired hpassed
  have hothers (x : StrikeEntry) (hx : x ∈ rest.take n) : x.bell ≠ e.bell := hrest x (List.mem_of_mem_take hx)
  refine ⟨?_, ?_, ?_, ?_⟩ <;> rw [hqueue, hn]
  · exact hdrop
  · have hcoil : (s.afterFire e).drive.energised = s.drive.energised + 1 := rfl
    rw [henergised, hcoil, List.length_cons]
    omega
  · refine List.forall_mem_cons.2 ⟨?_, fun x hx => ?_⟩
    · obtain ⟨hbell, hfire⟩ := hpassed e.bell hothers
      rw [hbell, hfire, bell_afterFire_self s e (lt_of_eligible he)]
      exact ⟨rfl, rfl, lastFire_afterFire_self s e hlast⟩
    · rw [← bell_afterFire_ne s e (hothers x hx)]
      exact hfired x hx
  · intro k hk
    obtain ⟨hke, hk⟩ := List.forall_mem_cons.1 hk
    rw [← bell_afterFire_ne s e (Ne.symm hke), ← lastFire_afterFire_ne s e (Ne.symm hke)]
    exact hpassed k hk

theorem arbiter_firedInOrder {s : State} (hall : ∀ e ∈ s.planner.queue, s.eligible e = true)
    (hbells : (s.planner.queue.map StrikeEntry.bell).Nodup)
    (hlengths : s.planner.lastFire.length = s.drive.bells.length) : FiredInOrder s s.arbiter := by
  generalize hq : s.planner.queue = queue at hall hbells
  induction queue generalizing s with
  | nil =>
    rw [arbiter_nil s hq]
    exact ⟨by simp [hq], by simp [hq], by simp [hq], fun _ _ => ⟨rfl, rfl⟩⟩
  | cons e rest ih =>
    rcases Nat.eq_zero_or_pos s.drive.freeSlots with hslot | hslot
    · rw [arbiter_of_none (.inl hslot)]
      exact ⟨by simp [hslot], by simp [hslot], by simp [hslot], fun _ _ => ⟨rfl, rfl⟩⟩
    · obtain ⟨he, hrest⟩ := List.forall_mem_cons.1 hall
      obtain ⟨hne, hnodup⟩ := List.nodup_cons.1 hbells
      have hothers (x : StrikeEntry) (hx : x ∈ rest) : x.bell ≠ e.bell := fun heq =>
        hne (List.mem_map.2 ⟨x, hx, heq⟩)
      have hlast : e.bell < s.planner.lastFire.length := hlengths ▸ lt_of_eligible he
      have hlengths' : (s.afterFire e).planner.lastFire.length = (s.afterFire e).drive.bells.length :=
        (List.length_set ..).trans (hlengths.trans (List.length_modify ..).symm)
      rw [arbiter_of_first (front := []) hq (by simp) he hslot]
      exact (ih hlengths' (queue_afterFire_first (front := []) hq (by simp) he)
        (fun x hx => (eligible_afterFire he x).2 ⟨hrest x hx, hothers x hx⟩) hnodup).cons hq he hothers hlast hslot

/-! ## FIRE_TIME_REACHED (R128) -/

/-- R128: a fire time lets the arbiter walk, then the Score Player go on. -/
theorem exec_fireTimeReached (s : State) : exec .fireTimeReached s = .next s.arbiter.settle := rfl

/-- Settles O57: where nothing can fire the walk does nothing (`arbiter_of_none`), else the first eligible entry fires
and the walk goes on from there (`arbiter_of_first`), until the slots run out (`arbiter_firedInOrder`). -/
theorem arbiterFiresInQueueOrder : Obligations.ArbiterFiresInQueueOrder := by
  unfold Obligations.ArbiterFiresInQueueOrder
  refine ⟨fun e s => ⟨eligible_iff s e, freeSlots_of_none, freeSlots_of_waiting⟩, fun s hnone => ?_,
    fun front rest e s hqueue hfront helig hslot => ⟨queue_afterFire_first hqueue hfront helig, ?_⟩,
    fun s ha hall hbells hlengths => ?_⟩
  · rw [exec_fireTimeReached, arbiter_of_none hnone]
    exact ⟨rfl, fun hrests => congrArg _ (settle_of_rests s hrests)⟩
  · rw [exec_fireTimeReached, exec_fireTimeReached, arbiter_of_first hqueue hfront helig hslot]
  · obtain ⟨hsettle, hengine, hbook⟩ := arbiter_settle_of_inactive ha
    obtain ⟨hqueue, henergised, hfired, hpassed⟩ := arbiter_firedInOrder hall hbells hlengths
    obtain ⟨pl, dr, hframe, -⟩ := arbiter_frame (s := s) fun c hc => absurd (ha.symm.trans hc) nofun
    exact ⟨s.arbiter, congrArg _ hsettle, hqueue, henergised, hfired, fun k hk => (hpassed k hk).1, hengine, hbook,
      by rw [hframe], by rw [hframe]⟩

end Sys2Proof.Machine
end


section
/-! PROOFS. The arbiter beside a bell that is not READY (R113, R122, R126, R128): its walk may come before or after
what is done to such a bell, and before or after the bell's entries leave. -/

namespace Sys2Proof.Machine

section
variable {s : State} {b : Nat}

theorem not_eligible_of_not_ready (hb : (s.bell b).state ≠ .ready) {e : StrikeEntry} (he : e.bell = b) :
    s.eligible e = false := by
  subst he
  rw [← Bool.not_eq_true]
  exact mt ready_of_eligible hb

/-- R128: one look of the arbiter leaves a bell that is not READY alone. -/
theorem bell_fireIfEligible (hb : (s.bell b).state ≠ .ready) (e : StrikeEntry) :
    (s.fireIfEligible e).bell b = s.bell b := by
  by_cases hfire : 0 < s.drive.freeSlots ∧ s.eligible e
  · have hne : b ≠ e.bell := fun h => by simp [not_eligible_of_not_ready hb h.symm] at hfire
    rw [fireIfEligible_of_eligible hfire.1 hfire.2, bell_afterFire_ne s e hne]
  · exact congrArg (State.bell · b) (if_neg hfire)

theorem bell_walk (hb : (s.bell b).state ≠ .ready) (l : List StrikeEntry) :
    (l.foldl State.fireIfEligible s).bell b = s.bell b := by
  induction l generalizing s with
  | nil => rfl
  | cons e l ih =>
    have hstep := bell_fireIfEligible hb e
    exact (ih (hstep ▸ hb)).trans hstep

theorem bell_arbiter (hb : (s.bell b).state ≠ .ready) : s.arbiter.bell b = s.bell b := bell_walk hb _

/-- R128: what the arbiter does in one look it does before and after a change that leaves the other bells, the drive
and the clock alone. -/
theorem fireIfEligible_comm {g : State → State} (hslots : (g s).drive.freeSlots = s.drive.freeSlots)
    {e : StrikeEntry} (helig : (g s).eligible e = s.eligible e) (hfire : (g s).afterFire e = g (s.afterFire e)) :
    (g s).fireIfEligible e = g (s.fireIfEligible e) := by
  unfold State.fireIfEligible
  rw [hslots, helig, fire_eq, fire_eq, hfire]
  split <;> rfl

/-- R129: a fire of another bell's entry. -/
theorem afterFire_modBell {e : StrikeEntry} (he : e.bell ≠ b) (f : Bell → Bell) :
    (s.modBell b f).afterFire e = (s.afterFire e).modBell b f := by
  have hrecord : ((s.modBell b f).bell e.bell).record = (s.bell e.bell).record := by rw [bell_modBell_ne he]
  unfold State.afterFire
  rw [hrecord]
  dsimp only [State.modBell]
  rw [List.modify_modify_ne _ _ _ he.symm]
  rfl

end

/-! ## Charges of one walk (R110, R113) -/

/-- R110: a context after a fire of an entry with this owner. -/
def Context.chargedFire (o : Owner) (late : Bool) (c : Context) : Context :=
  if o = .booking c.booking then { c with
    counts := { c.counts with
      fired := min 65535 (c.counts.fired + 1)
      late := if late then min 65535 (c.counts.late + 1) else c.counts.late } }
  else c

/-- R110, R113: a context after these entries have left, each of its own lost. -/
def Context.chargedLost (gone : List StrikeEntry) (c : Context) : Context :=
  let own := (gone.filter fun e => e.owner = .booking c.booking).length
  if own = 0 then c else { c with counts := { c.counts with lost := min 65535 (c.counts.lost + own) } }

theorem chargedFire_chargedLost (gone : List StrikeEntry) (o : Owner) (late : Bool) (c : Context) :
    (c.chargedLost gone).chargedFire o late = (c.chargedFire o late).chargedLost gone := by
  have hbooking : (c.chargedFire o late).booking = c.booking := by
    unfold Context.chargedFire
    split <;> rfl
  have hbooking' : (c.chargedLost gone).booking = c.booking := by
    unfold Context.chargedLost
    dsimp only
    split <;> rfl
  by_cases ho : o = .booking c.booking
  · by_cases hown : (gone.filter fun e => e.owner = .booking c.booking).length = 0
    · have hsame (x : Context) (hx : x.booking = c.booking) : x.chargedLost gone = x :=
        if_pos (by rw [hx]; exact hown)
      rw [hsame c rfl, hsame _ hbooking]
    · simp [Context.chargedFire, Context.chargedLost, ho, hown]
  · have hsame (x : Context) (hx : x.booking = c.booking) : x.chargedFire o late = x :=
      if_neg (by rw [hx]; exact ho)
    rw [hsame c rfl, hsame _ hbooking']

/-! ## The bell's entries leave (R113, R115) -/

section
variable (s : State) (b : Nat) (e : StrikeEntry)

theorem engine_afterFire : (s.afterFire e).engine = { s.engine with
    active := s.engine.active.map
      (Context.chargedFire e.owner (20000 < s.time.clock - (e.fireTime - e.lateness))) } := rfl

theorem planner_afterFire : (s.afterFire e).planner = { s.planner with
    queue := s.planner.queue.erase e
    lastFire := s.planner.lastFire.set e.bell (some s.time.clock)
    busyUntil := s.planner.busyUntil.set e.bell
      (some (max ((s.busyUntil e.bell).getD 0) (s.time.clock + 1000 * (s.bell e.bell).record.h))) } := rfl

theorem engine_bellCleared : (s.bellCleared b).engine = { s.engine with
    active := s.engine.active.map (Context.chargedLost (s.planner.queue.filter (·.bell == b))) } := rfl

theorem planner_bellCleared : (s.bellCleared b).planner = { s.planner with
    queue := s.planner.queue.filter (·.bell != b)
    busyUntil := s.planner.busyUntil.set b ((s.lastFire b).map (· + 1000 * (s.bell b).record.h)) } := rfl

theorem busyUntil_bellCleared_ne {k : Nat} (h : k ≠ b) : (s.bellCleared b).busyUntil k = s.busyUntil k := by
  simp [State.bellCleared, State.busyUntil, List.getD_eq_getElem?_getD, List.getElem?_set_ne h.symm]

variable {e b}

/-- R113, R129: a fire of another bell's entry comes before or after the bell's entries leave. -/
theorem afterFire_bellCleared (he : e.bell ≠ b) : (s.bellCleared b).afterFire e = (s.afterFire e).bellCleared b := by
  have hgone : (s.planner.queue.erase e).filter (·.bell == b) = s.planner.queue.filter (·.bell == b) := by
    rw [← List.erase_filter, List.erase_of_not_mem (by simp [he])]
  have hengine : ((s.bellCleared b).afterFire e).engine = ((s.afterFire e).bellCleared b).engine := by
    rw [engine_afterFire, engine_bellCleared, engine_bellCleared, engine_afterFire, queue_afterFire, hgone]
    simp only [Option.map_map]
    refine congrArg (fun g => { s.engine with active := s.engine.active.map g }) (funext fun c => ?_)
    exact chargedFire_chargedLost ..
  have hplanner : ((s.bellCleared b).afterFire e).planner = ((s.afterFire e).bellCleared b).planner := by
    rw [planner_afterFire, planner_bellCleared, planner_bellCleared, planner_afterFire, busyUntil_bellCleared_ne s b he,
      bell_afterFire_ne s e he.symm, lastFire_afterFire_ne s e he.symm]
    simp only [List.erase_filter, List.set_comm _ _ he]
    rfl
  calc (s.bellCleared b).afterFire e
      = { s.afterFire e with
          engine := ((s.bellCleared b).afterFire e).engine
          planner := ((s.bellCleared b).afterFire e).planner } := rfl
    _ = { s.afterFire e with
          engine := ((s.afterFire e).bellCleared b).engine
          planner := ((s.afterFire e).bellCleared b).planner } := by rw [hengine, hplanner]
    _ = (s.afterFire e).bellCleared b := rfl

end

/-! ## The walk beside such a bell (R128) -/

section
variable {b : Nat} {f : Bell → Bell} (hf : ∀ x, (f x).state ≠ .ready)
include hf

theorem bell_modBell_not_ready {s : State} (hb : (s.bell b).state ≠ .ready) :
    ((s.modBell b f).bell b).state ≠ .ready := by
  by_cases hlt : b < s.drive.bells.length
  · rw [bell_modBell_self hlt]
    exact hf _
  · have hsame : s.modBell b f = s := by
      unfold State.modBell
      rw [List.modify_eq_self (Nat.not_lt.1 hlt)]
    rwa [hsame]

theorem fireIfEligible_modBell {s : State} (hb : (s.bell b).state ≠ .ready) (e : StrikeEntry) :
    (s.modBell b f).fireIfEligible e = (s.fireIfEligible e).modBell b f := by
  by_cases he : e.bell = b
  · rw [fireIfEligible_of_not (.inr (not_eligible_of_not_ready hb he))]
    exact fireIfEligible_of_not (.inr (not_eligible_of_not_ready (bell_modBell_not_ready hf hb) he))
  · refine fireIfEligible_comm (g := State.modBell b f) rfl ?_ (afterFire_modBell he f)
    simp only [State.eligible, bell_modBell_ne he]
    rfl

/-- R128: the walk comes before or after a bell's change from one state but READY to another. -/
theorem arbiter_modBell {s : State} (hb : (s.bell b).state ≠ .ready) :
    (s.modBell b f).arbiter = s.arbiter.modBell b f := by
  show s.planner.queue.foldl _ _ = State.modBell b f (s.planner.queue.foldl _ _)
  generalize s.planner.queue = l
  induction l generalizing s with
  | nil => rfl
  | cons e l ih =>
    rw [List.foldl_cons, List.foldl_cons, fireIfEligible_modBell hf hb]
    exact ih (bell_fireIfEligible hb e ▸ hb)

end

/-- R113, R128: the walk comes before or after the entries of a bell that is not READY leave. -/
theorem arbiter_bellCleared {s : State} {b : Nat} (hb : (s.bell b).state ≠ .ready) :
    (s.bellCleared b).arbiter = s.arbiter.bellCleared b := by
  show (s.planner.queue.filter (·.bell != b)).foldl _ _ = State.bellCleared (s.planner.queue.foldl _ _) b
  generalize s.planner.queue = l
  induction l generalizing s with
  | nil => rfl
  | cons e l ih =>
    have hnext := ih (bell_fireIfEligible hb e ▸ hb)
    rw [List.foldl_cons]
    by_cases he : e.bell = b
    · rw [fireIfEligible_of_not (.inr (not_eligible_of_not_ready hb he))] at hnext ⊢
      rw [List.filter_cons_of_neg (by simpa using he), hnext]
    · have hstep : (s.bellCleared b).fireIfEligible e = (s.fireIfEligible e).bellCleared b :=
        fireIfEligible_comm (g := (State.bellCleared · b)) rfl rfl (afterFire_bellCleared s he)
      rw [List.filter_cons_of_pos (by simpa using he), List.foldl_cons, hstep, hnext]

/-- R128, R189: a notice is nothing to the arbiter. -/
theorem raise_unseen (n : Notice) : UnseenByArbiter (State.raise n) :=
  fun _ => ⟨rfl, fun _ => fireIfEligible_comm (g := State.raise n) rfl rfl rfl⟩

end Sys2Proof.Machine
end


section
/-! PROOFS. The way back of a hammer (R113, R122–R126, R131): O55. -/

namespace Sys2Proof.Machine

/-! ## A bell's changes (R122, R124–R126) -/

section
variable {s : State} {b : Nat} {c : Cycle}

/-- A bell past the table has no cycle. -/
theorem lt_of_cycle (h : (s.bell b).cycle = some c) : b < s.drive.bells.length := by
  by_contra hb
  have hnone : (s.bell b).cycle = none := by
    simp [State.bell, List.getD_eq_getElem?_getD, List.getElem?_eq_none (Nat.not_lt.1 hb), Bell.initial]
  rw [hnone] at h
  cases h

/-- R125: a bell whose recovery time has passed is READY at once, and the arbiter re-evaluates. -/
theorem toRecovering_of_passed (h : c.a + 1000 * c.h ≤ s.time.clock) : s.toRecovering b c =
    (s.modBell b fun x => { x with state := .ready, cycle := none }).arbiter := if_pos h

theorem toRecovering_of_waiting (h : s.time.clock < c.a + 1000 * c.h) : s.toRecovering b c =
    s.modBell b fun x => { x with state := .recovering, cycle := some { c with returnLimit := none } } :=
  if_neg (Nat.not_le.2 h)

/-- R113, R126: a bell FAULTED with this mark: its strikes gone, BELL raised. -/
def State.bellFaulted (s : State) (b : Nat) (cause : FaultCause) (mark : Option (Nat × Nat)) : State :=
  ((s.modBell b fun x => { x with
    state := .faulted, lastFault := some cause, cycle := none, wentOut := mark }).bellCleared b).raise .bell

/-- R126: a bell that is faulted now. -/
theorem faultBell_eq (cause : FaultCause) : s.faultBell b cause = s.bellFaulted b cause (s.goneMark (s.bell b)) := by
  unfold State.faultBell State.bellFaulted
  dsimp only
  rw [removeBell_eq]
  refine congrArg (fun u => (State.bellCleared u b).raise .bell) (modBell_congr ?_)
  rw [outMark_eq]

end

/-! ## The sensor and the timers (R122, R124, R125) -/

theorem open_eq (x : Bell) : x.open = { x with
    sensorOpen := true
    cycle := x.cycle.map fun c => { c with seenOpen := c.seenOpen || (x.state == .driven && c.sensor) } } := by
  unfold Bell.open
  refine congrArg (fun g => { x with sensorOpen := true, cycle := x.cycle.map g }) (funext fun c => ?_)
  by_cases h : x.state = .driven ∧ c.sensor = true
  · simp [h]
  · have hnot : (x.state == .driven && c.sensor) = false := by simpa using h
    rw [if_neg h, hnot, Bool.or_false]

section
variable {s : State} {b : Fin 64} {c : Cycle}

theorem exec_sensorCloses_returning (hc : (s.bell b).cycle = some c) (hs : (s.bell b).state = .returning) :
    exec (.sensorCloses b) s =
      .next ((s.modBell b fun x => { x with sensorOpen := false }).toRecovering b c).settle := by
  have hbell := bell_modBell_self (lt_of_cycle hc) fun x => { x with sensorOpen := false }
  show Host.Outcome.next (State.hammerBack b _) = _
  unfold State.hammerBack
  simp only [hbell, hc, hs, if_true]

theorem exec_sensorCloses_other (hs : (s.bell b).state ≠ .returning) :
    exec (.sensorCloses b) s = .next (s.modBell b fun x => { x with sensorOpen := false }) := by
  show Host.Outcome.next (State.hammerBack b _) = _
  refine congrArg _ ?_
  unfold State.hammerBack
  split
  · rfl
  · rename_i c hc
    have hlt : b.val < s.drive.bells.length := (lt_of_cycle hc).trans_eq (List.length_modify ..)
    exact if_neg (by rw [bell_modBell_self hlt]; exact hs)

theorem exec_recoveryTime (hc : (s.bell b).cycle = some c) (hs : (s.bell b).state = .recovering)
    (ht : c.a + 1000 * c.h ≤ s.time.clock) : exec (.recoveryTime b) s =
      .next (s.modBell b fun x => { x with state := .ready, cycle := none }).arbiter.settle := by
  show Host.Outcome.next _ = _
  rw [hc]
  exact congrArg _ (if_pos ⟨hs, ht⟩)

theorem exec_returnLimit {d : Nat} (hc : (s.bell b).cycle = some c) (hs : (s.bell b).state = .returning)
    (hd : c.returnLimit = some d) (ht : d ≤ s.time.clock) :
    exec (.returnLimit b) s = .next (s.bellFaulted b .noReturn (s.goneMark (s.bell b))).settle := by
  have hover : (s.bell b).overdue s.now = true := by
    simp only [Bell.overdue, hs, hc, hd, Option.bind_some, beq_self_eq_true, Bool.true_and]
    exact decide_eq_true ht
  rw [← faultBell_eq]
  exact congrArg _ (if_pos hover)

end

/-- Settles O55: each command is one change of its bell (`exec_sensorCloses_returning`, `exec_sensorCloses_other`,
`exec_recoveryTime`, `exec_returnLimit`), after which the arbiter or the Score Player goes on. -/
theorem hammerReturns : Obligations.HammerReturns := by
  unfold Obligations.HammerReturns
  refine ⟨fun b s => ?_, fun b c s hc hs => ⟨fun ht => ?_, fun ht => ?_⟩,
    fun b s hs => exec_sensorCloses_other hs, fun b c s hc hs ht => ?_, fun b c d s hc hs hd ht => ?_⟩
  · exact congrArg _ (modBell_congr (open_eq _))
  · rw [exec_sensorCloses_returning hc hs, toRecovering_of_waiting (s := s.modBell b _) ht, modBell_modBell]
    exact ⟨rfl, fun hrests => congrArg _ (settle_of_rests _ hrests)⟩
  · rw [exec_sensorCloses_returning hc hs, toRecovering_of_passed (s := s.modBell b _) ht, modBell_modBell]
    exact ⟨rfl, fun hq => congrArg _ (arbiter_settle_of_quiet (s := s.modBell b _) hq)⟩
  · rw [exec_recoveryTime hc hs ht]
    exact ⟨rfl, fun hq => congrArg _ (arbiter_settle_of_quiet (s := s.modBell b _) hq)⟩
  · have hfaulted : s.bellFaulted b .noReturn (s.goneMark (s.bell b)) = ((s.modBell b fun x => { x with
        state := .faulted, lastFault := some .noReturn, cycle := none
        wentOut := s.goneMark x }).bellCleared b).raise .bell :=
      congrArg (fun u => (State.bellCleared u b).raise .bell) (modBell_congr rfl)
    rw [exec_returnLimit hc hs hd ht, hfaulted]
    exact ⟨rfl, fun hrests => congrArg _ (settle_of_rests _ hrests)⟩

end Sys2Proof.Machine
end


section
/-! PROOFS. The end of a pulse (R113, R115, R123, R125, R126, R128, R131): O56. -/

namespace Sys2Proof.Machine

/-! ## What the walk keeps (R128) -/

/-- R128: entries only leave, and the mark of log 55 stays. -/
theorem arbiter_planner (s : State) : s.arbiter.planner.queue.length ≤ s.planner.queue.length ∧
    s.arbiter.planner.testFilled = s.planner.testFilled := by
  have hstep (u : State) (e : StrikeEntry) : (u.fireIfEligible e).planner.queue.length ≤ u.planner.queue.length ∧
      (u.fireIfEligible e).planner.testFilled = u.planner.testFilled := by
    by_cases hfire : 0 < u.drive.freeSlots ∧ u.eligible e
    · rw [fireIfEligible_of_eligible hfire.1 hfire.2]
      exact ⟨List.length_erase_le .., rfl⟩
    · rw [show u.fireIfEligible e = u from if_neg hfire]
      exact ⟨le_rfl, rfl⟩
  suffices hfold : ∀ (l : List StrikeEntry) (u : State),
      (l.foldl State.fireIfEligible u).planner.queue.length ≤ u.planner.queue.length ∧
        (l.foldl State.fireIfEligible u).planner.testFilled = u.planner.testFilled from hfold _ s
  intro l
  induction l with
  | nil => exact fun _ => ⟨le_rfl, rfl⟩
  | cons e l ih =>
    intro u
    obtain ⟨hlength, hfilled⟩ := hstep u e
    obtain ⟨hlength', hfilled'⟩ := ih (u.fireIfEligible e)
    exact ⟨hlength'.trans hlength, hfilled'.trans hfilled⟩

/-- R126, R128: the walk comes before or after a bell that is not READY is faulted. -/
theorem arbiter_bellFaulted {s : State} {b : Nat} (hb : (s.bell b).state ≠ .ready) (cause : FaultCause)
    (mark : Option (Nat × Nat)) : (s.bellFaulted b cause mark).arbiter = s.arbiter.bellFaulted b cause mark := by
  unfold State.bellFaulted
  rw [(raise_unseen .bell).arbiter, arbiter_bellCleared, arbiter_modBell _ hb]
  · exact fun _ h => by cases h
  · exact bell_modBell_not_ready (fun _ h => by cases h) hb

/-! ## How a bell goes on (R123) -/

section
variable {s : State} {b : Nat} {c : Cycle}

theorem afterPulse_recovers (h : c.sensor = false ∨ ((s.bell b).sensorOpen = false ∧ c.seenOpen = true)) :
    s.afterPulse b c = s.toRecovering b c := by
  unfold State.afterPulse
  rcases h with h | ⟨hopen, hseen⟩
  · simp [h]
  · simp [hopen, hseen]

theorem afterPulse_returns (hsensor : c.sensor = true) (hopen : (s.bell b).sensorOpen = true) :
    s.afterPulse b c = s.modBell b fun x => { x with
      state := .returning
      cycle := some { c with returnLimit := some (s.time.clock + 1000 * c.r) } } := by
  have hreturns : s.afterPulse b c = s.toReturning b c := by simp [State.afterPulse, hsensor, hopen]
  exact hreturns

theorem afterPulse_faults (hsensor : c.sensor = true) (hopen : (s.bell b).sensorOpen = false)
    (hseen : c.seenOpen = false) : s.afterPulse b c = s.bellFaulted b .noLift (s.goneMark (s.bell b)) := by
  rw [← faultBell_eq]
  simp [State.afterPulse, hsensor, hopen, hseen]

end

/-! ## PULSE_END -/

/-- R100, stage 2: a full queue stalls the Score Player (log 62). -/
def State.holdsNotes (s : State) : Prop := 48 ≤ s.planner.queue.length ∧ s.planner.testFilled ≠ some s.time.clock

section
variable {s : State} {b : Fin 64} {c : Cycle} (hc : (s.bell b).cycle = some c) (hs : (s.bell b).state = .driven)
  (ht : c.a + c.width ≤ s.time.clock)

include hs in
theorem freed_not_ready : (s.coilFreed.bell b).state ≠ .ready := by
  rw [show s.coilFreed.bell b = s.bell b from rfl, hs]
  exact nofun

include hs in
/-- R128: the bell whose pulse ends is DRIVEN still while the arbiter walks. -/
theorem bell_freed_arbiter : s.coilFreed.arbiter.bell b = s.bell b := bell_arbiter (freed_not_ready hs)

theorem clock_freed_arbiter : s.coilFreed.arbiter.time.clock = s.time.clock :=
  congrArg TowerTime.clock (arbiter_kept s.coilFreed).time

include hc hs ht

theorem exec_pulseEnd : exec (.pulseEnd b) s = .next (s.coilFreed.arbiter.afterPulse b c).settle := by
  rw [← coilOff_eq]
  show Host.Outcome.next _ = _
  rw [hc]
  exact congrArg _ (if_pos ⟨hs, ht⟩)

theorem pulseEnd_recovering (h : c.sensor = false ∨ ((s.bell b).sensorOpen = false ∧ c.seenOpen = true))
    (hwait : s.time.clock < c.a + 1000 * c.h) : exec (.pulseEnd b) s = exec .fireTimeReached (s.coilFreed.modBell b
      fun x => { x with state := .recovering, cycle := some { c with returnLimit := none } }) := by
  rw [exec_pulseEnd hc hs ht, afterPulse_recovers (by rwa [bell_freed_arbiter hs]),
    toRecovering_of_waiting (by rwa [clock_freed_arbiter]), exec_fireTimeReached,
    arbiter_modBell (fun _ h => by cases h) (freed_not_ready hs)]

/-- R125, R128: past its recovery time the bell is READY, and the arbiter walks once more. -/
theorem pulseEnd_ready (h : c.sensor = false ∨ ((s.bell b).sensorOpen = false ∧ c.seenOpen = true))
    (hpast : c.a + 1000 * c.h ≤ s.time.clock) : exec (.pulseEnd b) s =
      exec .fireTimeReached (s.coilFreed.arbiter.modBell b fun x => { x with state := .ready, cycle := none }) := by
  rw [exec_pulseEnd hc hs ht, afterPulse_recovers (by rwa [bell_freed_arbiter hs]),
    toRecovering_of_passed (by rwa [clock_freed_arbiter]), exec_fireTimeReached]

theorem pulseEnd_returning (hsensor : c.sensor = true) (hopen : (s.bell b).sensorOpen = true) :
    exec (.pulseEnd b) s = exec .fireTimeReached (s.coilFreed.modBell b fun x => { x with
      state := .returning
      cycle := some { c with returnLimit := some (s.time.clock + 1000 * c.r) } }) := by
  rw [exec_pulseEnd hc hs ht, afterPulse_returns hsensor (by rwa [bell_freed_arbiter hs]), clock_freed_arbiter,
    exec_fireTimeReached, arbiter_modBell (fun _ h => by cases h) (freed_not_ready hs)]

/-- R126, R128: a hammer that was never seen is faulted with the mark that holds after the walk. -/
theorem pulseEnd_faulted (hsensor : c.sensor = true) (hopen : (s.bell b).sensorOpen = false)
    (hseen : c.seenOpen = false) : exec (.pulseEnd b) s =
      exec .fireTimeReached (s.coilFreed.bellFaulted b .noLift (s.coilFreed.arbiter.goneMark (s.bell b))) := by
  rw [exec_pulseEnd hc hs ht, afterPulse_faults hsensor (by rwa [bell_freed_arbiter hs]) hseen, bell_freed_arbiter hs,
    exec_fireTimeReached, arbiter_bellFaulted (freed_not_ready hs)]

end

theorem goneMark_of_holding {s : State} (h : s.holdsNotes) (x : Bell) : s.goneMark x = x.wentOut :=
  if_pos (.inr (.inr h))

theorem goneMark_of_driven {s : State} {x : Bell} (hx : x.state = .driven) (h : ¬ s.holdsNotes) :
    s.goneMark x = some (s.time.clock, x.record.pitch) :=
  if_neg fun hgone => by
    rw [hx] at hgone
    rcases hgone with hoff | hfaulted | hholds
    · cases hoff
    · cases hfaulted
    · exact h hholds

/-- R83, R128: the walk fills no queue. -/
theorem holdsNotes_freed_arbiter {s : State} (h : s.coilFreed.arbiter.holdsNotes) : s.holdsNotes := by
  obtain ⟨hlength, hfilled⟩ := arbiter_planner s.coilFreed
  obtain ⟨hfull, hmarked⟩ := h
  rw [hfilled, clock_freed_arbiter] at hmarked
  exact ⟨hfull.trans hlength, hmarked⟩

/-- R100, stage 2: the mark of a bell whose pulse ended unseen. -/
theorem goneMark_freed {s : State} {b : Nat} (hs : (s.bell b).state = .driven) :
    let now := some (s.time.clock, (s.bell b).record.pitch)
    let mark := s.coilFreed.arbiter.goneMark (s.bell b)
    (mark = now ∨ mark = (s.bell b).wentOut) ∧ (¬ s.holdsNotes → mark = now) ∧
      (s.holdsNotes → (s.coilFreed.drive.freeSlots = 0 ∨ ∀ e ∈ s.planner.queue, s.coilFreed.eligible e = false) →
        mark = (s.bell b).wentOut) := by
  have hfree (h : ¬ s.coilFreed.arbiter.holdsNotes) : s.coilFreed.arbiter.goneMark (s.bell b) =
      some (s.time.clock, (s.bell b).record.pitch) := by
    rw [goneMark_of_driven hs h, clock_freed_arbiter]
  refine ⟨?_, fun hnot => hfree (mt holdsNotes_freed_arbiter hnot), fun hheld hnone => ?_⟩
  · by_cases h : s.coilFreed.arbiter.holdsNotes
    · exact .inr (goneMark_of_holding h _)
    · exact .inl (hfree h)
  · rw [arbiter_of_none (s := s.coilFreed) hnone]
    exact goneMark_of_holding (s := s.coilFreed) hheld _

/-! ## With nothing at play and nothing planned -/

/-- R123, R131: a coil freed and its bell changed, the drive otherwise as it was. -/
theorem coilFreed_changes {s t : State} {b : Nat} {f : Bell → Bell} (hb : b < s.drive.bells.length)
    (h : t.drive = (s.coilFreed.modBell b f).drive) : t.drive.energised = s.drive.energised - 1 ∧
      (s.drive.requestedK = none → t.drive.k = s.drive.k ∧ t.drive.requestedK = none) ∧
      (∀ k, s.drive.requestedK = some k →
        (s.drive.energised - 1 ≤ k → t.drive.k = k ∧ t.drive.requestedK = none) ∧
        (k < s.drive.energised - 1 → t.drive.k = s.drive.k ∧ t.drive.requestedK = some k)) ∧
      (∀ k, k ≠ b → t.bell k = s.bell k) ∧ t.bell b = f (s.bell b) := by
  have hbell (k : Nat) : t.bell k = (s.coilFreed.modBell b f).bell k := by
    unfold State.bell
    rw [h]
  refine ⟨by rw [h]; rfl, fun hk => ?_, fun k hk => ⟨fun hle => ?_, fun hlt => ?_⟩, fun k hk => ?_, ?_⟩
  · rw [h]
    simp [State.coilFreed, State.modBell, hk]
  · rw [h]
    simp [State.coilFreed, State.modBell, hk, hle]
  · rw [h]
    simp [State.coilFreed, State.modBell, hk, Nat.not_le.2 hlt]
  · exact (hbell k).trans (bell_modBell_ne (s := s.coilFreed) hk f)
  · exact (hbell b).trans (bell_modBell_self (s := s.coilFreed) hb f)

theorem fireTimeReached_of_quiet {s : State} (h : s.quiet = true) : exec .fireTimeReached s = .next s :=
  congrArg _ (arbiter_settle_of_quiet h)

/-- R113: with nothing planned and nothing at play a fault finds no strike to take out. -/
theorem quiet_bellFaulted {s : State} (h : s.quiet = true) (b : Nat) (cause : FaultCause) (mark : Option (Nat × Nat)) :
    (s.bellFaulted b cause mark).quiet = true := by
  obtain ⟨ha, hstack, hwaiting, hqueue⟩ := (quiet_iff s).1 h
  refine (quiet_iff _).2 ⟨?_, hstack, hwaiting, ?_⟩
  · show s.engine.active.map _ = none
    rw [ha]
    rfl
  · show s.planner.queue.filter _ = []
    rw [hqueue]
    rfl

/-- R123, R125, R126: bell `x` after the end of its pulse at time `now`, no note of this instant held back. -/
def Bell.pulseEnded (now : Nat) (c : Cycle) (x : Bell) : Bell :=
  if c.sensor = false ∨ (x.sensorOpen = false ∧ c.seenOpen = true) then
    if c.a + 1000 * c.h ≤ now then { x with state := .ready, cycle := none }
    else { x with state := .recovering, cycle := some { c with returnLimit := none } }
  else if x.sensorOpen = true then
    { x with state := .returning, cycle := some { c with returnLimit := some (now + 1000 * c.r) } }
  else { x with
    state := .faulted, lastFault := some .noLift, cycle := none, wentOut := some (now, x.record.pitch) }

section
variable {s : State} {b : Fin 64} {c : Cycle} (hq : s.quiet = true) (hc : (s.bell b).cycle = some c)
  (hs : (s.bell b).state = .driven) (ht : c.a + c.width ≤ s.time.clock)
include hq hc hs ht

/-- R123: the hammer was back, is on its way or needs no watching: nothing is noticed. -/
theorem pulseEnd_quiet_unfaulted (h : c.sensor = false ∨ (s.bell b).sensorOpen = true ∨ c.seenOpen = true) :
    exec (.pulseEnd b) s = .next (s.coilFreed.modBell b (Bell.pulseEnded s.time.clock c)) := by
  obtain ⟨-, -, -, hqueue⟩ := (quiet_iff s).1 hq
  have hnext (f : Bell → Bell) (hf : f (s.bell b) = (s.bell b).pulseEnded s.time.clock c) :
      exec .fireTimeReached (s.coilFreed.modBell b f) =
        .next (s.coilFreed.modBell b (Bell.pulseEnded s.time.clock c)) := by
    rw [modBell_congr (s := s.coilFreed) hf]
    exact fireTimeReached_of_quiet (s := s.coilFreed.modBell b _) hq
  by_cases hrecovers : c.sensor = false ∨ ((s.bell b).sensorOpen = false ∧ c.seenOpen = true)
  · by_cases hpast : c.a + 1000 * c.h ≤ s.time.clock
    · rw [pulseEnd_ready hc hs ht hrecovers hpast, arbiter_nil s.coilFreed hqueue]
      exact hnext _ ((if_pos hrecovers).trans (if_pos hpast)).symm
    · rw [pulseEnd_recovering hc hs ht hrecovers (Nat.not_le.1 hpast)]
      exact hnext _ ((if_pos hrecovers).trans (if_neg hpast)).symm
  · have hsensor : c.sensor = true := Bool.of_not_eq_false fun hoff => hrecovers (.inl hoff)
    have hopen : (s.bell b).sensorOpen = true := Bool.of_not_eq_false fun hclosed =>
      hrecovers (.inr ⟨hclosed, (h.resolve_left (by simp [hsensor])).resolve_left (by simp [hclosed])⟩)
    rw [pulseEnd_returning hc hs ht hsensor hopen]
    exact hnext _ ((if_neg hrecovers).trans (if_pos hopen)).symm

/-- R126: the hammer was never seen: BELL is raised. -/
theorem pulseEnd_quiet_faulted (hsensor : c.sensor = true) (hopen : (s.bell b).sensorOpen = false)
    (hseen : c.seenOpen = false) : ∃ t, exec (.pulseEnd b) s = .next t ∧
      t.drive = (s.coilFreed.modBell b (Bell.pulseEnded s.time.clock c)).drive ∧
      t.notices = { s.notices with flags := { s.notices.flags with bell := true } } := by
  obtain ⟨-, -, -, hqueue⟩ := (quiet_iff s).1 hq
  have hroom : ¬ s.holdsNotes := fun h => by simp [State.holdsNotes, hqueue] at h
  have hmark : s.coilFreed.arbiter.goneMark (s.bell b) = some (s.time.clock, (s.bell b).record.pitch) :=
    by
    obtain ⟨-, hnow, -⟩ := goneMark_freed hs
    exact hnow hroom
  refine ⟨_, (pulseEnd_faulted hc hs ht hsensor hopen hseen).trans
    (fireTimeReached_of_quiet (quiet_bellFaulted (s := s.coilFreed) hq ..)), ?_, rfl⟩
  rw [hmark]
  show (s.coilFreed.modBell b fun x => { x with
    state := .faulted, lastFault := some .noLift, cycle := none
    wentOut := some (s.time.clock, (s.bell b).record.pitch) }).drive = _
  refine congrArg State.drive (modBell_congr (s := s.coilFreed) ?_)
  have hstays : ¬ (c.sensor = false ∨ ((s.bell b).sensorOpen = false ∧ c.seenOpen = true)) := by
    simp [hsensor, hseen]
  have hclosed : ¬ (s.bell b).sensorOpen = true := by simp [hopen]
  exact ((if_neg hstays).trans (if_neg hclosed)).symm

end

/-- Settles O56: the arbiter's walk comes before the bell goes on and may as well come after it, as the bell is not
READY then (`arbiter_modBell`, `arbiter_bellFaulted`), but for a bell that becomes READY (`pulseEnd_ready`). -/
theorem pulseEndsByTheSensor : Obligations.PulseEndsByTheSensor := by
  unfold Obligations.PulseEndsByTheSensor
  refine ⟨fun b c s hc hs ht => ⟨fun h => ⟨pulseEnd_recovering hc hs ht h,
      fun hpast => ⟨fun hnone => ?_, fun ha => ?_⟩⟩, pulseEnd_returning hc hs ht,
    fun hsensor hopen hseen => ?_⟩, fun b c s hq hc hs ht => ?_⟩
  · rw [pulseEnd_ready hc hs ht h hpast, arbiter_of_none (s := s.coilFreed) hnone]
  · obtain ⟨hsettle, -, -⟩ := arbiter_settle_of_inactive (s := s.coilFreed) ha
    exact ⟨s.coilFreed.arbiter, by rw [exec_fireTimeReached, hsettle], pulseEnd_ready hc hs ht h hpast⟩
  · obtain ⟨heither, hnow, hheld⟩ := goneMark_freed hs
    exact ⟨_, heither, hnow, hheld, pulseEnd_faulted hc hs ht hsensor hopen hseen⟩
  · by_cases hfault : c.sensor = true ∧ (s.bell b).sensorOpen = false ∧ c.seenOpen = false
    · obtain ⟨hsensor, hopen, hseen⟩ := hfault
      obtain ⟨t, hexec, hdrive, hnotices⟩ := pulseEnd_quiet_faulted hq hc hs ht hsensor hopen hseen
      obtain ⟨hcount, hfull, hlower, hothers, hbell⟩ := coilFreed_changes (lt_of_cycle hc) hdrive
      refine ⟨t, hexec, hcount, hfull, hlower, hothers, fun h => ?_, fun _ h => ?_, fun _ _ _ => ⟨hnotices, ?_⟩⟩
      · simp [hsensor, hseen] at h
      · simp [hopen] at h
      · rw [hbell]
        simp [Bell.pulseEnded, hsensor, hopen, hseen]
    · have hseen : c.sensor = false ∨ (s.bell b).sensorOpen = true ∨ c.seenOpen = true := by
        by_contra hnot
        simp only [not_or, Bool.not_eq_false, Bool.not_eq_true] at hnot
        exact hfault hnot
      obtain ⟨hcount, hfull, hlower, hothers, hbell⟩ := coilFreed_changes (s := s) (lt_of_cycle hc) rfl
      refine ⟨_, pulseEnd_quiet_unfaulted hq hc hs ht hseen, hcount, hfull, hlower, hothers, fun h => ⟨rfl, ?_⟩,
        fun hsensor hopen => ⟨rfl, ?_⟩, fun h1 h2 h3 => absurd ⟨h1, h2, h3⟩ hfault⟩
      · exact hbell.trans (if_pos h)
      · refine hbell.trans ((if_neg ?_).trans (if_pos hopen))
        simp [hsensor, hopen]

end Sys2Proof.Machine
end


section
/-! PROOFS. TEST_STRIKE (R100, R108, R109, R137): O50. -/

namespace Sys2Proof.Machine

/-! ## The test hand-over (R100, R109) -/

theorem parseTestStrike_ofNat {b e : Nat} (hb : b < 64) (he : 1 ≤ e) (he' : e ≤ 31) :
    parseTestStrike [BitVec.ofNat 8 b, BitVec.ofNat 8 e] = some (b, e) := by
  have hbell : b % 256 = b := Nat.mod_eq_of_lt (by omega)
  have hstrength : e % 256 = e := Nat.mod_eq_of_lt (by omega)
  simp [parseTestStrike, byteField, inRange, byteAt, hbell, hstrength, he, he', Nat.le_of_lt_succ hb]

/-- R100, R108, R110: a test hand-over joins the queue, or is lost and charged to nothing. -/
theorem handOver_test (s : State) (b e : Nat) : s.handOver (s.testNote b e) =
    (s.entryTaken (s.testNote b e)).elim (s, none) fun x => (s.insertStrike x, some x) := by
  by_cases hlost : (!(s.bell b).usable || s.queueFull) = true
  · have hnone : s.entryTaken (s.testNote b e) = none := by
      rw [Bool.or_eq_true, Bool.not_eq_true', usable_eq_false_iff] at hlost
      unfold State.entryTaken State.entryMade
      rcases hlost with hout | hfull
      · simp [State.testNote, hout]
      · exact if_pos (of_decide_eq_true hfull)
    rw [hnone]
    exact if_pos hlost
  · have hmade : s.entryTaken (s.testNote b e) =
        planEntry (s.bell b).record s.drive.level (s.busyUntil b) s.now b (s.testNote b e) := by
      rw [Bool.or_eq_true, Bool.not_eq_true', usable_eq_false_iff, not_or] at hlost
      obtain ⟨huse, hroom⟩ := hlost
      have hroom : s.planner.queue.length < 48 := Nat.not_le.1 fun hfull => hroom (decide_eq_true hfull)
      rw [entryTaken_of_room hroom]
      exact if_neg huse
    refine (if_neg hlost).trans ?_
    rw [hmade]
    show (match planEntry (s.bell b).record s.drive.level (s.busyUntil b) s.now b (s.testNote b e) with
      | none => (s, none)
      | some x => (s.insertStrike x, some x)) = _
    cases planEntry (s.bell b).record s.drive.level (s.busyUntil b) s.now b (s.testNote b e) <;> rfl

section
variable {s : State} {b e : Nat}

theorem planTest_of_lost (h : s.entryTaken (s.testNote b e) = none) : s.planTest (s.testNote b e) = (s, none) := by
  have hlost := handOver_test s b e
  rw [h] at hlost
  simp [State.planTest, State.plan, hlost]

/-- The planner after a test strike planned for later; one that fills the last place leaves its mark (log 55). -/
def State.plannerTested (s : State) (b : Nat) (x : StrikeEntry) : Planner := { s.planner with
  queue := insertEntry x s.planner.queue
  busyUntil := s.planner.busyUntil.set b (some (x.fireTime + 1000 * (s.bell b).record.h))
  testFilled := if s.planner.queue.length = 47 then some s.time.clock else s.planner.testFilled }

theorem planTest_of_later {x : StrikeEntry} (h : s.entryTaken (s.testNote b e) = some x) (hbell : x.bell = b)
    (hroom : s.planner.queue.length < 48) (hlater : s.time.clock < x.fireTime) :
    s.planTest (s.testNote b e) = ({ s with planner := s.plannerTested b x }, some x) := by
  subst hbell
  have hplan := handOver_test s x.bell e
  rw [h] at hplan
  have hnot : ¬ x.fireTime ≤ s.now := Nat.not_le.2 hlater
  have hfull : (s.insertStrike x).queueFull = decide (s.planner.queue.length = 47) := by
    have hlength : (s.insertStrike x).planner.queue.length = s.planner.queue.length + 1 := insertEntry_length ..
    unfold State.queueFull
    rw [hlength, decide_eq_decide]
    show 48 ≤ _ ↔ _
    omega
  unfold State.planTest State.plan State.plannerTested
  simp only [hplan, Option.elim_some, hnot, if_false, Option.isSome_some, Bool.true_and, hfull, decide_eq_true_eq]
  split <;> rfl

end

/-! ## TEST_STRIKE (R137) -/

/-- R137: TEST_STRIKE with nothing at play is answered as the planner takes its test hand-over. -/
theorem exec_testStrike {s v : State} {p : Port} {b e : Nat} {made : Option StrikeEntry} (hb : b < 64) (he : 1 ≤ e)
    (he' : e ≤ 31) (htakes : s.takes p 0x17 2 = true)
    (hplan : (s.taken p).planTest ((s.taken p).testNote b e) = (v, made)) :
    exec (.testStrike p [BitVec.ofNat 8 b, BitVec.ofNat 8 e]) s =
      .next (v.respond p 0x17 .done (encTest made)).settle := by
  show Host.Outcome.next (s.takeRequest p 0x17 _ _) = _
  rw [takeRequest_takes htakes]
  unfold State.serveTestStrike
  simp only [parseTestStrike_ofNat hb he he', hplan]

/-- An answer does not read the planner. -/
theorem respond_withPlanner (s : State) (pl : Planner) (p : Port) (code : Byte) (a : AnswerCode) (body : List Byte) :
    ({ s with planner := pl } : State).respond p code a body = { s.respond p code a body with planner := pl } := by
  unfold State.respond
  dsimp only
  split <;> rfl

/-- Settles O50: a test hand-over is planned when the queue has room, its bell is in use and the checks let it pass
(`handOver_test`), and then leaves the planner as `State.plannerTested` says; else nothing changes. -/
theorem testStrikeIsPlannedOrLost : Obligations.TestStrikeIsPlannedOrLost := by
  unfold Obligations.TestStrikeIsPlannedOrLost
  intro p b e s hb he he' htakes ha plan
  have hpending := resetPending_of_takes htakes
  refine ⟨fun x hx hoff hfaulted hroom hlater => ?_, fun hlost => ?_⟩
  · have hmade : (s.taken p).entryTaken ((s.taken p).testNote b e) = some x :=
      (entryTaken_of_room (s := s.taken p) hroom _).trans ((if_neg (not_or.2 ⟨hoff, hfaulted⟩)).trans hx)
    have hbell : x.bell = b := by
      obtain ⟨-, rfl⟩ := planEntry_eq_some rfl rfl hx
      rfl
    rw [exec_testStrike hb he he' htakes (planTest_of_later hmade hbell hroom hlater), respond_withPlanner,
      respond_taken _ _ _ hpending]
    exact congrArg _ (settle_of_inactive _ ha)
  · have hnone : (s.taken p).entryTaken ((s.taken p).testNote b e) = none := by
      by_cases hroom : s.planner.queue.length < 48
      · refine (entryTaken_of_room (s := s.taken p) hroom _).trans ?_
        by_cases hout : (s.bell b).state = .off ∨ (s.bell b).state = .faulted
        · exact if_pos hout
        · obtain ⟨hoff, hfaulted⟩ := not_or.1 hout
          have hplan : plan = none := by simpa [hoff, hfaulted, Nat.not_le.2 hroom] using hlost
          exact (if_neg hout).trans hplan
      · exact entryTaken_of_full (s := s.taken p) (Nat.not_lt.1 hroom) _
    rw [exec_testStrike hb he he' htakes (planTest_of_lost hnone), respond_taken _ _ _ hpending]
    exact congrArg _ (settle_of_inactive _ ha)

end Sys2Proof.Machine
end


section
/-! PROOFS. The drive (R117, R127): what the performance side and the Booking Book leave as it is. Outside the arbiter
and the planning of a note they leave the whole Drive Unit alone. -/

namespace Sys2Proof.Machine

theorem foldl_drive {α : Type} {f : State → α → State} (h : ∀ s a, (f s a).drive = s.drive) (l : List α) (s : State) :
    (l.foldl f s).drive = s.drive := by
  induction l generalizing s with
  | nil => rfl
  | cons a l ih => exact (ih _).trans (h s a)

section
variable (s : State)

/-! ## Strikes that leave or are handed over (R100, R111–R115) -/

@[simp] theorem removeStrikes_drive (pick : StrikeEntry → Bool) : (s.removeStrikes pick).drive = s.drive := by
  obtain ⟨pl, heq, -⟩ := removeStrikes_eq pick s
  rw [heq]

@[simp] theorem removeOwner_drive (n : Nat) : (s.removeOwner n).drive = s.drive := removeStrikes_drive s _

@[simp] theorem removeOwnerLost_drive (n : Nat) : (s.removeOwnerLost n).drive = s.drive :=
  (removeOwner_drive _ n).trans (foldl_drive (fun s (e : StrikeEntry) => charge_drive s e.owner .lost) _ s)

@[simp] theorem dropEntry_drive (e : StrikeEntry) : (s.dropEntry e).drive = s.drive := by
  simp [State.dropEntry]

/-- R100: a hand-over is the Strike Planner's work; what it plans fires later. -/
@[simp] theorem handOver_drive (h : HandOver) : (s.handOver h).1.drive = s.drive := by
  have hsub : (if h.substituted then s.charge h.owner .substituted else s).drive = s.drive := by
    split <;> simp
  unfold State.handOver
  generalize (if h.substituted then s.charge h.owner .substituted else s) = u at hsub ⊢
  dsimp only
  split
  · simpa using hsub
  · split
    · simpa using hsub
    · split <;> simpa using hsub

/-! ## The Score Player beside its notes (R84–R86, R142) -/

@[simp] theorem prefetch_drive (c : Context) (slot segment : Nat) : (s.prefetch c slot segment).drive = s.drive := by
  obtain ⟨pl, st, heq, -⟩ := prefetch_eq c slot segment s
  rw [heq]

@[simp] theorem startReads_drive (c : Context) (slot : Nat) : (s.startReads c slot).drive = s.drive := by
  unfold State.startReads
  split <;> simp

@[simp] theorem enterSegment_drive (c : Context) (slot segment : Nat) :
    (s.enterSegment c slot segment).drive = s.drive := by
  unfold State.enterSegment
  split
  · simp
  all_goals split <;> simp

@[simp] theorem advance_drive (slot tick n : Nat) : (s.advance slot tick n).drive = s.drive := by
  unfold State.advance
  split
  · rfl
  · dsimp only
    repeat' split
    all_goals simp

@[simp] theorem advanceToll_drive : s.advanceToll.drive = s.drive := by
  unfold State.advanceToll
  split
  · rfl
  · dsimp only
    split <;> simp

@[simp] theorem takeUp_drive : s.takeUp.drive = s.drive := by
  unfold State.takeUp
  split
  · rfl
  · dsimp only
    split
    · simp
    · split <;> rfl
    · rfl

theorem stopHere_drive {s t : State} {c : Context} (h : s.stopHere c = some t) : t.drive = s.drive := by
  unfold State.stopHere at h
  split at h <;> cases h
  rfl

/-! ## The Precedence Engine (R30, R48–R63) -/

@[simp] theorem dispose_drive (n : Nat) (k : OutcomeKind) (x : Option OutcomeCause) (c : StrikeCounts) (w : Bool) :
    (s.dispose n k x c w).drive = s.drive := by
  unfold State.dispose
  split
  · rfl
  · dsimp only
    split <;> rfl

@[simp] theorem refuse_drive (n : Nat) (k : OutcomeKind) : (s.refuse n k).drive = s.drive := by
  simp [State.refuse]

@[simp] theorem start_drive (n : Nat) : (s.start n).drive = s.drive := by
  unfold State.start
  split <;> simp

@[simp] theorem suspendActive_drive : s.suspendActive.drive = s.drive := by
  unfold State.suspendActive
  split <;> simp

@[simp] theorem endActive_drive (k : OutcomeKind) (x : Option OutcomeCause) (w : Bool) :
    (s.endActive k x w).drive = s.drive := by
  unfold State.endActive
  split <;> simp

@[simp] theorem endStacked_drive (c : Context) (k : OutcomeKind) (x : Option OutcomeCause) (w : Bool) :
    (s.endStacked c k x w).drive = s.drive := dispose_drive ..

@[simp] theorem displace_drive : s.displace.drive = s.drive := by
  unfold State.displace
  split
  · rfl
  · split <;> simp

@[simp] theorem resumeTop_drive : s.resumeTop.drive = s.drive := by
  unfold State.resumeTop
  split <;> simp

@[simp] theorem clearFor_drive (d : Decision) : (s.clearFor d).drive = s.drive := by
  cases d <;> simp [State.clearFor]

@[simp] theorem settleStart_drive (a : Agenda) : (s.settleStart a).1.drive = s.drive := by
  unfold State.settleStart
  split <;> simp

theorem choose_drive : s.choose.1.drive = s.drive := by
  unfold State.choose
  repeat' split
  all_goals simp

theorem judgeAt_drive (k : Nat) : (s.judgeAt k).1.drive = s.drive := by
  unfold State.judgeAt
  repeat' split
  all_goals simp

theorem agendaStep_drive (a : Agenda) : (s.agendaStep a).1.drive = s.drive := by
  cases a with
  | choose =>
    simp only [State.agendaStep]
    split
    · rfl
    · exact choose_drive s
  | judge k => exact judgeAt_drive s k

/-- R52, R61: however long the agenda is worked off. -/
theorem engineLoop_drive (n : Nat) (a : Agenda) : (engineLoop n a s).drive = s.drive := by
  induction n generalizing a s with
  | zero => rfl
  | succ n ih =>
    have h := agendaStep_drive s a
    unfold engineLoop
    split
    · rename_i t ht
      rwa [ht] at h
    · rename_i t a' ht
      rw [ht] at h
      exact (ih t a').trans h

@[simp] theorem resumeChoice_drive : s.resumeChoice.drive = s.drive := by
  unfold State.resumeChoice
  split
  · rfl
  · exact engineLoop_drive ..

@[simp] theorem reconsider_drive : s.reconsider.drive = s.drive := by
  unfold State.reconsider
  split
  · rfl
  · exact engineLoop_drive ..

@[simp] theorem handGroup_drive (ns : List Nat) : (s.handGroup ns).drive = s.drive := by
  unfold State.handGroup
  split <;> simp

@[simp] theorem withdrawNow_drive (n : Nat) : (s.withdrawNow n).drive = s.drive := by
  unfold State.withdrawNow
  repeat' split
  all_goals simp

/-! ## Halts, HUSH, drive loss (R64–R70) -/

@[simp] theorem haltStackedNow_drive (named : Context → Bool) : (s.haltStackedNow named).drive = s.drive :=
  foldl_drive (fun s c => endStacked_drive s c .halted none false) _ s

@[simp] theorem haltNow_drive (t : HaltTarget) : (s.haltNow t).drive = s.drive := by
  unfold State.haltNow
  split <;> simp

@[simp] theorem applyHalt_drive (c : Context) (h : PendingHalt) : (s.applyHalt c h).drive = s.drive := by
  unfold State.applyHalt State.stopAtPhrase State.cancelRepeats
  repeat' split
  all_goals rfl

@[simp] theorem haltActiveLater_drive (h : PendingHalt) : (s.haltActiveLater h).drive = s.drive := by
  unfold State.haltActiveLater
  split
  · rfl
  · split <;> simp

@[simp] theorem hushActive_drive : s.hushActive.drive = s.drive := by
  unfold State.hushActive
  split
  · rfl
  · split
    · rfl
    · dsimp only
      rw [modActive_drive, letGo_drive]
      split <;> simp

@[simp] theorem restartActive_drive : s.restartActive.drive = s.drive := by
  unfold State.restartActive
  split <;> simp

@[simp] theorem releaseEngine_drive : s.releaseEngine.drive = s.drive := by
  unfold State.releaseEngine
  split
  · simp
  · rename_i c _
    have h : (if (c.mode == .hushed) = true then s.restartActive else s).drive = s.drive := by
      split <;> simp
    dsimp only
    split <;> simpa using h

@[simp] theorem loseDrive_drive : s.loseDrive.drive = s.drive := by
  unfold State.loseDrive
  split
  · rfl
  · refine (removeStrikes_drive _ _).trans ?_
    exact (foldl_drive (fun s c => endStacked_drive s c .driveLost none false) _ _).trans (endActive_drive ..)

end

/-! ## The Booking Book's reports (R23–R37) -/

section
variable (n : Nat) (b : Booking) (s : State)

@[simp] theorem dueNow_drive : (s.dueNow n).1.drive = s.drive := by
  unfold State.dueNow
  repeat' split
  all_goals rfl

@[simp] theorem dueAtOnce_drive : (s.dueAtOnce n).drive = s.drive := by
  have h := dueNow_drive n s
  unfold State.dueAtOnce
  split <;> (rename_i t ht; rw [ht] at h)
  · simpa using h
  · split <;> simpa using h

@[simp] theorem createBooking_drive (r : BookingRecord) : (s.createBooking n r).drive = s.drive := by
  simp [State.createBooking]

@[simp] theorem amendBooking_drive (r : BookingRecord) : (s.amendBooking n r).drive = s.drive := by
  unfold State.amendBooking
  split
  · rfl
  · dsimp only
    split <;> simp

@[simp] theorem createImmediate_drive (r : BookingRecord) : (s.createImmediate n r).drive = s.drive := by
  simp [State.createImmediate]

/-- A step of a pass over the bookings that leaves the drive alone. -/
def LeavesDrive (f : Nat → Booking → State → State × Bool) : Prop := ∀ n b s, (f n b s).1.drive = s.drive

theorem pass_drive {f : Nat → Booking → State → State × Bool} (hf : LeavesDrive f) :
    (s.pass f).1.drive = s.drive := by
  unfold State.pass
  suffices h : ∀ (l : List Nat) (p : Pass), (l.foldl (Pass.one f) p).1.drive = p.1.drive from h slotNumbers (s, [])
  intro l
  induction l with
  | nil => exact fun p => rfl
  | cons n l ih =>
    intro p
    refine (ih _).trans ?_
    unfold Pass.one
    split
    · rfl
    · rename_i b _
      have h := hf n b p.1
      split <;> (rename_i t ht; rw [ht] at h; exact h)

theorem report_drive {f : Nat → Booking → State → State × Bool} (hf : LeavesDrive f) :
    (s.report f).drive = s.drive := by
  unfold State.report
  split
  · rfl
  · simpa using pass_drive s hf

@[simp] theorem disposeWaiting_drive (c : OutcomeCause) : (s.disposeWaiting n c).drive = s.drive := dispose_drive ..

theorem fallDueAt_drive : (s.fallDueAt n b).1.drive = s.drive := by
  unfold State.fallDueAt
  split <;> rfl

theorem fallDueIfArmed_drive : (s.fallDueIfArmed n).1.drive = s.drive := by
  unfold State.fallDueIfArmed
  split
  · rfl
  · split
    · exact fallDueAt_drive ..
    · rfl

theorem boundaryOne_leavesDrive : LeavesDrive State.boundaryOne := by
  intro n b s
  unfold State.boundaryOne
  dsimp only
  repeat' split
  all_goals simp [fallDueAt_drive, fallDueIfArmed_drive]

theorem setReportOne_leavesDrive : LeavesDrive State.setReportOne := by
  intro n b s
  unfold State.setReportOne
  split <;> simp

theorem stepArmed_drive (l : List Nat) : (s.stepArmed n l b).1.drive = s.drive := by
  unfold State.stepArmed
  dsimp only
  repeat' split
  all_goals rfl

theorem stepWaiting_drive (t0 : Nat) : (s.stepWaiting n t0 b).1.drive = s.drive := by
  unfold State.stepWaiting
  dsimp only
  repeat' split
  all_goals simp [stepArmed_drive]

theorem stepSounding_drive (t0 : Nat) : (s.stepSounding n t0 b).1.drive = s.drive := by
  unfold State.stepSounding
  dsimp only
  split <;> rfl

theorem forwardOne_leavesDrive (t0 : Nat) : LeavesDrive (State.forwardOne t0) := by
  intro n b s
  unfold State.forwardOne
  split <;> simp [stepArmed_drive, stepWaiting_drive, stepSounding_drive]

theorem backwardOne_leavesDrive : LeavesDrive State.backwardOne := by
  intro n b s
  unfold State.backwardOne
  split <;> simp

theorem unsetOne_leavesDrive : LeavesDrive State.unsetOne := by
  intro n b s
  unfold State.unsetOne
  split <;> simp

theorem stepReport_drive (t0 : Nat) : (s.stepReport t0).drive = s.drive := by
  unfold State.stepReport
  split
  · exact report_drive s (forwardOne_leavesDrive t0)
  · exact report_drive s backwardOne_leavesDrive

end

/-! ## Tower time (R3–R13) -/

section
variable (s : State)

@[simp] theorem setTimeState_drive (v : TimeState) : (s.setTimeState v).drive = s.drive := raiseIf_drive ..

@[simp] theorem advanceSecond_drive : s.advanceSecond.drive = s.drive := by
  unfold State.advanceSecond
  dsimp only
  repeat' split
  all_goals simp [State.secondBoundary, State.unsetReport, report_drive, boundaryOne_leavesDrive, unsetOne_leavesDrive]

theorem normalAdvance_drive : s.normalAdvance.drive = s.drive := by
  unfold State.normalAdvance
  split <;> simp

@[simp] theorem phaseStep_drive : s.phaseStep.drive = s.drive := by
  unfold State.phaseStep
  dsimp only
  split <;> simp

theorem phaseAtPulse_drive : s.phaseAtPulse.drive = s.drive := by
  unfold State.phaseAtPulse State.dealPhase
  dsimp only
  repeat' split
  all_goals simp

theorem lockState_drive : s.lockState.drive = s.drive := by
  unfold State.lockState
  repeat' split
  all_goals simp

theorem pulse_drive : s.pulse.drive = s.drive := by
  unfold State.pulse
  dsimp only
  repeat' split
  all_goals simp [phaseAtPulse_drive, lockState_drive]

theorem expirePulse_drive : s.expirePulse.drive = s.drive := by
  unfold State.expirePulse
  dsimp only
  split <;> simp

@[simp] theorem setCalendar_drive (t1 : Nat) : (s.setCalendar t1).drive = s.drive := by
  unfold State.setCalendar
  dsimp only
  repeat' split
  all_goals simp [State.calendarSet, report_drive, setReportOne_leavesDrive, stepReport_drive]

end

end Sys2Proof.Machine
end


section
/-! PROOFS. The coils (R122, R123, R127, R131): what the arbiter, the Score Player and the Drive Unit do with the
energised count, beside the bells DRIVEN, K and the strikes counted. -/

namespace Sys2Proof.Machine

/-! ## The energised count beside the bells DRIVEN (R122, R127) -/

/-- The coils a bell has energised (R122). -/
def Bell.coil (x : Bell) : Int := if x.state = .driven then 1 else 0

/-- How many more coils are counted energised than bells are DRIVEN: none while the count is right. -/
def State.coilSurplus (s : State) : Int := s.drive.energised - s.drive.bells.countP (·.state == .driven)

theorem coilsCounted_iff (s : State) : s.coilsCounted = true ↔ s.coilSurplus = 0 := by
  simp only [State.coilsCounted, State.coilSurplus, beq_iff_eq]
  omega

theorem coilSurplus_of_drive {s t : State} (h : t.drive = s.drive) : t.coilSurplus = s.coilSurplus := by
  unfold State.coilSurplus
  rw [h]

theorem coil_of_not_driven {x : Bell} (h : x.state ≠ .driven) : x.coil = 0 := if_neg h

theorem bell_of_le {s : State} {b : Nat} (h : s.drive.bells.length ≤ b) : s.bell b = .initial false := by
  simp [State.bell, List.getD_eq_getElem?_getD, List.getElem?_eq_none h]

theorem modBell_of_le {s : State} {b : Nat} (h : s.drive.bells.length ≤ b) (f : Bell → Bell) : s.modBell b f = s := by
  unfold State.modBell
  rw [List.modify_eq_self h]

section
variable {s : State} {b : Nat}

/-- A bell changed moves the surplus by the coils it had and has. -/
theorem coilSurplus_modBell (hb : b < s.drive.bells.length) (f : Bell → Bell) :
    (s.modBell b f).coilSurplus = s.coilSurplus + (s.bell b).coil - (f (s.bell b)).coil := by
  have hbell : s.drive.bells[b] = s.bell b := by simp [State.bell, List.getD_eq_getElem?_getD, hb]
  have hsplit : s.drive.bells = s.drive.bells.take b ++ s.bell b :: s.drive.bells.drop (b + 1) := by
    rw [← hbell]
    simp
  have hbefore := congrArg (List.countP (·.state == .driven)) hsplit
  have hafter := congrArg (List.countP (·.state == .driven)) (List.modify_eq_take_cons_drop (f := f) hb)
  rw [hbell] at hafter
  simp only [List.countP_append, List.countP_cons, beq_iff_eq] at hbefore hafter
  simp only [State.coilSurplus, State.modBell, Bell.coil]
  split_ifs at hbefore hafter ⊢ <;> omega

/-- A bell that is not DRIVEN afterwards leaves the coil it had to be counted off. -/
theorem coilSurplus_modBell_of_leaves {f : Bell → Bell} (hf : ∀ x, (f x).state ≠ .driven) :
    (s.modBell b f).coilSurplus = s.coilSurplus + (s.bell b).coil := by
  by_cases hb : b < s.drive.bells.length
  · rw [coilSurplus_modBell hb, coil_of_not_driven (hf _), Int.sub_zero]
  · rw [modBell_of_le (Nat.not_lt.1 hb), bell_of_le (Nat.not_lt.1 hb)]
    exact (Int.add_zero _).symm

/-- A change that keeps a bell DRIVEN or not DRIVEN leaves the surplus. -/
theorem coilSurplus_modBell_of_same {f : Bell → Bell} (hf : ∀ x, (f x).state = .driven ↔ x.state = .driven) :
    (s.modBell b f).coilSurplus = s.coilSurplus := by
  by_cases hb : b < s.drive.bells.length
  · have hcoil : (f (s.bell b)).coil = (s.bell b).coil := by simp [Bell.coil, hf]
    rw [coilSurplus_modBell hb, hcoil, Int.add_sub_cancel]
  · rw [modBell_of_le (Nat.not_lt.1 hb)]

/-- R127: a right count that stands beside a bell DRIVEN is not 0. -/
theorem energised_pos (h : s.coilSurplus = 0) (hb : (s.bell b).state = .driven) : 0 < s.drive.energised := by
  have hlt := lt_of_driven hb
  have hmem : s.bell b ∈ s.drive.bells := by simp [State.bell, List.getD_eq_getElem?_getD, hlt]
  have hpos : 0 < s.drive.bells.countP (·.state == .driven) := List.countP_pos_iff.2 ⟨_, hmem, by simp [hb]⟩
  unfold State.coilSurplus at h
  omega

/-- R123: a coil turned off is counted off. -/
theorem coilSurplus_coilFreed (h : 0 < s.drive.energised) : s.coilFreed.coilSurplus = s.coilSurplus - 1 := by
  simp only [State.coilSurplus, State.coilFreed]
  omega

end

/-! ## What the arbiter and the Score Player leave of the surplus (R82, R128, R129) -/

/-- R122, R129: a fire counts one coil more, and its bell is DRIVEN. -/
theorem coilSurplus_afterFire {s : State} {e : StrikeEntry} (h : s.eligible e = true) :
    (s.afterFire e).coilSurplus = s.coilSurplus := by
  have hready : (s.bell e.bell).coil = 0 := coil_of_not_driven (by rw [ready_of_eligible h]; exact nofun)
  have hmore : (s.afterFire e).coilSurplus =
      ({ s with drive := { s.drive with energised := s.drive.energised + 1 } } : State).coilSurplus +
        (s.bell e.bell).coil - 1 :=
    coilSurplus_modBell (s := { s with drive := { s.drive with energised := s.drive.energised + 1 } })
      (lt_of_eligible h) _
  rw [hmore, hready]
  simp only [State.coilSurplus]
  omega

section
variable (s : State)

@[simp] theorem arbiter_surplus : s.arbiter.coilSurplus = s.coilSurplus := by
  show (s.planner.queue.foldl State.fireIfEligible s).coilSurplus = _
  generalize s.planner.queue = l
  induction l generalizing s with
  | nil => rfl
  | cons e l ih =>
    refine (ih _).trans ?_
    by_cases hfire : 0 < s.drive.freeSlots ∧ s.eligible e
    · rw [fireIfEligible_of_eligible hfire.1 hfire.2, coilSurplus_afterFire hfire.2]
    · exact congrArg State.coilSurplus (if_neg hfire)

theorem plan_surplus (h : HandOver) : (s.plan h).1.coilSurplus = s.coilSurplus := by
  have hover : (s.handOver h).1.coilSurplus = s.coilSurplus := coilSurplus_of_drive (handOver_drive s h)
  unfold State.plan
  dsimp only
  split
  · exact hover
  · split
    · exact (arbiter_surplus _).trans hover
    · exact hover

theorem planNote_surplus (h : HandOver) : (s.planNote h).coilSurplus = s.coilSurplus := plan_surplus _ h

theorem planTest_surplus (h : HandOver) : (s.planTest h).1.coilSurplus = s.coilSurplus := by
  unfold State.planTest
  dsimp only
  split <;> exact plan_surplus s h

theorem actEvent_surplus (c : Context) (e : Event) (tick due : Nat) (pos : ScorePos) :
    (s.actEvent c e tick due pos).coilSurplus = s.coilSurplus := by
  cases e with
  | note pitch strength delta =>
    unfold State.actEvent
    dsimp only
    split
    · rfl
    · exact planNote_surplus ..
  | rest delta => rfl
  | tempo v delta => rfl
  | phrase delta => rfl

end

section
variable {s t : State} {c : Context}

theorem reachScore_surplus (h : s.reachScore c = some t) : t.coilSurplus = s.coilSurplus := by
  unfold State.reachScore at h
  split at h
  · cases h
  · split at h
    · cases h
      rfl
    · exact coilSurplus_of_drive (stopHere_drive h)
    · exact coilSurplus_of_drive (stopHere_drive h)
    · exact coilSurplus_of_drive (stopHere_drive h)
    · split at h
      · cases h
        exact coilSurplus_of_drive (stopHere_drive ‹_›)
      · split at h
        · cases h
        · dsimp only at h
          split at h <;> cases h
          exact (coilSurplus_of_drive (advance_drive ..)).trans (actEvent_surplus ..)

theorem reachToll_surplus (h : s.reachToll c = some t) : t.coilSurplus = s.coilSurplus := by
  unfold State.reachToll at h
  split at h
  · cases h
  · dsimp only at h
    split at h <;> cases h
    exact (coilSurplus_of_drive (advanceToll_drive _)).trans (planNote_surplus ..)

theorem reachLive_surplus (h : s.reachLive c = some t) : t.coilSurplus = s.coilSurplus := by
  unfold State.reachLive at h
  split at h
  · cases h
  · split at h
    · cases h
    · dsimp only at h
      split at h <;> cases h
      exact (actEvent_surplus ..).trans (coilSurplus_of_drive (raiseIf_drive ..))

theorem reachOne_surplus (h : s.reachOne = some t) : t.coilSurplus = s.coilSurplus := by
  unfold State.reachOne at h
  split at h
  · cases h
  · split at h
    · cases h
    · split at h
      · exact reachScore_surplus h
      · exact reachToll_surplus h
      · exact reachLive_surplus h

end

theorem reachAll_surplus (s : State) : s.reachAll.coilSurplus = s.coilSurplus := by
  suffices h : ∀ n s, (reachLoop n s).coilSurplus = s.coilSurplus from h reachFuel s
  intro n
  induction n with
  | zero => exact fun _ => rfl
  | succ n ih =>
    intro s
    unfold reachLoop
    split
    · rfl
    · exact (ih _).trans (reachOne_surplus ‹_›)

/-- R83, R89: whatever the Score Player goes on to do, the count stays right. -/
theorem settle_surplus (s : State) : s.settle.coilSurplus = s.coilSurplus := by
  unfold State.settle
  dsimp only
  split
  · exact reachAll_surplus s
  · exact (coilSurplus_of_drive (by simp)).trans (reachAll_surplus s)

theorem halt_surplus (s : State) (t : HaltTarget) (c : HaltCondition) : (s.halt t c).coilSurplus = s.coilSurplus := by
  have hlater (h : PendingHalt) : (s.haltLater t h).coilSurplus = s.coilSurplus := by
    unfold State.haltLater
    dsimp only
    split
    · exact (settle_surplus _).trans (coilSurplus_of_drive (haltActiveLater_drive ..))
    · rfl
  cases c
  · exact coilSurplus_of_drive (haltNow_drive s t)
  · exact hlater _
  · exact hlater _

/-! ## What holds while nothing opens or closes the arbiter (R127, R128) -/

/-- From `s` to `t` the arbiter stays open or closed as it was, the energised coils stay within K, and a closed arbiter
energises no coil and strikes no bell. -/
structure Restrained (s t : State) : Prop where
  openness : t.drive.arbiterOpen = s.drive.arbiterOpen
  limit : s.drive.energised ≤ s.drive.k → t.drive.energised ≤ t.drive.k
  energised : s.drive.arbiterOpen = false → t.drive.energised ≤ s.drive.energised
  strikes : s.drive.arbiterOpen = false → ∀ b, (t.bell b).strikes ≤ (s.bell b).strikes

theorem Restrained.trans {s t u : State} (h : Restrained s t) (g : Restrained t u) : Restrained s u where
  openness := g.openness.trans h.openness
  limit := g.limit ∘ h.limit
  energised hs := (g.energised (h.openness.trans hs)).trans (h.energised hs)
  strikes hs b := (g.strikes (h.openness.trans hs) b).trans (h.strikes hs b)

theorem Restrained.ofDrive {s t : State} (h : t.drive = s.drive) : Restrained s t where
  openness := by rw [h]
  limit := by rw [h]; exact id
  energised _ := by rw [h]
  strikes _ b := by unfold State.bell; rw [h]

/-- R127, R128: so is what the performance side does. -/
theorem Kept.restrained {s t : State} (h : Kept s t) : Restrained s t where
  openness := by simp only [Drive.arbiterOpen, h.hush, h.ready, h.level]
  limit := h.limit
  energised hs := (Restrained.ofDrive (h.silent hs)).energised hs
  strikes hs := (Restrained.ofDrive (h.silent hs)).strikes hs

/-- And the energised count stays the number of bells DRIVEN. -/
structure CoilsKept (s t : State) : Prop extends Restrained s t where
  counted : s.coilSurplus = 0 → t.coilSurplus = 0

theorem CoilsKept.trans {s t u : State} (h : CoilsKept s t) (g : CoilsKept t u) : CoilsKept s u :=
  ⟨h.toRestrained.trans g.toRestrained, g.counted ∘ h.counted⟩

/-- One operation after another, the last one first. -/
theorem CoilsKept.after {s t u : State} (g : CoilsKept t u) (h : CoilsKept s t) : CoilsKept s u := h.trans g

theorem CoilsKept.ofDrive {s t : State} (h : t.drive = s.drive) : CoilsKept s t :=
  ⟨.ofDrive h, (coilSurplus_of_drive h).trans⟩

theorem CoilsKept.refl (s : State) : CoilsKept s s := .ofDrive rfl

/-- What goes on from a state with the same drive. -/
theorem CoilsKept.afterDrive {s t u : State} (g : CoilsKept t u) (h : t.drive = s.drive) : CoilsKept s u :=
  (CoilsKept.ofDrive h).trans g

theorem Restrained.coils {s t : State} (h : Restrained s t) (hs : t.coilSurplus = s.coilSurplus) : CoilsKept s t :=
  ⟨h, hs.trans⟩

section
variable (s : State)

theorem arbiter_coils : CoilsKept s s.arbiter := (arbiter_kept s).restrained.coils (arbiter_surplus s)

theorem settle_coils : CoilsKept s s.settle := (settle_kept s).restrained.coils (settle_surplus s)

theorem arbiter_settle_coils : CoilsKept s s.arbiter.settle := (arbiter_coils s).trans (settle_coils _)

end

/-! ## The Drive Unit (R113, R119, R122–R126, R131, R134) -/

section
variable {s : State} {b : Nat}

/-- A bell changed without a strike. -/
theorem modBell_restrained {f : Bell → Bell} (hf : ∀ x, (f x).strikes = x.strikes) : Restrained s (s.modBell b f) where
  openness := rfl
  limit := id
  energised _ := le_rfl
  strikes _ n := by
    by_cases hn : n = b
    · subst hn
      by_cases hlt : n < s.drive.bells.length
      · rw [bell_modBell_self hlt, hf]
      · rw [modBell_of_le (Nat.not_lt.1 hlt)]
    · rw [bell_modBell_ne hn]

/-- A bell changed without a strike, DRIVEN neither before nor after or both. -/
theorem modBell_coils {f : Bell → Bell} (hf : ∀ x, (f x).strikes = x.strikes)
    (hd : ∀ x, (f x).state = .driven ↔ x.state = .driven) : CoilsKept s (s.modBell b f) :=
  (modBell_restrained hf).coils (coilSurplus_modBell_of_same hd)

/-- A bell that was not DRIVEN changed without a strike, and not DRIVEN afterwards. -/
theorem modBell_coils_of_not_driven {f : Bell → Bell} (hf : ∀ x, (f x).strikes = x.strikes)
    (hd : ∀ x, (f x).state ≠ .driven) (hb : (s.bell b).state ≠ .driven) : CoilsKept s (s.modBell b f) :=
  (modBell_restrained hf).coils (by rw [coilSurplus_modBell_of_leaves hd, coil_of_not_driven hb, Int.add_zero])

/-- R131: a coil turned off leaves fewer energised, and a lower K takes force only when they are within it. -/
theorem coilFreed_restrained : Restrained s s.coilFreed where
  openness := rfl
  limit h := by
    show s.drive.energised - 1 ≤ match s.drive.requestedK with
      | some k => if s.drive.energised - 1 ≤ k then k else s.drive.k
      | none => s.drive.k
    split
    · split <;> omega
    · omega
  energised _ := Nat.sub_le ..
  strikes _ _ := le_rfl

/-- R125: a bell on its way to READY or RECOVERING: its coil, if it had one, is to be counted off. -/
theorem toRecovering_coils (c : Cycle) : Restrained s (s.toRecovering b c) ∧
    (s.toRecovering b c).coilSurplus = s.coilSurplus + (s.bell b).coil := by
  unfold State.toRecovering
  split
  · exact ⟨(modBell_restrained fun _ => by rfl).trans (arbiter_kept _).restrained,
      (arbiter_surplus _).trans (coilSurplus_modBell_of_leaves fun _ => nofun)⟩
  · exact ⟨modBell_restrained fun _ => by rfl, coilSurplus_modBell_of_leaves fun _ => nofun⟩

/-- R113, R126: so a bell that is faulted. -/
theorem faultBell_coils (cause : FaultCause) : Restrained s (s.faultBell b cause) ∧
    (s.faultBell b cause).coilSurplus = s.coilSurplus + (s.bell b).coil := by
  rw [faultBell_eq]
  exact ⟨(modBell_restrained fun _ => by rfl).trans (.ofDrive rfl), coilSurplus_modBell_of_leaves fun _ => nofun⟩

/-- R123: so a bell at its pulse end. -/
theorem afterPulse_coils (c : Cycle) : Restrained s (s.afterPulse b c) ∧
    (s.afterPulse b c).coilSurplus = s.coilSurplus + (s.bell b).coil := by
  unfold State.afterPulse
  split
  · exact toRecovering_coils c
  · split
    · exact ⟨modBell_restrained fun _ => by rfl, coilSurplus_modBell_of_leaves fun _ => nofun⟩
    · split
      · exact toRecovering_coils c
      · exact faultBell_coils _

/-- R123, R127: at the end of a pulse one coil is counted off and its bell is DRIVEN no more; what the arbiter fires
in between leaves that bell alone. -/
theorem endPulse_coils (c : Cycle) (hb : (s.bell b).state = .driven) : CoilsKept s (s.endPulse b c) := by
  obtain ⟨hrestrained, hsurplus⟩ := afterPulse_coils (s := s.coilFreed.arbiter) (b := b) c
  refine CoilsKept.trans ⟨(coilFreed_restrained.trans (arbiter_kept _).restrained).trans hrestrained, fun h => ?_⟩ ?_
    (t := s.coilFreed.arbiter.afterPulse b c)
  · have hbell : s.coilFreed.arbiter.bell b = s.bell b :=
      bell_arbiter (s := s.coilFreed) (b := b) (by rw [show s.coilFreed.bell b = s.bell b from rfl, hb]; exact nofun)
    have hcoil : (s.bell b).coil = 1 := if_pos hb
    rw [hsurplus, arbiter_surplus, coilSurplus_coilFreed (energised_pos h hb), hbell, hcoil, h]
    rfl
  · unfold State.endPulse
    rw [coilOff_eq]
    exact settle_coils _

/-- R119: a bell under a new record. -/
def State.underRecord (s : State) (r : BellRecord) (x : Bell) : Bell := { x with
  record := r
  state := if r.present = false then .off else if x.state = .off then .ready else x.state
  cycle := if r.present = true then x.cycle else none
  wentOut := if r.present = true then x.wentOut else s.goneMark x }

theorem bellReplaced_eq (r : BellRecord) : s.bellReplaced b r =
    if (s.bell b).state = .driven ∧ r.present = false then ((s.modBell b (s.underRecord r)).bellCleared b).coilFreed
    else (s.modBell b (s.underRecord r)).bellCleared b := rfl

/-- R119, R127: a DRIVEN bell that a record takes out of use turns its coil off. -/
theorem bellReplaced_coils (r : BellRecord) : CoilsKept s (s.bellReplaced b r) := by
  have hrestrained : Restrained s ((s.modBell b (s.underRecord r)).bellCleared b) :=
    (modBell_restrained fun _ => by rfl).trans (.ofDrive rfl)
  rw [bellReplaced_eq]
  by_cases hp : r.present = false
  · have hoff (x : Bell) : (s.underRecord r x).state ≠ .driven := by simp [State.underRecord, hp]
    have hsurplus : ((s.modBell b (s.underRecord r)).bellCleared b).coilSurplus = s.coilSurplus + (s.bell b).coil :=
      coilSurplus_modBell_of_leaves hoff
    by_cases hb : (s.bell b).state = .driven
    · rw [if_pos ⟨hb, hp⟩]
      refine ⟨hrestrained.trans coilFreed_restrained, fun h => ?_⟩
      have hcoil : (s.bell b).coil = 1 := if_pos hb
      have hpos : 0 < s.drive.energised := energised_pos h hb
      rw [coilSurplus_coilFreed (s := (s.modBell b (s.underRecord r)).bellCleared b) hpos, hsurplus, h, hcoil]
      rfl
    · rw [if_neg fun h => hb h.1]
      exact hrestrained.coils (by rw [hsurplus, coil_of_not_driven hb, Int.add_zero])
  · have hkeeps (x : Bell) : (s.underRecord r x).state = .driven ↔ x.state = .driven := by
      by_cases hx : x.state = .off <;> simp [State.underRecord, hp, hx]
    rw [if_neg fun h => hp h.2]
    exact hrestrained.coils (coilSurplus_modBell_of_same hkeeps)

theorem takeBellRecord_coils (r : BellRecord) : CoilsKept s (s.takeBellRecord b r) := by
  rw [takeBellRecord_eq]
  exact (bellReplaced_coils r).trans (arbiter_coils _)

theorem hammerBack_coils : CoilsKept s (s.hammerBack b) := by
  unfold State.hammerBack
  split
  · exact .refl s
  · split
    · rename_i c _ hb
      obtain ⟨hrestrained, hsurplus⟩ := toRecovering_coils (s := s) (b := b) c
      refine (hrestrained.coils ?_).trans (settle_coils _)
      rw [hsurplus, coil_of_not_driven (by rw [hb]; exact nofun), Int.add_zero]
    · exact .refl s

/-- R134: with DRIVE READY low coils only turn off. -/
theorem releaseAllCoils_coils (h : s.drive.ready = false) : CoilsKept s s.releaseAllCoils := by
  have hone (u : State) (hu : u.drive.ready = false) (n : Nat) : Restrained u (u.releaseCoil n) := by
    rw [releaseCoil_eq hu]
    split
    · exact coilFreed_restrained.trans (modBell_restrained (released_strikes _))
    · exact .ofDrive rfl
  refine ⟨?_, ?_⟩
  · unfold State.releaseAllCoils
    generalize bellNumbers = l
    induction l generalizing s with
    | nil => exact .ofDrive rfl
    | cons n l ih => exact (hone s h n).trans (ih ((releaseCoil_released h n).ready.trans h))
  · simpa only [coilsCounted_iff] using (releaseAllCoils_released h).counted

end

end Sys2Proof.Machine
end


section
/-! PROOFS. The coils (R127, R128): the requests, the links, the store and the bytes of a frame leave the arbiter open
or closed as it was, and keep what it keeps. -/

namespace Sys2Proof.Machine

/-! ## The store (R86–R88, R169–R172) -/

section
variable (s : State)

theorem storePlaces_drive (job : StoreJob) (result : Completion) : (s.storePlaces job result).drive = s.drive := by
  cases result <;> rfl

theorem applyFailed_drive (job : StoreJob) : (s.applyFailed job).drive = s.drive := by
  cases job <;> rfl

theorem bufferRead_drive (slot segment : Nat) (d : Option Segment) :
    (s.bufferRead slot segment d).drive = s.drive := by
  unfold State.bufferRead
  dsimp only
  repeat' split
  all_goals rfl

theorem portRead_drive (p : Port) (slot segment : Nat) (noise : List Byte) :
    (s.portRead p slot segment noise).drive = s.drive := by
  unfold State.portRead
  dsimp only
  rw [respond_drive]
  split <;> rfl

theorem serveRead_drive (r : ReadRequest) (noise : List Byte) : (s.serveRead r noise).drive = s.drive := by
  unfold State.serveRead
  split
  · rfl
  · exact bufferRead_drive ..
  · exact portRead_drive ..

end

/-! ## The owners' parts of the requests -/

section
variable (p : Port) (body : List Byte) (s : State)

theorem serveBook_drive : (s.serveBook p body).drive = s.drive := by
  unfold State.serveBook
  repeat' split
  all_goals simp

theorem serveAmend_drive : (s.serveAmend p body).drive = s.drive := by
  unfold State.serveAmend State.amendChecked
  dsimp only
  repeat' split
  all_goals simp

theorem serveWithdraw_drive : (s.serveWithdraw p body).drive = s.drive := by
  unfold State.serveWithdraw
  repeat' split
  all_goals simp

theorem serveLookUp_drive : (s.serveLookUp p body).drive = s.drive := by
  unfold State.serveLookUp
  repeat' split
  all_goals simp

theorem serveSetCursor_drive : (s.serveSetCursor p body).drive = s.drive := by
  unfold State.serveSetCursor
  split <;> simp [State.setCursor]

theorem serveBrowse_drive : (s.serveBrowse p).drive = s.drive := by
  unfold State.serveBrowse
  split <;> simp [State.setCursor]

theorem serveReadOutcomes_drive : (s.serveReadOutcomes p).drive = s.drive := by
  simp [State.serveReadOutcomes]

theorem servePlayNow_drive : (s.servePlayNow p body).drive = s.drive := by
  unfold State.servePlayNow
  repeat' split
  all_goals simp

theorem serveLiveOpen_drive : (s.serveLiveOpen p body).drive = s.drive := by
  unfold State.serveLiveOpen
  repeat' split
  all_goals simp

theorem serveDefine_drive : (s.serveDefine p body).drive = s.drive := by
  unfold State.serveDefine
  repeat' split
  all_goals simp

theorem serveStoreSegment_drive : (s.serveStoreSegment p body).drive = s.drive := by
  unfold State.serveStoreSegment
  dsimp only
  repeat' split
  all_goals simp

theorem serveReadSegment_drive : (s.serveReadSegment p body).drive = s.drive := by
  unfold State.serveReadSegment
  dsimp only
  repeat' split
  all_goals simp

theorem serveErase_drive : (s.serveErase p body).drive = s.drive := by
  unfold State.serveErase
  repeat' split
  all_goals simp

theorem serveMelodyInfo_drive : (s.serveMelodyInfo p body).drive = s.drive := by
  unfold State.serveMelodyInfo
  split <;> simp

theorem serveSetBell_drive : (s.serveSetBell p body).drive = s.drive := by
  unfold State.serveSetBell
  repeat' split
  all_goals simp

theorem serveBellStatus_drive : (s.serveBellStatus p body).drive = s.drive := by
  unfold State.serveBellStatus
  split <;> simp

theorem serveSetDrive_drive : (s.serveSetDrive p body).drive = s.drive := by
  unfold State.serveSetDrive
  repeat' split
  all_goals simp

theorem serveProtection_drive : (s.serveProtection p body).drive = s.drive := by
  unfold State.serveProtection
  repeat' split
  all_goals simp

theorem serveSetTime_drive : (s.serveSetTime p body).drive = s.drive := by
  unfold State.serveSetTime
  split <;> simp

theorem serveReadNotices_drive : (s.serveReadNotices p).drive = s.drive := respond_drive ..

theorem serveMask_drive : (s.serveMask p body).drive = s.drive := by
  unfold State.serveMask
  split <;> exact respond_drive ..

theorem serveReset_drive : (s.serveReset p).drive = s.drive := respond_drive ..

/-! Five requests let the arbiter or the Score Player go on. -/

theorem respond_coils (r : Byte) (c : AnswerCode) (bytes : List Byte) : CoilsKept s (s.respond p r c bytes) :=
  .ofDrive (respond_drive ..)

theorem serveHalt_coils : CoilsKept s (s.serveHalt p body) := by
  unfold State.serveHalt
  split
  · exact respond_coils ..
  · dsimp only
    split
    · exact respond_coils ..
    · split
      · exact respond_coils ..
      · exact ((halt_kept _ _ s).restrained.coils (halt_surplus s ..)).trans (respond_coils ..)

theorem serveLiveNotes_coils : CoilsKept s (s.serveLiveNotes p body) := by
  unfold State.serveLiveNotes
  split
  · exact respond_coils ..
  · split
    · exact respond_coils ..
    · exact (settle_coils _).afterDrive (respond_drive ..)

theorem serveLiveClose_coils : CoilsKept s (s.serveLiveClose p) := by
  unfold State.serveLiveClose
  split
  · exact respond_coils ..
  · exact (settle_coils _).afterDrive (respond_drive ..)

theorem serveRestoreBell_coils : CoilsKept s (s.serveRestoreBell p body) := by
  unfold State.serveRestoreBell
  split
  · exact respond_coils ..
  · split
    · exact respond_coils ..
    · rename_i b _ _ hb
      have hready : CoilsKept s (s.modBell b Bell.toReady) :=
        modBell_coils_of_not_driven (fun _ => by rfl) (fun _ => nofun) (by rw [hb]; exact nofun)
      exact (hready.trans (arbiter_settle_coils _)).trans (respond_coils ..)
    all_goals exact respond_coils ..

theorem serveTestStrike_coils : CoilsKept s (s.serveTestStrike p body) := by
  unfold State.serveTestStrike
  split
  · exact respond_coils ..
  · exact (((planTest_kept _ s).restrained.coils (planTest_surplus s _)).trans (respond_coils ..)).trans (settle_coils _)

/-- R184: whatever its code, a request's owner keeps to the arbiter. -/
theorem serve_coils (code : Byte) : CoilsKept s (s.serve p code body) := by
  unfold State.serve
  split
  · exact .ofDrive (serveBook_drive ..)
  · exact .ofDrive (serveAmend_drive ..)
  · exact .ofDrive (serveWithdraw_drive ..)
  · exact .ofDrive (serveLookUp_drive ..)
  · exact .ofDrive (serveSetCursor_drive ..)
  · exact .ofDrive (serveBrowse_drive ..)
  · exact respond_coils ..
  · exact .ofDrive (serveReadOutcomes_drive ..)
  · exact .ofDrive (servePlayNow_drive ..)
  · exact serveHalt_coils ..
  · exact respond_coils ..
  · exact .ofDrive (serveLiveOpen_drive ..)
  · exact serveLiveNotes_coils ..
  · exact serveLiveClose_coils ..
  · exact .ofDrive (serveDefine_drive ..)
  · exact .ofDrive (serveStoreSegment_drive ..)
  · exact .ofDrive (serveReadSegment_drive ..)
  · exact .ofDrive (serveErase_drive ..)
  · exact .ofDrive (serveMelodyInfo_drive ..)
  · exact .ofDrive (serveSetBell_drive ..)
  · exact .ofDrive (serveBellStatus_drive ..)
  · exact serveRestoreBell_coils ..
  · exact serveTestStrike_coils ..
  · exact .ofDrive (serveSetDrive_drive ..)
  · exact .ofDrive (serveProtection_drive ..)
  · exact .ofDrive (serveSetTime_drive ..)
  · exact respond_coils ..
  · exact .ofDrive (serveReadNotices_drive ..)
  · exact .ofDrive (serveMask_drive ..)
  · exact .ofDrive (serveReset_drive ..)
  · exact .refl s

end

/-! ## The links (R178–R186) -/

section
variable (p : Port) (s : State)

@[simp] theorem gap_drive : (s.gap p).drive = s.drive := by
  unfold State.gap
  repeat' split
  all_goals rfl

theorem startAnswer_drive : (s.startAnswer p).drive = s.drive := by
  unfold State.startAnswer
  repeat' split
  all_goals rfl

theorem finishAnswer_drive : (s.finishAnswer p).drive = s.drive := by
  unfold State.finishAnswer
  split <;> rfl

/-- R180–R184: a request keeps to the arbiter when its owner does. -/
theorem takeRequest_coils (code : Byte) (body : List Byte) {serve : State → State} (h : ∀ u, CoilsKept u (serve u)) :
    CoilsKept s (s.takeRequest p code body serve) := by
  unfold State.takeRequest
  split
  · exact .refl s
  · refine CoilsKept.afterDrive ?_ (gap_drive p s)
    dsimp only
    split
    · exact .refl _
    · split
      · exact .ofDrive rfl
      · split
        · exact .ofDrive (respond_drive ..)
        · split
          · exact .ofDrive (respond_drive ..)
          · exact (h _).afterDrive rfl

theorem broadcast_drive (body : List Byte) : (s.broadcast body).drive = s.drive := by
  unfold State.broadcast
  dsimp only
  repeat' split
  all_goals simp

theorem takeFrame_coils (f : RequestFrame) : CoilsKept s (s.takeFrame p f) := by
  unfold State.takeFrame
  split
  · exact .refl s
  · split
    · exact .ofDrive rfl
    · exact .refl s
    · exact .ofDrive (broadcast_drive s _)
    · exact takeRequest_coils p s _ _ fun u => serve_coils p _ u _

/-- R179: however many frames the bytes hold. -/
theorem frames_coils (n : Nat) (bs : List Byte) : CoilsKept s (State.frames p n bs s) := by
  induction n generalizing bs s with
  | zero => exact .ofDrive rfl
  | succ n ih =>
    unfold State.frames
    split
    case h_5 => exact (ih _ _).afterDrive (keepBytes_drive ..)
    case h_6 => exact ((ih _ _).after (takeFrame_coils p _ _)).afterDrive (keepBytes_drive ..)
    all_goals exact .ofDrive rfl

theorem receive_coils (bytes : List Byte) : CoilsKept s (s.receive p bytes) := by
  unfold State.receive
  split
  · exact .refl s
  · exact frames_coils ..

end

theorem passDeadline_drive (c : Context) (s : State) : (s.passDeadline c).drive = s.drive := by
  unfold State.passDeadline
  dsimp only
  repeat' split
  all_goals rfl

end Sys2Proof.Machine
end


section
/-! PROOFS. Every step keeps the energised coils within K and their count right (R127), and a closed arbiter energises
no coil and strikes no bell (R128): O7 and O11. -/

namespace Sys2Proof.Machine

/-! ## Commands that open or close the arbiter (R68, R132–R134, R174) -/

/-- What every command keeps, whether it opens or closes the arbiter or leaves it. -/
structure SupplyKept (s t : State) : Prop where
  limit : s.drive.energised ≤ s.drive.k → t.drive.energised ≤ t.drive.k
  counted : s.coilSurplus = 0 → t.coilSurplus = 0
  energised : s.drive.arbiterOpen = false → t.drive.arbiterOpen = false → t.drive.energised ≤ s.drive.energised
  strikes : s.drive.arbiterOpen = false → t.drive.arbiterOpen = false → ∀ b, (t.bell b).strikes ≤ (s.bell b).strikes

theorem CoilsKept.supply {s t : State} (h : CoilsKept s t) : SupplyKept s t :=
  ⟨h.limit, h.counted, fun hs _ => h.energised hs, fun hs _ => h.strikes hs⟩

/-- A change of the lines or the bank comes first; what follows leaves the arbiter open or closed. -/
theorem SupplyKept.trans {s t u : State} (h : SupplyKept s t) (g : CoilsKept t u) : SupplyKept s u where
  limit := g.limit ∘ h.limit
  counted := g.counted ∘ h.counted
  energised hs hu :=
    have ht := g.openness.symm.trans hu
    (g.energised ht).trans (h.energised hs ht)
  strikes hs hu b :=
    have ht := g.openness.symm.trans hu
    (g.strikes ht b).trans (h.strikes hs ht b)

theorem SupplyKept.afterDrive {s t u : State} (g : SupplyKept t u) (h : t.drive = s.drive) : SupplyKept s u where
  limit := h ▸ g.limit
  counted := coilSurplus_of_drive h ▸ g.counted
  energised := h ▸ g.energised
  strikes := by
    have hstrikes := g.strikes
    unfold State.bell at hstrikes ⊢
    rwa [h] at hstrikes

/-- A change of the drive beside the bells and the energised count. -/
theorem SupplyKept.ofSame {s t : State} (bells : t.drive.bells = s.drive.bells)
    (energised : t.drive.energised = s.drive.energised)
    (limit : s.drive.energised ≤ s.drive.k → s.drive.energised ≤ t.drive.k) : SupplyKept s t where
  limit := by rw [energised]; exact limit
  counted := by unfold State.coilSurplus; rw [bells, energised]; exact id
  energised _ _ := energised.le
  strikes _ _ b := by unfold State.bell; rw [bells]

/-- A drive at rest: no coil is energised, and no bell is DRIVEN or has counted a strike. -/
theorem SupplyKept.ofRest {s t : State} (energised : t.drive.energised = 0)
    (bells : ∀ x ∈ t.drive.bells, x.state ≠ .driven ∧ x.strikes = 0) : SupplyKept s t where
  limit _ := by rw [energised]; exact Nat.zero_le _
  counted _ := by
    have hnone : t.drive.bells.countP (·.state == .driven) = 0 :=
      List.countP_eq_zero.2 fun x hx => by simpa using (bells x hx).1
    rw [State.coilSurplus, energised, hnone]
    rfl
  energised _ _ := by rw [energised]; exact Nat.zero_le _
  strikes _ _ b := by
    have hbell : (t.bell b).strikes = 0 := by
      by_cases hb : b < t.drive.bells.length
      · have hget : t.bell b = t.drive.bells[b] := by simp [State.bell, List.getD_eq_getElem?_getD, hb]
        rw [hget]
        exact (bells _ (List.getElem_mem hb)).2
      · rw [bell_of_le (Nat.not_lt.1 hb)]
        rfl
    rw [hbell]
    exact Nat.zero_le _

section
variable (s : State)

/-- R138, R174: a reset leaves the drive at rest. -/
theorem resetWith_supply (T : TowerTime) (lock key : Bool) (sensors : List Bool) (m : Nat) (ready hush : Bool)
    (straps : Straps) (cause : ResetCause) (atB : Bool) :
    SupplyKept s (s.resetWith T lock key (.initial sensors m ready hush) straps cause atB) := by
  refine .ofRest rfl fun x hx => ?_
  obtain ⟨_, _, rfl⟩ := List.mem_map.1 hx
  exact ⟨nofun, rfl⟩

theorem afterLoad_at_rest (x : Bell) (p : Place BellRecord) :
    (x.afterLoad p).state ≠ .driven ∧ (x.afterLoad p).strikes = 0 := by
  refine ⟨?_, rfl⟩
  unfold Bell.afterLoad
  dsimp only
  split <;> exact nofun

/-- R138, R177: so does the load. -/
theorem finishLoad_supply : SupplyKept s s.finishLoad := by
  unfold State.finishLoad
  split
  · refine .ofRest (by rw [raiseIf_drive, raiseIf_drive]; rfl) fun x hx => ?_
    rw [raiseIf_drive, raiseIf_drive] at hx
    obtain ⟨i, hi, rfl⟩ := List.getElem_of_mem hx
    simp only [Drive.afterLoad, List.getElem_zipWith]
    exact afterLoad_at_rest ..
  · exact (CoilsKept.refl s).supply

theorem classify_drive : s.classify.drive = { s.drive with
    level := bankStep s.drive.level s.drive.low s.drive.critical s.drive.measurement } := raiseIf_drive ..

theorem settingsTaken_drive (d : DriveSettings) : (s.settingsTaken d).drive = { s.drive with
    low := d.low, critical := d.critical
    level := bankStep s.drive.level d.low d.critical s.drive.measurement
    k := if d.k < s.drive.k ∧ d.k < s.drive.energised then s.drive.k else d.k
    requestedK := if d.k < s.drive.k ∧ d.k < s.drive.energised then some d.k else none } := raiseIf_drive ..

/-- R132: a measurement and the level it gives are changes beside the bells. -/
theorem bankMeasurement_supply (v : Nat) : SupplyKept s ((s.setMeasurement v).reclassify).settle := by
  have hdrive := classify_drive (s.setMeasurement v)
  have hlevel : SupplyKept s (s.setMeasurement v).classify :=
    .ofSame (by rw [hdrive]; rfl) (by rw [hdrive]; rfl) (by rw [hdrive]; exact id)
  refine SupplyKept.trans ?_ (settle_coils _)
  unfold State.reclassify
  split
  · exact hlevel.trans (arbiter_coils _)
  · exact hlevel

/-- R131, R136: drive settings take a lower K only when the energised coils are within it. -/
theorem takeDriveSettings_supply (d : DriveSettings) : SupplyKept s (s.takeDriveSettings d) := by
  have hdrive := settingsTaken_drive s d
  have hsettings : SupplyKept s (s.settingsTaken d) := by
    refine .ofSame (by rw [hdrive]) (by rw [hdrive]) fun h => ?_
    rw [hdrive]
    dsimp only
    split <;> omega
  rw [takeDriveSettings_eq]
  exact hsettings.trans (arbiter_coils _)

theorem releaseHush_supply : SupplyKept s s.releaseHush := by
  have hline : SupplyKept s (s.setHush false) := .ofSame rfl rfl id
  unfold State.releaseHush
  dsimp only
  split
  · exact hline
  · exact (hline.trans (arbiter_coils _)).trans (.ofDrive (releaseEngine_drive _))

theorem fallReady_supply : SupplyKept s s.fallReady := by
  have hline : SupplyKept s (s.setReady false) := .ofSame rfl rfl id
  have hcoils : CoilsKept (s.setReady false) (s.setReady false).releaseAllCoils := releaseAllCoils_coils rfl
  exact ((hline.trans hcoils).trans (.ofDrive (raise_drive _ .drive))).trans (.ofDrive (loseDrive_drive _))

theorem riseReady_supply : SupplyKept s s.riseReady := by
  have hline : SupplyKept s ((s.setReady true).raise .drive) := .ofSame rfl rfl id
  exact (hline.trans (arbiter_settle_coils _)).trans (.ofDrive (reconsider_drive _))

theorem applyVerified_supply (job : StoreJob) : SupplyKept s (s.applyVerified job) := by
  cases job with
  | book n r => exact (CoilsKept.ofDrive (createBooking_drive ..)).supply
  | amend n r => exact (CoilsKept.ofDrive (amendBooking_drive ..)).supply
  | withdraw n => exact (CoilsKept.ofDrive (withdrawNow_drive ..)).supply
  | setBell b r => exact ((takeBellRecord_coils r).trans (settle_coils _)).supply
  | setDrive d => exact (takeDriveSettings_supply s d).trans (settle_coils _)
  | setProtection r => exact .ofSame rfl rfl id
  | define m h => exact .ofSame rfl rfl id
  | segment m i bytes => exact .ofSame rfl rfl id
  | erase m => exact .ofSame rfl rfl id

theorem completeOp_supply (op : StoreOp) (result : Completion) : SupplyKept s (s.completeOp op result) := by
  have hfailed (u : State) (hu : u.drive = s.drive) : SupplyKept s
      ((((u.applyFailed op.job).raise .store).storeIdle).respond op.port op.job.code .storeFault []) :=
    (CoilsKept.ofDrive (by simp [applyFailed_drive, hu])).supply
  cases result with
  | verified =>
    exact ((applyVerified_supply _ op.job).afterDrive (storePlaces_drive ..)).trans (.ofDrive (respond_drive ..))
  | failed => exact hfailed _ (storePlaces_drive ..)
  | failedAtCopyB => exact hfailed _ (storePlaces_drive ..)

end

/-! ## Every command -/

/-- A command that answers one given next state keeps to the supply when that state does. -/
theorem supply_of_next {s t u : State} (h : SupplyKept s u)
    (e : (Host.Outcome.next u : Host.Outcome State Fault Refusal) = .next t) : SupplyKept s t := by
  cases e
  exact h

/-- R127, R128: every command keeps to the supply. -/
theorem exec_supply (c : Instr) (s t : State) (h : exec c s = .next t) : SupplyKept s t := by
  have coils {u : State} (hu : CoilsKept s u)
      (e : (Host.Outcome.next u : Host.Outcome State Fault Refusal) = .next t) : SupplyKept s t :=
    supply_of_next hu.supply e
  have request (p : Port) (code : Byte) (body : List Byte) {serve : State → State}
      (hs : ∀ u, CoilsKept u (serve u)) := takeRequest_coils p s code body hs
  have aside (p : Port) (code : Byte) (body : List Byte) {serve : State → State}
      (hs : ∀ u, (serve u).drive = u.drive) := takeRequest_coils p s code body fun u => .ofDrive (hs u)
  have answer (p : Port) (code : Byte) (body : List Byte) (r : Byte) (a : AnswerCode) (f : State → List Byte) :=
    takeRequest_coils p s code body fun u => respond_coils p u r a (f u)
  cases c with
  | powerOn pins straps b => exact supply_of_next (resetWith_supply ..) h
  | towerReset straps b => exact supply_of_next (resetWith_supply ..) h
  | loadComplete => exact supply_of_next (finishLoad_supply s) h
  | referencePulse => exact coils (.ofDrive (pulse_drive s)) h
  | pulseTimeout =>
    refine coils ?_ h
    split
    · exact .refl s
    · split
      · exact .ofDrive (expirePulse_drive s)
      · exact .refl s
  | normalAdvance => exact coils (.ofDrive (normalAdvance_drive s)) h
  | setTime p body => exact coils (aside _ _ _ (serveSetTime_drive p body)) h
  | broadcastSetTime body => exact coils (.ofDrive (broadcast_drive s body)) h
  | readTime p body => exact coils (answer _ _ _ _ _ _) h
  | book p body => exact coils (aside _ _ _ (serveBook_drive p body)) h
  | amend p body => exact coils (aside _ _ _ (serveAmend_drive p body)) h
  | withdraw p body => exact coils (aside _ _ _ (serveWithdraw_drive p body)) h
  | lookUp p body => exact coils (aside _ _ _ (serveLookUp_drive p body)) h
  | setCursor p body => exact coils (aside _ _ _ (serveSetCursor_drive p body)) h
  | browse p body => exact coils (aside _ _ _ (serveBrowse_drive p)) h
  | nextDue p body => exact coils (answer _ _ _ _ _ _) h
  | readOutcomes p body => exact coils (aside _ _ _ (serveReadOutcomes_drive p)) h
  | playNow p body => exact coils (aside _ _ _ (servePlayNow_drive p body)) h
  | halt p body => exact coils (request _ _ _ (serveHalt_coils p body)) h
  | performanceStatus p body => exact coils (answer _ _ _ _ _ _) h
  | liveOpen p body => exact coils (aside _ _ _ (serveLiveOpen_drive p body)) h
  | liveNotes p body => exact coils (request _ _ _ (serveLiveNotes_coils p body)) h
  | liveClose p body => exact coils (request _ _ _ (serveLiveClose_coils p)) h
  | defineMelody p body => exact coils (aside _ _ _ (serveDefine_drive p body)) h
  | storeSegment p body => exact coils (aside _ _ _ (serveStoreSegment_drive p body)) h
  | readSegment p body => exact coils (aside _ _ _ (serveReadSegment_drive p body)) h
  | eraseMelody p body => exact coils (aside _ _ _ (serveErase_drive p body)) h
  | melodyInfo p body => exact coils (aside _ _ _ (serveMelodyInfo_drive p body)) h
  | setBell p body => exact coils (aside _ _ _ (serveSetBell_drive p body)) h
  | bellStatus p body => exact coils (aside _ _ _ (serveBellStatus_drive p body)) h
  | restoreBell p body => exact coils (request _ _ _ (serveRestoreBell_coils p body)) h
  | testStrike p body => exact coils (request _ _ _ (serveTestStrike_coils p body)) h
  | setDrive p body => exact coils (aside _ _ _ (serveSetDrive_drive p body)) h
  | setProtection p body => exact coils (aside _ _ _ (serveProtection_drive p body)) h
  | readNotices p body => exact coils (aside _ _ _ (serveReadNotices_drive p)) h
  | setNoticeMask p body => exact coils (aside _ _ _ (serveMask_drive p body)) h
  | reset p body => exact coils (aside _ _ _ (serveReset_drive p)) h
  | resetTakesEffect straps b =>
    refine supply_of_next ?_ h
    split
    · exact resetWith_supply ..
    · exact (CoilsKept.refl s).supply
  | unknownRequest p code body => exact coils (request _ _ _ fun u => serve_coils p body u code) h
  | frameDiscard p bytes => exact coils (receive_coils p s bytes) h
  | foreignFrame p bytes => exact coils (receive_coils p s bytes) h
  | frameGapTimeout p bytes => exact coils ((receive_coils p s bytes).trans (.ofDrive (gap_drive p _))) h
  | answerTransmitStart p => exact coils (.ofDrive (startAnswer_drive p s)) h
  | answerSent p => exact coils (.ofDrive (finishAnswer_drive p s)) h
  | keyChange on =>
    cases h
    exact .ofSame rfl rfl id
  | hushAssert =>
    refine supply_of_next ?_ h
    split
    · exact (CoilsKept.refl s).supply
    · have hline : SupplyKept s (s.setHush true) := .ofSame rfl rfl id
      exact hline.trans (.ofDrive (hushActive_drive _))
  | hushRelease =>
    refine supply_of_next ?_ h
    split
    · exact releaseHush_supply s
    · exact (CoilsKept.refl s).supply
  | driveReadyFall =>
    refine supply_of_next ?_ h
    split
    · exact fallReady_supply s
    · exact (CoilsKept.refl s).supply
  | driveReadyRise =>
    refine supply_of_next ?_ h
    split
    · exact (CoilsKept.refl s).supply
    · exact riseReady_supply s
  | bankMeasurement value =>
    refine supply_of_next ?_ h
    split
    · exact .ofSame rfl rfl id
    · exact bankMeasurement_supply s _
  | sensorOpens bell =>
    have hlevel : CoilsKept s (s.modBell bell Bell.open) := modBell_coils (fun _ => by rfl) fun _ => .rfl
    exact coils hlevel h
  | sensorCloses bell =>
    have hlevel : CoilsKept s (s.modBell bell fun b => { b with sensorOpen := false }) :=
      modBell_coils (fun _ => by rfl) fun _ => .rfl
    exact coils (hlevel.trans hammerBack_coils) h
  | fireTimeReached => exact coils (arbiter_settle_coils s) h
  | pulseEnd bell =>
    refine coils ?_ h
    split
    · exact .refl s
    · split
      · rename_i hend
        exact endPulse_coils _ hend.1
      · exact .refl s
  | returnLimit bell =>
    refine coils ?_ h
    split
    · rename_i hover
      have hreturning : (s.bell bell).state = .returning := by
        simp only [Bell.overdue, Bool.and_eq_true, beq_iff_eq] at hover
        exact hover.1
      obtain ⟨hrestrained, hsurplus⟩ := faultBell_coils (s := s) (b := bell) .noReturn
      refine (hrestrained.coils ?_).trans (settle_coils _)
      rw [hsurplus, coil_of_not_driven (by rw [hreturning]; exact nofun), Int.add_zero]
    · exact .refl s
  | recoveryTime bell =>
    refine coils ?_ h
    split
    · exact .refl s
    · split
      · rename_i hend
        have hready : CoilsKept s (s.modBell bell Bell.toReady) :=
          modBell_coils_of_not_driven (fun _ => by rfl) (fun _ => nofun) (by rw [hend.1]; exact nofun)
        exact hready.trans (arbiter_settle_coils _)
      · exact .refl s
  | entryDrop =>
    refine coils ?_ h
    split
    · exact .refl s
    · exact (settle_coils _).afterDrive (dropEntry_drive s _)
  | planningHorizonReached => exact coils (settle_coils s) h
  | feedDeadline =>
    refine coils ?_ h
    split
    · exact .refl s
    · split
      · exact .refl s
      · split
        · exact .ofDrive (passDeadline_drive _ s)
        · exact .refl s
  | idleLimit =>
    refine coils ?_ h
    split
    · exact .ofDrive ((resumeChoice_drive _).trans (endActive_drive ..))
    · exact .refl s
  | storeCompletion result =>
    refine supply_of_next ?_ h
    split
    · exact (CoilsKept.refl s).supply
    · split
      · exact completeOp_supply s _ _
      · exact (CoilsKept.refl s).supply
  | suspendEnd =>
    refine coils ?_ h
    split
    · exact .ofDrive rfl
    · exact .refl s
  | segmentReadCompletion noise =>
    refine coils ?_ h
    split
    · exact .refl s
    · split
      · exact (settle_coils _).afterDrive (serveRead_drive _ _ noise)
      · exact .refl s

/-- R127: a step keeps what every command keeps, and a crystal period leaves the drive alone. -/
theorem step_supply {s t : State} (h : step s = .next t) : SupplyKept s t := by
  unfold step at h
  split at h
  · cases h
    exact .ofSame rfl rfl id
  · have hcommand := exec_supply _ _ t h
    exact ⟨hcommand.limit, hcommand.counted, hcommand.energised, hcommand.strikes⟩

/-- Settles O7: every step keeps to the supply (`step_supply`). A fire takes a free slot and counts the bell it makes
DRIVEN (`coilSurplus_afterFire`), each bell that is DRIVEN no more is counted off (`endPulse_coils`,
`bellReplaced_coils`, `releaseAllCoils_coils`), and a lower K waits for the coils (`coilFreed_restrained`,
`takeDriveSettings_supply`). -/
theorem coilLimitIsKept : Obligations.CoilLimitIsKept := by
  unfold Obligations.CoilLimitIsKept
  refine ⟨fun s t hs h => ?_, fun s t hs h => ?_⟩
  · exact decide_eq_true ((step_supply h).limit (of_decide_eq_true hs))
  · exact (coilsCounted_iff t).2 ((step_supply h).counted ((coilsCounted_iff s).1 hs))

/-- Settles O11: no command energises or strikes while the arbiter is closed before and after it (`exec_supply`): one
that closes it does so before it does anything else, and one that opens it is excluded. -/
theorem closedArbiterFiresNothing : Obligations.ClosedArbiterFiresNothing := by
  unfold Obligations.ClosedArbiterFiresNothing
  intro c s t h hs ht
  have hsupply := exec_supply c s t h
  exact ⟨hsupply.energised hs ht, hsupply.strikes hs ht⟩

end Sys2Proof.Machine
end


section
/-! PROOFS. RESTORE_BELL and BANK_MEASUREMENT (R120, R132, R133): O49 and O54. -/

namespace Sys2Proof.Machine

/-! ## RESTORE_BELL (R120) -/

section
variable {s : State} {p : Port} {b : Nat} (hb : b < 64) (h : s.takes p 0x16 1 = true)
include hb h

theorem exec_restoreBell_off (hs : (s.bell b).state = .off) :
    exec (.restoreBell p [BitVec.ofNat 8 b]) s = .next (s.answered p 0x16 .noSuch []) := by
  have hstate : ((s.taken p).bell b).state = .off := hs
  refine congrArg Host.Outcome.next (takeRequest_answered (body := [BitVec.ofNat 8 b]) h ?_)
  simp only [State.serveRestoreBell, byteField_ofNat (Nat.le_of_lt_succ hb) (by decide), hstate]

theorem exec_restoreBell_in_use (hoff : (s.bell b).state ≠ .off) (hfaulted : (s.bell b).state ≠ .faulted) :
    exec (.restoreBell p [BitVec.ofNat 8 b]) s = .next (s.answered p 0x16 .done []) := by
  refine congrArg Host.Outcome.next (takeRequest_answered (body := [BitVec.ofNat 8 b]) h ?_)
  simp only [State.serveRestoreBell, byteField_ofNat (Nat.le_of_lt_succ hb) (by decide)]
  split
  · exact absurd ‹_› hoff
  · exact absurd ‹_› hfaulted
  all_goals rfl

/-- R120, R128: the answer follows what the arbiter and the Score Player make of the bell READY. -/
theorem exec_restoreBell_faulted (hs : (s.bell b).state = .faulted) :
    exec (.restoreBell p [BitVec.ofNat 8 b]) s = .next (((s.taken p).modBell b Bell.toReady).arbiter.settle.modPort p
      fun q => { q with ready := q.ready ++ [⟨.done, 0x16, []⟩] }) := by
  have hstate : ((s.taken p).bell b).state = .faulted := hs
  have hkept := (arbiter_kept ((s.taken p).modBell b Bell.toReady)).trans (settle_kept _)
  have hpending : ((s.taken p).restore b).links.resetPending = false := by
    refine (congrArg Links.resetPending hkept.links).trans ?_
    rw [modBell_links, State.taken, resetPending_modPort]
    exact resetPending_of_takes h
  refine congrArg Host.Outcome.next ((takeRequest_takes (body := [BitVec.ofNat 8 b]) h _).trans ?_)
  simp only [State.serveRestoreBell, byteField_ofNat (Nat.le_of_lt_succ hb) (by decide), hstate]
  exact respond_eq _ _ _ _ _ hpending

end

/-- Settles O49: one lemma for each state of the bell; with nothing planned or playing the arbiter and the Score Player
do nothing with a bell READY (`arbiter_settle_of_quiet`). -/
theorem restoreBellClearsTheFault : Obligations.RestoreBellClearsTheFault := by
  unfold Obligations.RestoreBellClearsTheFault
  intro p b s hb h
  refine ⟨exec_restoreBell_off hb h, fun hs => ⟨fun hq => ?_, _, rfl, exec_restoreBell_faulted hb h hs⟩,
    exec_restoreBell_in_use hb h⟩
  have hsettled : ((s.taken p).modBell b Bell.toReady).arbiter.settle = (s.taken p).modBell b Bell.toReady :=
    arbiter_settle_of_quiet hq
  rw [exec_restoreBell_faulted hb h hs, hsettled, ← respond_taken _ _ _ (resetPending_of_takes h),
    respond_eq _ _ _ _ (s.taken p) (by simpa [State.taken] using resetPending_of_takes h)]
  rfl

/-! ## BANK_MEASUREMENT (R132, R133) -/

section
variable {s : State} (v : Byte)

/-- R132: the state under a measurement, judged. -/
def State.measured (s : State) (v : Byte) : State := (s.setMeasurement v.toNat).classify

theorem measured_level : (s.measured v).drive.level =
    bankStep s.drive.level s.drive.low s.drive.critical v.toNat :=
  congrArg Drive.level (classify_drive (s.setMeasurement v.toNat))

variable (h : s.store.loading = false)
include h

/-- R132: a rise out of CRITICAL opens the bank to the arbiter. -/
theorem exec_bankMeasurement_rises (hs : s.drive.level = .critical) (hnew : (s.measured v).drive.level ≠ .critical) :
    exec (.bankMeasurement v) s = exec .fireTimeReached (s.measured v) := by
  have hrise : (s.setMeasurement v.toNat).reclassify = (s.measured v).arbiter :=
    if_pos (by simpa [State.measured, State.setMeasurement, hs] using hnew)
  show Host.Outcome.next (if s.store.loading then _ else ((s.setMeasurement v.toNat).reclassify).settle) = _
  rw [h, hrise]
  rfl

/-- R132: any other measurement leaves the arbiter as it was or closes it. -/
theorem exec_bankMeasurement_stays (hs : s.drive.level ≠ .critical ∨ (s.measured v).drive.level = .critical) :
    exec (.bankMeasurement v) s = exec .planningHorizonReached (s.measured v) := by
  have hstay : (s.setMeasurement v.toNat).reclassify = s.measured v := by
    refine if_neg ?_
    rw [Bool.and_eq_true, beq_iff_eq, bne_iff_ne]
    exact fun ⟨hcritical, hnew⟩ => hs.elim (· hcritical) hnew
  show Host.Outcome.next (if s.store.loading then _ else ((s.setMeasurement v.toNat).reclassify).settle) = _
  rw [h, hstay]
  rfl

end

/-- Nothing at play, waiting or planned is a matter of the engine and the strike queue. -/
theorem quiet_measured {s : State} (hq : s.quiet = true) (v : Byte) : (s.measured v).quiet = true := by
  have hengine : (s.measured v).engine = s.engine := raiseIf_engine ..
  have hplanner : (s.measured v).planner = s.planner := raiseIf_planner ..
  rw [quiet_iff, hengine, hplanner]
  exact (quiet_iff s).1 hq

/-- R132, R133: what BANK_MEASUREMENT does outside the load. -/
theorem exec_bankMeasurement {s : State} (v : Byte) (h : s.store.loading = false) :
    (s.quiet = true → exec (.bankMeasurement v) s = .next (s.measured v)) ∧
    (s.drive.level = .critical → (s.measured v).drive.level ≠ .critical →
      exec (.bankMeasurement v) s = exec .fireTimeReached (s.measured v)) ∧
    ((s.drive.level ≠ .critical ∨ (s.measured v).drive.level = .critical) →
      exec (.bankMeasurement v) s = exec .planningHorizonReached (s.measured v) ∧
      ((s.measured v).rests → exec (.bankMeasurement v) s = .next (s.measured v))) := by
  refine ⟨fun hq => ?_, exec_bankMeasurement_rises v h, fun hs => ?_⟩
  · by_cases hs : s.drive.level = .critical ∧ (s.measured v).drive.level ≠ .critical
    · rw [exec_bankMeasurement_rises v h hs.1 hs.2]
      exact fireTimeReached_of_quiet (quiet_measured hq v)
    · rw [exec_bankMeasurement_stays v h (by tauto)]
      obtain ⟨ha, -⟩ := (quiet_iff _).1 (quiet_measured hq v)
      exact congrArg Host.Outcome.next (settle_of_inactive _ ha)
  · rw [exec_bankMeasurement_stays v h hs]
    exact ⟨rfl, fun hrests => congrArg Host.Outcome.next (settle_of_rests _ hrests)⟩

/-- Settles O54: outside the load the measurement is judged (`State.measured`), and the arbiter re-evaluates at a rise
out of CRITICAL alone (`exec_bankMeasurement_rises`, `exec_bankMeasurement_stays`). -/
theorem bankMeasurementMovesTheLevel : Obligations.BankMeasurementMovesTheLevel := by
  unfold Obligations.BankMeasurementMovesTheLevel
  refine ⟨fun v s h => ?_, fun v s h => congrArg Host.Outcome.next (if_pos h)⟩
  have hclauses := exec_bankMeasurement v h
  rw [measured_level] at hclauses
  exact hclauses

end Sys2Proof.Machine
end
